-- ==== Sys2Proof/Word.lean ====
section
/-! DEFINITION. The plain words of the SQ-32: bytes, front-port addresses and the numbers of spec/00_scope.md
"Numbering". -/

namespace Sys2Proof

/-- One byte of memory. -/
abbrev Byte := BitVec 8

/-- The 40-bit address of a front-port request (R118). Addresses inside the part are plain numbers. -/
abbrev Address := BitVec 40

/-- A requester tag, 0 to 63 (R118). -/
abbrev Tag := Fin 64

/-- A station number, 0 to 31. -/
abbrev StationId := Fin 32

/-- A course number, 0 to 15. -/
abbrev CourseId := Fin 16

/-- A slot number within a station, 0 to 15. -/
abbrev SlotId := Fin 16

/-- A fault record number, 0 to 7. -/
abbrev RecordId := Fin 8

end Sys2Proof
end

