-- ==== Sys2Proof/Syntax.lean ====
section
/-! DEFINITION. The commands of the SQ-32: one constructor per row of spec/opcode_table.json. A command is an event
at the part (spec/00_scope.md "Events"). -/

namespace Sys2Proof

/-- The kind of a request (R118). -/
inductive Kind where
  | read
  | write
  deriving DecidableEq, Repr

/-- A request at the front port, with the fields of R118. Enables and data are empty for a READ. -/
structure Request where
  tag : Tag
  kind : Kind
  addr : Address
  len : Nat
  enables : List Bool
  data : List Byte
  deriving DecidableEq, Repr

/-- How the DRAM controller answers a request of the memory port (R124). `error left` is an answer with an error; for
a failed write, `left` gives the bytes that DRAM then holds at the enabled positions it names, since the spec leaves
open what the controller made of the write (R126; log 4). -/
inductive Answer where
  | okay
  | error (left : List Byte)
  deriving DecidableEq, Repr

/-- The four bytes an order processor write carries to one watched word, and which of them are enabled (R129). -/
structure WordWrite where
  enable : BitVec 4
  data : BitVec 32
  deriving DecidableEq, Repr

/-- Which of the two takers of a tick takes it first (R67, R105). -/
inductive TickOrder where
  | coursesFirst
  | timersFirst
  deriving DecidableEq, Repr

/-- The commands of the SQ-32. The argument `id` of an answer names the request of the memory port that is answered.
The rows of the intake ring carry the entry's NOTIFY flag and its parameters as the entry holds them. -/
inductive Instr where
  -- requests at the front port
  | requestArrival (r : Request)
  | forwardedResponse (id : Nat) (a : Answer)
  | tailWord (w : WordWrite)
  | noticeMask (w : WordWrite)
  | clearWord (w : WordWrite)
  | restartWord (w : WordWrite)
  | windowRead (tag : Tag) (addr : Address) (len : Nat)
  | assemblyReadReturn (id : Nat) (a : Answer)
  | bumpWrite (tag : Tag) (addr : Address) (len : Nat) (enables : List Bool) (data : List Byte)
  | redirectedBumpDone (id : Nat) (a : Answer)
  -- the intake ring
  | entryFetchDone (id : Nat) (a : Answer)
  | nop (notify : Bool)
  | post (notify : Bool) (line : BitVec 16)
  | lineFetchDone (id : Nat) (a : Answer)
  | dishFillDone (id : Nat) (a : Answer)
  | amendPortions (notify : Bool) (line value : BitVec 16)
  | amendSpecial (notify : Bool) (line value : BitVec 16)
  | amendTags (notify : Bool) (line value : BitVec 16)
  | amendLead (notify : Bool) (line value : BitVec 16)
  | amendWave (notify : Bool) (line value : BitVec 16)
  | amendRush (notify : Bool) (line value : BitVec 16)
  | amendStation (notify : Bool) (line value : BitVec 16)
  | void (notify : Bool) (line : BitVec 16)
  | fire (notify : Bool) (course : Byte) (countdown : BitVec 16)
  | hold (notify : Bool) (course : Byte)
  | resume (notify : Bool) (course : Byte)
  | service (notify : Bool) (count cycle : Byte) (courses : Vector Byte 8)
  | stationOpen (notify : Bool) (station : Byte)
  | stationClose (notify : Bool) (station : Byte)
  | stationPause (notify : Bool) (station : Byte)
  | stationUnpause (notify : Bool) (station : Byte)
  | stationBackup (notify : Bool) (station value : Byte)
  | stationCapacity (notify : Bool) (station value : Byte)
  | releaseStranded (notify : Bool) (station value : Byte)
  | flushAll (notify : Bool)
  | flushDish (notify : Bool) (target : BitVec 16)
  | flushStation (notify : Bool) (target : BitVec 16)
  | fence (notify : Bool)
  | plan (notify : Bool) (addr : Address)
  | planLineReadDone (id : Nat) (a : Answer)
  | ownWriteDone (id : Nat) (a : Answer)
  -- time
  | trefPeriod
  | tick (order : TickOrder)
  | ackTimerExpiry (station : StationId)
  -- reset and start-up
  | rstFall
  | rstRise (straps : BitVec 8)
  | setupReadDone (id : Nat) (a : Answer)
  deriving DecidableEq, Repr

end Sys2Proof
end

