-- ==== Sys2Proof/Decode.lean ====
section
/-! DEFINITION. The commands that a word spells by the bits of spec/opcode_table.json. No row of the table gives bits
(each row's "fields" is empty and none has "fixed" bits), so no word spells a command. The bytes of an intake entry,
of a ticket line, of the setup block, of a plan and of a dish record are read in Sys2Proof/Machine/Operands.lean. -/

namespace Sys2Proof

/-- No row of the opcode table gives bits, so no word spells a command. -/
def decodeTableWord (_nbits _w : Nat) : Option Instr := none

end Sys2Proof
end

