-- ==== Sys2Proof/Config.lean ====
section
/-! DEFINITION. The figures the SQ-32 fixes (spec/00_scope.md "Key figures"), and the one value the spec leaves to the
board: what a byte of DRAM reads as before anything has written it (log 3). -/

namespace Sys2Proof.Config

/-- Ticket entries of the Ticket Table (R3). -/
abbrev ticketEntries : Nat := 1024

/-- Batch records of the Batch Pool (R6). -/
abbrev batchRecords : Nat := 4096

/-- Most batches of one ticket (R9). -/
abbrev ticketBatches : Nat := 32

/-- Entries of the Dish Cache (R35). -/
abbrev dishCacheEntries : Nat := 64

/-- Requests in flight of one requester (R120). -/
abbrev requestsInFlight : Nat := 16

/-- Courses FIRED or HELD at one time (R48). -/
abbrev liveCourses : Nat := 4

/-- Entries of the finished log (R29). -/
abbrev finishedLogEntries : Nat := 128

/-- Largest value of a 16-bit saturating count, countdown or threshold (R12, R45). -/
abbrev wordMax : Nat := 65535

/-- Largest value of an 8-bit saturating count (R72, R162, R165). -/
abbrev byteMax : Nat := 255

/-- What a byte of DRAM reads as when nothing has written it. DESIGN CHOICE (log 3), unsafe. -/
abbrev dramFill : Byte := 0

end Sys2Proof.Config
end

