-- ==== Sys2Proof/Machine/Memory.lean ====
section
/-! DEFINITION. The board's DRAM: bytes by address, in one canonical form (addresses strictly rising, no byte equal to
what an unlisted address reads as), and the sparse tables of the part in the same shape. Multi-byte fields are
little-endian (spec/00_scope.md "Memory fields"). -/

namespace Sys2Proof.Machine

-- ## Bytes

/-- The byte at position `i` as a number; 0 beyond the end. -/
def byteAt (bs : List Byte) (i : Nat) : Nat := (bs.getD i 0).toNat

/-- The little-endian number in the `n` bytes from position `i`. -/
def leNat (bs : List Byte) (i : Nat) : Nat → Nat
  | 0 => 0
  | n + 1 => byteAt bs i + 256 * leNat bs (i + 1) n

/-- The `n` little-endian bytes of a number. -/
def leBytes : Nat → Nat → List Byte
  | 0, _ => []
  | n + 1, v => BitVec.ofNat 8 v :: leBytes n (v / 256)

/-- A flag as bit `i` of a byte. -/
def bitIf (b : Bool) (i : Nat) : Nat := if b then 2 ^ i else 0

-- ## DRAM

/-- The contents of DRAM. -/
abbrev Memory := List Host.Cell

/-- The byte at an address. -/
def Memory.read (a : Nat) : Memory → Byte
  | [] => Config.dramFill
  | (k, v) :: m => if k = a then v else Memory.read a m

/-- The byte `b` put at address `a`, keeping the canonical form. -/
def Memory.write (a : Nat) (b : Byte) : Memory → Memory
  | [] => if b = Config.dramFill then [] else [(a, b)]
  | (k, v) :: m =>
    if a < k then if b = Config.dramFill then (k, v) :: m else (a, b) :: (k, v) :: m
    else if a = k then if b = Config.dramFill then m else (a, b) :: m
    else (k, v) :: Memory.write a b m

/-- The canonical form: addresses above `lo` strictly rising, no byte equal to the fill. -/
def Memory.wfFrom (lo : Nat) : Memory → Bool
  | [] => true
  | (k, v) :: m => decide (lo ≤ k) && decide (v ≠ Config.dramFill) && Memory.wfFrom (k + 1) m

/-- The canonical form of DRAM. -/
def Memory.wf (m : Memory) : Bool := Memory.wfFrom 0 m

/-- The `n` bytes from address `a`. -/
def Memory.readBytes (m : Memory) (a : Nat) : Nat → List Byte
  | 0 => []
  | n + 1 => Memory.read a m :: Memory.readBytes m (a + 1) n

/-- The given bytes put from address `a` on; a `none` leaves its byte as it was. -/
def Memory.writeBytes (m : Memory) (a : Nat) : List (Option Byte) → Memory
  | [] => m
  | none :: bs => Memory.writeBytes m (a + 1) bs
  | some b :: bs => Memory.writeBytes (Memory.write a b m) (a + 1) bs

-- ## Sparse tables

/-- A sparse table: the numbers in use, rising, each with its record. A number that is not listed is free. -/
abbrev Table (α : Type) := List (Nat × α)

/-- The record at a number, if it is in use. -/
def Table.get? {α : Type} (k : Nat) : Table α → Option α
  | [] => none
  | (j, v) :: t => if j = k then some v else Table.get? k t

/-- The record `v` at number `k`, put in its place. -/
def Table.put {α : Type} (k : Nat) (v : α) : Table α → Table α
  | [] => [(k, v)]
  | (j, w) :: t => if k < j then (k, v) :: (j, w) :: t else if k = j then (k, v) :: t else (j, w) :: Table.put k v t

/-- The record at number `k` changed by `f`, if it is in use. -/
def Table.update {α : Type} (k : Nat) (f : α → α) : Table α → Table α
  | [] => []
  | (j, v) :: t => if j = k then (j, f v) :: t else (j, v) :: Table.update k f t

/-- The table with number `k` free. -/
def Table.erase {α : Type} (k : Nat) (t : Table α) : Table α := t.filter (fun e => e.1 != k)

/-- Numbers rising. -/
def Table.wfFrom {α : Type} (lo : Nat) : Table α → Bool
  | [] => true
  | (k, _) :: t => decide (lo ≤ k) && Table.wfFrom (k + 1) t

/-- The `n` lowest free numbers from `i` on, in rising order. -/
def Table.freeFrom {α : Type} (i n : Nat) : Table α → List Nat
  | [] => List.range' i n
  | (k, _) :: t =>
    if i < k then List.range' i (min n (k - i)) ++ Table.freeFrom (k + 1) (n - (k - i)) t
    else Table.freeFrom (k + 1) n t

/-- The `n` lowest free numbers of a table, in rising order (R6, R15). -/
def Table.lowestFree {α : Type} (n : Nat) (t : Table α) : List Nat := Table.freeFrom 0 n t

end Sys2Proof.Machine
end

