-- ==== Sys2Proof/Machine/Types.lean ====
section
/-! DEFINITION. The records that the tables of the SQ-32 hold, under the names of the spec. -/

namespace Sys2Proof.Machine

/-- The part states (R177). -/
inductive PartState where
  | start
  | transparent
  | idle
  | ready
  | stopped
  deriving DecidableEq, Repr

-- ## Setup and plan

/-- A guard range of the setup block: base and limit in 64 KiB units (R121, R179). -/
structure Guard where
  enabled : Bool
  base : Nat
  limit : Nat
  deriving DecidableEq, Repr

/-- The fields of the setup block (R179). -/
structure Setup where
  planAddr : Nat
  ringBase : Nat
  ringCode : Nat
  poolBase : Nat
  lineCount : Nat
  windowBase : Nat
  ps : Nat
  pt : Nat
  divider : Nat
  stopOnFatal : Bool
  guard0 : Guard
  guard1 : Guard
  deriving DecidableEq, Repr

/-- The fields of plan line 0: the dish table and the course count (R30, R44, R180). -/
structure PlanHeader where
  dishBase : Nat
  dishCount : Nat
  courseCount : Nat
  deriving DecidableEq, Repr

/-- The two passes of a plan load (R181). -/
inductive PlanPass where
  | check
  | load
  deriving DecidableEq, Repr

/-- Who asked for a plan load: start-up (R178) or the PLAN command (R182). -/
inductive PlanOrigin where
  | startUp
  | command
  deriving DecidableEq, Repr

/-- A plan load in flight: the read of line `line` has been issued (R181). `header` is line 0 as the present pass
read it. -/
structure PlanLoad where
  origin : PlanOrigin
  addr : Nat
  pass : PlanPass
  line : Nat
  header : PlanHeader
  deriving DecidableEq, Repr

/-- The Setup Loader's work in flight (R178, R181). -/
inductive Loader where
  | idle
  | setupLow
  | setupHigh (low : List Byte)
  | planning (load : PlanLoad)
  deriving DecidableEq, Repr

/-- The latched values of the four watched words (R129). -/
structure Latched where
  tail : BitVec 32
  mask : BitVec 32
  clear : BitVec 32
  restart : BitVec 32
  deriving DecidableEq, Repr

-- ## The memory path

/-- The status of a response (R118). -/
inductive ResponseStatus where
  | okay
  | refused
  | memfail
  deriving DecidableEq, Repr

/-- A response (R118). The data is empty for a WRITE. -/
structure Response where
  status : ResponseStatus
  data : List Byte
  deriving DecidableEq, Repr

/-- A request in flight in its requester's list, with its response once it is complete (R120). -/
structure Flight where
  id : Nat
  req : Request
  response : Option Response
  deriving DecidableEq, Repr

/-- The part's own requests, by what they are for (R134). -/
inductive OwnRequest where
  | identityWord
  | startHead
  | startTail
  | setupRead
  | planRead
  | entryFetch
  | entryStatus
  | headWord
  | lineFetch
  | finishedLog
  | dishFill
  | courseMirror (c : CourseId)
  | serviceMirror
  | stationMirror (st : StationId)
  | bumpClear (st : StationId)
  | faultMirror (i : RecordId)
  | noticeWord
  deriving DecidableEq, Repr

/-- Whose request a memory request is, so to whom its response returns (R125). `flight` names the request in flight
that it serves. -/
inductive Owner where
  | forwarded (flight : Nat)
  | assemblyBump (flight : Nat)
  | assemblyLine (flight : Nat)
  | bump (flight : Nat)
  | own (o : OwnRequest)
  deriving DecidableEq, Repr

/-- A request of the memory port: the fields of R118, its name, its owner, and whether a restart has its response
discarded (R136). -/
structure MemRequest where
  id : Nat
  tag : Tag
  kind : Kind
  addr : Nat
  len : Nat
  enables : List Bool
  data : List Byte
  owner : Owner
  discard : Bool
  deriving DecidableEq, Repr

/-- An assembly record (R141): the requester and the touched bytes `first` to `first + len - 1` of the slot line, the
captured synthesized bytes, the two addresses where the read needs them, the reads outstanding, the error mark, and
the bytes that the reads have returned so far. -/
structure Assembly where
  flight : Nat
  tag : Tag
  first : Nat
  len : Nat
  synth : List Byte
  bumpAddr : Option Nat
  lineAddr : Option Nat
  outstanding : Nat
  error : Bool
  bumpBytes : List Byte
  lineBytes : List Byte
  deriving DecidableEq, Repr

-- ## Tickets and batches

/-- The fields the part takes from a ticket line (R1), each as the line holds it. -/
structure TicketLine where
  hostId : BitVec 16
  course : Nat
  wave : Fin 4
  rush : Bool
  dish : Nat
  portions : Nat
  special : Nat
  tags : BitVec 16
  lead : Nat
  deriving DecidableEq, Repr

/-- A LIVE ticket entry (R3). `batches` is the batch list: record numbers in batch-number order. -/
structure Ticket where
  line : Nat
  hostId : BitVec 16
  course : CourseId
  wave : Fin 4
  dish : Nat
  rush : Bool
  portions : Nat
  special : Nat
  tags : BitVec 16
  lead : Nat
  station : Option StationId
  batches : List Nat
  finished : Nat
  voided : Bool
  deriving DecidableEq, Repr

/-- The kinds of batch (R7). -/
inductive BatchKind where
  | regular
  | special
  deriving DecidableEq, Repr

/-- The states of a batch (R8). The slot is present in SHOWN and COOKING only (R7). -/
inductive BatchState where
  | planned
  | due
  | shown (k : SlotId)
  | cooking (k : SlotId)
  | stranded
  | done
  | void
  deriving DecidableEq, Repr

/-- A batch record in use (R7). -/
structure Batch where
  owner : Nat
  number : Nat
  kind : BatchKind
  portions : Nat
  target : StationId
  threshold : Nat
  state : BatchState
  late : Bool
  moved : Bool
  rush : Bool
  voided : Bool
  deriving DecidableEq, Repr

/-- The fields that AMEND can change, with their codes in R19. -/
inductive AmendField where
  | portions
  | special
  | tags
  | lead
  | wave
  | rush
  | station
  deriving DecidableEq, Repr

/-- The outcomes of a finished-log entry (R29). -/
inductive TicketOutcome where
  | allDone
  | partVoid
  | allVoid
  deriving DecidableEq, Repr

-- ## Dishes

/-- A divert entry of a dish record; unused when its mask is 0 (R31). -/
structure Divert where
  station : Nat
  mask : BitVec 16
  deriving DecidableEq, Repr

/-- The fields of a dish record as the bytes give them (R31). `unitCode` is the lead unit code: 0 for 1 tick, 1 for 16
ticks. -/
structure DishRecord where
  home : Nat
  batchSize : Nat
  lead : Nat
  unitCode : Nat
  gap : Nat
  specialPosition : Nat
  divertB : Divert
  divertC : Divert
  divertD : Divert
  deriving DecidableEq, Repr

/-- An entry of the Dish Cache (R35). -/
structure CacheEntry where
  dish : Nat
  record : DishRecord
  deriving DecidableEq, Repr

-- ## Courses and the service

/-- The states of a course (R45). -/
inductive CourseState where
  | idle
  | staged
  | fired
  | held
  | passed
  | cleared
  deriving DecidableEq, Repr

/-- The plan fields of a course record (R44). -/
structure CoursePlan where
  countdown : Nat
  autoFire : Bool
  waves : Nat
  marks : Vector Nat 4
  grace : Nat
  deriving DecidableEq, Repr

/-- A course record: plan fields (R44) and live fields (R45). -/
structure Course where
  plan : CoursePlan
  state : CourseState
  countdown : Nat
  late : Nat
  openCount : Nat
  deriving DecidableEq, Repr

/-- The states of the service (R59). -/
inductive ServiceState where
  | none
  | running
  | stalled
  | ended
  deriving DecidableEq, Repr

/-- A list of courses with its repeat flag (R59). -/
structure CourseList where
  courses : List CourseId
  cycle : Bool
  deriving DecidableEq, Repr

/-- The service record (R59). -/
structure Service where
  state : ServiceState
  list : CourseList
  position : Nat
  pending : Option CourseList
  deriving DecidableEq, Repr

-- ## Stations

/-- The states of a station (R72). -/
inductive StationState where
  | closed
  | opened
  | paused
  | down
  deriving DecidableEq, Repr

/-- What a station's ack timer has done with the present tick (log 16): `early`, it has taken a produced tick that
TICK has not yet taken; `owed`, TICK has passed and the station has not yet taken it. `spared` and `owedSpared` are the
same tick still to come and already owed, when a read or a bump that was taken first has reloaded the timer that the
tick would have expired: it lowers the timer and expires nothing (R114, R115; log 26). -/
inductive TickMark where
  | clear
  | early
  | owed
  | spared
  | owedSpared
  deriving DecidableEq, Repr

/-- The plan fields of a station record (R71). -/
structure StationPlan where
  initial : StationState
  capacity : Nat
  backup : Option StationId
  timeout : Nat
  retryLimit : Nat
  returnCount : Nat
  deriving DecidableEq, Repr

/-- A station record: plan fields (R71) and live fields (R72). The due queue is held in its two parts (R74); the queue
is `prio ++ ordinary`. Batches are named by their record numbers. -/
structure Station where
  plan : StationPlan
  state : StationState
  tokens : Nat
  slots : Vector (Option Nat) 16
  prio : List Nat
  ordinary : List Nat
  stranded : List Nat
  timer : Option Nat
  retry : Nat
  progress : Nat
  tick : TickMark
  deriving DecidableEq, Repr

/-- The patterns of an alert line (R98). -/
inductive AlertPattern where
  | off
  | fast
  | steady
  | slow
  deriving DecidableEq, Repr

-- ## Notices

/-- The reasons of a fault (R165). -/
inductive FaultReason where
  | accessRefused
  | badTail
  | ownReadFailed
  | ownWriteFailed
  | stationDown
  | noBackup
  | stranded
  | badBump
  | liveLimit
  | setupInvalid
  | planInvalid
  deriving DecidableEq, Repr

/-- A fault as its reporting block gives it; fields that its rule does not name are 0 (R166). -/
structure FaultReport where
  reason : FaultReason
  source : Tag
  sub : Nat := 0
  station : Nat := 0
  course : Nat := 0
  line : Nat := 0
  addr : Nat := 0
  deriving DecidableEq, Repr

/-- A valid fault record: the first occurrence and the repeat count (R165). -/
structure FaultRecord where
  report : FaultReport
  count : Nat
  deriving DecidableEq, Repr

/-- The five latched notice conditions (R169). -/
structure Conditions where
  notify : Bool
  cleared : Bool
  down : Bool
  stall : Bool
  ended : Bool
  deriving DecidableEq, Repr

-- ## The intake ring

/-- The status codes of an intake entry that the part writes (R158). -/
inductive Status where
  | done
  | doneReplaced
  | badCommand
  | badField
  | badState
  | noRoom
  | duplicate
  | tooLate
  | limit
  | badDish
  | badLine
  | memoryError
  | badPlan
  | notPosted
  deriving DecidableEq, Repr

/-- The granularities of FLUSH (R42). -/
inductive FlushKind where
  | all
  | dish
  | station
  deriving DecidableEq, Repr

/-- The actions of STATION (R88). -/
inductive StationAction where
  | opening
  | close
  | pause
  | unpause
  | backup
  | capacity
  | releaseStranded
  deriving DecidableEq, Repr

/-- A command of the intake ring, as a taken entry holds it (R164). The last constructor of a family is a parameter
code that names no field, action or granularity (R19, R89, R43); `unknown` is a command code that names no command
(R156). -/
inductive Command where
  | nop
  | post (line : Nat)
  | amend (field : AmendField) (line value : Nat)
  | amendOther (line : Nat)
  | void (line : Nat)
  | fire (course countdown : Nat)
  | hold (course : Nat)
  | resume (course : Nat)
  | service (count cycle : Nat) (courses : List Nat)
  | station (action : StationAction) (station value : Nat)
  | stationOther
  | flush (kind : FlushKind) (target : Nat)
  | flushOther
  | fence
  | plan (addr : Nat)
  | unknown
  deriving DecidableEq, Repr

/-- What a RUNNING entry waits for (R160). -/
inductive Running where
  | postLine (line : Nat)
  | postDish (line : Nat) (ticket : TicketLine)
  | amendDish (line dish course : Nat) (field : AmendField) (value : Nat)
  | plan
  | fence (waited : List Nat) (failed : Nat)
  deriving DecidableEq, Repr

/-- The entry in progress (R152): FETCHING, with the name of its fetch, or RUNNING, with its NOTIFY flag. -/
inductive Progress where
  | fetching (id : Nat)
  | running (notify : Bool) (work : Running)
  deriving DecidableEq, Repr

/-- The Intake Unit's own state (R152). -/
structure Intake where
  head : Nat
  tail : Nat
  progress : Option Progress
  deriving DecidableEq, Repr

/-- The mirror entries that the present event must write (R69, R70, R100, R168; log 22). -/
structure Marks where
  courses : List CourseId
  stations : List StationId
  service : Bool
  faults : List RecordId
  deriving DecidableEq, Repr

end Sys2Proof.Machine
end

