-- ==== Sys2Proof/Machine/MemPort.lean ====
section
/-! DEFINITION. The memory port's issue order and its one hold (R125), and what a restart and RST do to it (R136,
R137). -/

namespace Sys2Proof.Machine

/-- The memory port: requests in issue order that are not yet issued, requests issued and not yet answered, requests
issued before RST whose answer the part no longer takes (R137; log 12), and the counter that names requests
(log 23). -/
structure MemPort where
  waiting : List MemRequest
  issued : List MemRequest
  orphans : List MemRequest
  nextId : Nat
  deriving DecidableEq, Repr

/-- The 64-byte line of a request. -/
def MemRequest.lineOf (m : MemRequest) : Nat := m.addr / 64

/-- An issued, unanswered request holds every later request to its line (R125). -/
def sharesLine (issued : List MemRequest) (m : MemRequest) : Bool :=
  issued.any (fun i => i.lineOf == m.lineOf)

/-- Issue from the front of the waiting requests until one is held (R125); everything behind a held request is held. -/
def issueFrom : List MemRequest → List MemRequest → List MemRequest × List MemRequest
  | [], issued => ([], issued)
  | m :: rest, issued => if sharesLine issued m then (m :: rest, issued) else issueFrom rest (issued ++ [m])

/-- Issue what nothing holds (log 5). -/
def MemPort.settle (p : MemPort) : MemPort :=
  { p with waiting := (issueFrom p.waiting p.issued).1, issued := (issueFrom p.waiting p.issued).2 }

/-- A request enters the issue order under the next name, and is issued at once when nothing holds it (R125; log 5). -/
def MemPort.enqueue (p : MemPort) (m : MemRequest) : MemPort :=
  if p.waiting.isEmpty && !sharesLine p.issued m then
    { p with issued := p.issued ++ [{ m with id := p.nextId }], nextId := p.nextId + 1 }
  else
    { p with waiting := p.waiting ++ [{ m with id := p.nextId }], nextId := p.nextId + 1 }

/-- The requests entered in order. -/
def MemPort.enqueueAll (p : MemPort) (ms : List MemRequest) : MemPort := ms.foldl MemPort.enqueue p

/-- An issued request is answered: it leaves, and what it held is issued. -/
def MemPort.answered (p : MemPort) (id : Nat) : MemPort :=
  MemPort.settle { p with issued := p.issued.filter (fun m => m.id != id) }

/-- Is this one of the part's own requests? -/
def MemRequest.isOwn (m : MemRequest) : Bool :=
  match m.owner with
  | .own _ => true
  | .forwarded _ | .assemblyBump _ | .assemblyLine _ | .bump _ => false

/-- R136: own requests not yet issued are dropped, and the responses of own requests already issued are discarded. -/
def MemPort.restarted (p : MemPort) : MemPort :=
  MemPort.settle
    { p with
      waiting := p.waiting.filter (fun m => !m.isOwn)
      issued := p.issued.map (fun m => if m.isOwn then { m with discard := true } else m) }

/-- R137: waiting requests are dropped, and the responses of issued ones are discarded when they return. -/
def MemPort.fallen (p : MemPort) : MemPort :=
  { p with waiting := [], issued := [], orphans := p.orphans ++ p.issued }

/-- The part's own writes that have entered the issue order and are not yet answered (R134, R162; log 19). -/
def MemPort.ownWrites (p : MemPort) : List Nat :=
  ((p.issued ++ p.waiting).filter (fun m => m.isOwn && m.kind == .write && !m.discard)).map (fun m => m.id)

/-- An own request, tagged 63, with every byte enabled (R134). -/
def ownRequest (o : OwnRequest) (kind : Kind) (addr len : Nat) (data : List Byte) : MemRequest :=
  { id := 0, tag := 63, kind := kind, addr := addr, len := len
    enables := data.map (fun _ => true), data := data, owner := .own o, discard := false }

/-- What an answered request does to DRAM: a write puts its enabled bytes (R124); a failed write leaves what its
answer says (R126; log 4); a read changes nothing. -/
def serve (m : MemRequest) (a : Answer) (dram : Memory) : Memory :=
  match m.kind with
  | .read => dram
  | .write =>
    match a with
    | .okay =>
      Memory.writeBytes dram m.addr ((m.enables.zip m.data).map (fun e => if e.1 then some e.2 else none))
    | .error left =>
      Memory.writeBytes dram m.addr ((m.enables.zip left).map (fun e => if e.1 then some e.2 else none))

end Sys2Proof.Machine
end

