-- ==== Sys2Proof/Machine/Layout.lean ====
section
/-! DEFINITION. The bytes that the part writes: codes and record layouts of spec/11_record_layouts.md, reserved bytes 0
(R185), each write one request (R186). -/

namespace Sys2Proof.Machine

-- ## Places in the anchor block (anchor block map)

/-- The anchor base is the captured strap value times 16 MiB (R176). -/
def anchorOf (straps : BitVec 8) : Nat := straps.toNat * 2 ^ 24

/-- Offsets of the anchor block map. -/
def offTail : Nat := 0x80
def offIdentity : Nat := 0xA0
def offHead : Nat := 0xA4
def offNotice : Nat := 0xA8
def offService : Nat := 0xB0
def offFault (i : RecordId) : Nat := 0x100 + i.val * 32
def offCourse (c : CourseId) : Nat := 0x200 + c.val * 16
def offStation (st : StationId) : Nat := 0x300 + st.val * 16
def offFinished (j : Nat) : Nat := 0x500 + j * 8
def offBump (st : StationId) (k : SlotId) : Nat := 0x1000 + st.val * 128 + k.val * 8

/-- `n` zero bytes. -/
def zeros (n : Nat) : List Byte := List.replicate n 0

-- ## Codes

/-- Status codes (R158). -/
def Status.code : Status → Nat
  | .done => 0x01
  | .doneReplaced => 0x02
  | .badCommand => 0x10
  | .badField => 0x11
  | .badState => 0x12
  | .noRoom => 0x13
  | .duplicate => 0x14
  | .tooLate => 0x15
  | .limit => 0x16
  | .badDish => 0x17
  | .badLine => 0x18
  | .memoryError => 0x19
  | .badPlan => 0x1A
  | .notPosted => 0x1B

/-- Reason codes of a fault record. -/
def FaultReason.code : FaultReason → Nat
  | .accessRefused => 1
  | .badTail => 2
  | .ownReadFailed => 3
  | .ownWriteFailed => 4
  | .stationDown => 5
  | .noBackup => 6
  | .stranded => 7
  | .badBump => 8
  | .liveLimit => 9
  | .setupInvalid => 10
  | .planInvalid => 11

/-- Course state codes of the course mirror. -/
def CourseState.code : CourseState → Nat
  | .idle => 0
  | .staged => 1
  | .fired => 2
  | .held => 3
  | .passed => 4
  | .cleared => 5

/-- Station state codes of the station mirror. -/
def StationState.code : StationState → Nat
  | .closed => 0
  | .opened => 1
  | .paused => 2
  | .down => 3

/-- Service state codes of the service mirror. -/
def ServiceState.code : ServiceState → Nat
  | .none => 0
  | .running => 1
  | .stalled => 2
  | .ended => 3

/-- Outcome codes of a finished-log entry (R29). -/
def TicketOutcome.code : TicketOutcome → Nat
  | .allDone => 1
  | .partVoid => 2
  | .allVoid => 3

-- ## Reports written by the part

/-- The identity word: part code 32, revision 1 (R176). -/
def identityBytes : List Byte := [32, 1, 0, 0]

/-- A fault-log mirror entry; a free record's entry is 32 zero bytes (R168). -/
def faultBytes : Option FaultRecord → List Byte
  | none => zeros 32
  | some r =>
    leBytes 1 1 ++ leBytes 1 r.report.reason.code ++ leBytes 1 r.report.source.val ++ leBytes 1 r.report.sub
      ++ leBytes 1 r.report.station ++ leBytes 1 r.report.course ++ leBytes 2 r.report.line
      ++ leBytes 5 r.report.addr ++ leBytes 1 r.count ++ zeros 18

/-- A course mirror entry (R69). -/
def Course.mirrorBytes (c : Course) : List Byte :=
  leBytes 1 c.state.code ++ zeros 1 ++ leBytes 2 c.countdown ++ leBytes 2 c.late ++ leBytes 2 c.openCount ++ zeros 8

/-- A station mirror entry (R100). -/
def Station.mirrorBytes (st : Station) : List Byte :=
  leBytes 1 st.state.code ++ leBytes 1 st.tokens ++ leBytes 2 (st.prio.length + st.ordinary.length)
    ++ leBytes 2 st.stranded.length ++ leBytes 1 st.retry ++ zeros 9

/-- The service mirror (R70). -/
def Service.mirrorBytes (v : Service) : List Byte :=
  leBytes 1 v.state.code ++ leBytes 1 v.position ++ leBytes 1 (if v.pending.isSome then 1 else 0) ++ zeros 13

/-- A finished-log entry (R29). -/
def finishedBytes (t : Ticket) (o : TicketOutcome) : List Byte :=
  leBytes 2 t.hostId.toNat ++ leBytes 2 t.line ++ leBytes 1 t.course.val ++ leBytes 1 o.code ++ zeros 2

/-- The notice word: the shown conditions in bits 0 to 6 of byte 0 (R170). -/
def noticeBytes (shown : BitVec 7) : List Byte := leBytes 1 shown.toNat ++ zeros 3

-- ## Requests of start-up

/-- A write of the part at an anchor offset. -/
def anchorWrite (straps : BitVec 8) (o : OwnRequest) (off : Nat) (data : List Byte) : MemRequest :=
  ownRequest o .write (anchorOf straps + off) data.length data

/-- The requests that START issues in order: the eight fault-log mirror entries as free, the notice word as 0, the
identity word, 0 to the head word and the tail word, and the first setup read (R168, R178). -/
def startUpRequests (straps : BitVec 8) : List MemRequest :=
  (List.finRange 8).map (fun i => anchorWrite straps (.faultMirror i) (offFault i) (faultBytes none))
    ++ [anchorWrite straps .noticeWord offNotice (noticeBytes 0),
        anchorWrite straps .identityWord offIdentity identityBytes,
        anchorWrite straps .startHead offHead (zeros 4),
        anchorWrite straps .startTail offTail (zeros 4),
        ownRequest .setupRead .read (anchorOf straps) 64 []]

end Sys2Proof.Machine
end

