-- ==== Sys2Proof/Machine/State.lean ====
section
/-! DEFINITION. The state of the SQ-32: every table, register and pin the spec gives the part, the DRAM on the board,
and the queue of waiting commands. Plain data. -/

namespace Sys2Proof.Machine

/-- Reasons a step can stop with a fault. There is none: every event of the opcode table has an effect, and the
spec's own faults are records of the fault log (R165), which stop no step. Safe. -/
inductive Fault where
  deriving DecidableEq, Repr

/-- Reasons a step can be refused. -/
inductive Refusal where
  /-- Raised by an arm of exec whose command has no meaning yet; no arm does. Safe. -/
  | notModelled (mnemonic : String)
  deriving DecidableEq, Repr

/-- The state of the machine. -/
structure State where
  /-- Commands that wait, first in, first out. -/
  pending : List Instr
  /-- The part state (R177). -/
  part : PartState
  /-- The RST pin is low (R184). -/
  rstLow : Bool
  /-- The ANCHOR straps as captured at the last rise of RST (R176). -/
  straps : BitVec 8
  /-- The setup in force (R179). -/
  setup : Option Setup
  /-- The fields of plan line 0 in force (R30, R44, R181). -/
  plan : PlanHeader
  /-- The Setup Loader's work in flight (R178, R181). -/
  loader : Loader
  /-- The latched watched words (R129). -/
  latched : Latched
  /-- The fault records (R165). -/
  faults : Vector (Option FaultRecord) 8
  /-- The overflow mark (R165). -/
  overflow : Bool
  /-- The latched notice conditions (R169). -/
  conditions : Conditions
  /-- The shown conditions as the last notice word write gave them (R170). -/
  noticeShown : BitVec 7
  /-- The requests in flight of each requester, in arrival order (R120). -/
  flights : Vector (List Flight) 64
  /-- Requests presented while their requester's list is full (R120; log 14). -/
  portWaiting : List Request
  /-- The responses returned in the latest step (R120; log 23). -/
  responses : List (Tag × Response)
  /-- Counter that names requests in flight (log 23). -/
  arrivals : Nat
  /-- The memory port (R125). -/
  port : MemPort
  /-- The assembly records (R141). -/
  assemblies : List Assembly
  /-- DRAM (spec/00_scope.md "The board"). -/
  dram : Memory
  /-- The LIVE ticket entries (R3). -/
  tickets : Table Ticket
  /-- The pool lines whose lock is held (R4). -/
  locks : List Nat
  /-- The batch records in use (R6). -/
  pool : Table Batch
  /-- The finished-log write index (R29). -/
  logIndex : Nat
  /-- The Dish Cache, from most recent to least recent (R35). -/
  cache : List CacheEntry
  /-- The course records (R44, R45). -/
  courses : Vector Course 16
  /-- The service record (R59). -/
  service : Service
  /-- The tick divider's phase (R67); while no code is held, log 34. -/
  tickPhase : Nat
  /-- TREF periods since the end of RST or of a restart, modulo 1024 (R68). -/
  blink : Nat
  /-- Ticks produced and not yet taken (R67; log 16). -/
  ticksDue : Nat
  /-- The station records (R71, R72). -/
  stations : Vector Station 32
  /-- The Intake Unit (R152). -/
  intake : Intake
  /-- The mirror entries that the present event must write (log 22). -/
  marks : Marks
  deriving DecidableEq, Repr

/-- No setup-dependent plan in force (log 10). -/
def noPlan : PlanHeader := { dishBase := 0, dishCount := 0, courseCount := 0 }

/-- The plan fields of an unplanned course (R44). -/
def unplannedCourse : CoursePlan :=
  { countdown := 0, autoFire := false, waves := 1, marks := Vector.replicate 4 0, grace := 0 }

/-- A course with the given plan fields and the live fields of a plan put in force (R45). -/
def Course.fresh (p : CoursePlan) : Course :=
  { plan := p, state := .idle, countdown := 0, late := 0, openCount := 0 }

/-- The plan fields of a station while no plan gives them: capacity 0 and backup NONE (R72); the other four DESIGN
CHOICE (log 8), unsafe. -/
def resetStationPlan : StationPlan :=
  { initial := .closed, capacity := 0, backup := none, timeout := 0, retryLimit := 0, returnCount := 0 }

/-- A station with the given plan fields and the live fields of a plan put in force (R72). -/
def Station.fresh (p : StationPlan) : Station :=
  { plan := p, state := p.initial, tokens := 0, slots := Vector.replicate 16 none, prio := [], ordinary := []
    stranded := [], timer := none, retry := 0, progress := 0, tick := .clear }

/-- The service record with no service: state, list, position and pending list as R59 gives them; the repeat flag, which
R59 does not give, clear: DESIGN CHOICE (log 33), safe. -/
def Service.empty : Service :=
  { state := .none, list := { courses := [], cycle := false }, position := 0, pending := none }

/-- The latched words after RST and after a restart: notice mask FAULT only, the others 0 (R129). -/
def Latched.reset : Latched := { tail := 0, mask := 1, clear := 0, restart := 0 }

/-- All latched conditions clear (R169). -/
def Conditions.clear : Conditions :=
  { notify := false, cleared := false, down := false, stall := false, ended := false }

/-- The Intake Unit after RST and after a restart (R152). -/
def Intake.reset : Intake := { head := 0, tail := 0, progress := none }

/-- No mirror entry to write. -/
def Marks.empty : Marks := { courses := [], stations := [], service := false, faults := [] }

/-- An idle memory port. -/
def MemPort.empty : MemPort := { waiting := [], issued := [], orphans := [], nextId := 0 }

/-- The machine right after reset: RST has risen with all straps low (DESIGN CHOICE, log 7), every table holds its reset
value (R183, R184), the part is in START and start-up's first requests have entered the memory port (R178). -/
def State.reset : State :=
  { pending := []
    part := .start
    rstLow := false
    straps := 0
    setup := none
    plan := noPlan
    loader := .setupLow
    latched := Latched.reset
    faults := Vector.replicate 8 none
    overflow := false
    conditions := Conditions.clear
    noticeShown := 0
    flights := Vector.replicate 64 []
    portWaiting := []
    responses := []
    arrivals := 0
    port := MemPort.empty.enqueueAll (startUpRequests 0)
    assemblies := []
    dram := []
    tickets := []
    locks := []
    pool := []
    logIndex := 0
    cache := []
    courses := Vector.replicate 16 (Course.fresh unplannedCourse)
    service := Service.empty
    tickPhase := 0
    blink := 0
    ticksDue := 0
    stations := Vector.replicate 32 (Station.fresh resetStationPlan)
    intake := Intake.reset
    marks := Marks.empty }

end Sys2Proof.Machine
end

