-- ==== Sys2Proof/Machine/Flags.lean ====
section
/-! DEFINITION. The flags and output levels that follow from the state: the notice conditions and ATTN (R169 to R171),
the alert patterns and levels (R98, R99), and the blink phases (R68). None of them is stored twice (log 24). -/

namespace Sys2Proof.Machine

-- ## Notice conditions

/-- FAULT holds while at least one fault record is valid (R169). -/
def State.faultHolds (s : State) : Bool := (List.finRange 8).any (fun i => (s.faults[i]).isSome)

/-- The conditions that hold, in the order of R169: bit 0 FAULT to bit 6 ENDED. -/
def State.holding (s : State) : BitVec 7 :=
  BitVec.ofNat 7
    (bitIf s.faultHolds 0 + bitIf s.overflow 1 + bitIf s.conditions.notify 2 + bitIf s.conditions.cleared 3
      + bitIf s.conditions.down 4 + bitIf s.conditions.stall 5 + bitIf s.conditions.ended 6)

/-- The notice mask in force: the seven mask bits of the latched word (R170). -/
def State.mask (s : State) : BitVec 7 := s.latched.mask.setWidth 7

/-- The shown conditions: those that hold and whose mask bit is set (R170). -/
def State.shown (s : State) : BitVec 7 := s.holding &&& s.mask

/-- ATTN is high while at least one condition is shown, and low while RST is low (R171). -/
def State.attn (s : State) : Bool := !s.rstLow && s.shown != 0

-- ## Blink phases

/-- The fast phase is on for 128 TREF periods and off for 128, beginning on (R68). -/
def State.fastOn (s : State) : Bool := decide (s.blink % 256 < 128)

/-- The slow phase is on for 512 TREF periods and off for 512, beginning on (R68). -/
def State.slowOn (s : State) : Bool := decide (s.blink % 1024 < 512)

-- ## Batches in slots

/-- The batch in slot `k` of a station, with its record number. -/
def State.slotBatch (s : State) (st : StationId) (k : SlotId) : Option (Nat × Batch) :=
  match (s.stations[st]).slots[k] with
  | none => none
  | some r =>
    match Table.get? r s.pool with
    | none => none
    | some b => some (r, b)

/-- A SHOWN batch stands in slot `k`: an unread batch of the station. -/
def State.slotUnread (s : State) (st : StationId) (k : SlotId) : Bool :=
  match s.slotBatch st k with
  | some (_, b) => match b.state with
    | .shown _ => true
    | .planned | .due | .cooking _ | .stranded | .done | .void => false
  | none => false

/-- A COOKING batch that carries LATE or VOIDED stands in slot `k` (R98). -/
def State.slotTroubled (s : State) (st : StationId) (k : SlotId) : Bool :=
  match s.slotBatch st k with
  | some (_, b) => match b.state with
    | .cooking _ => b.late || b.voided
    | .planned | .due | .shown _ | .stranded | .done | .void => false
  | none => false

/-- The station holds an unread batch (the SHOWN batches in its slots). -/
def State.hasUnread (s : State) (st : StationId) : Bool := (List.finRange 16).any (fun k => s.slotUnread st k)

-- ## Alert lines

/-- The pattern of a station's alert line: the first row of R98's table whose condition holds. -/
def State.alertPattern (s : State) (st : StationId) : AlertPattern :=
  if (s.stations[st]).state = .closed then .off
  else if 0 < (s.stations[st]).retry then .fast
  else if s.hasUnread st then .steady
  else if (List.finRange 16).any (fun k => s.slotTroubled st k) || (s.stations[st]).state = .paused then .slow
  else .off

/-- The level of a station's alert line (R99). -/
def State.alertLevel (s : State) (st : StationId) : Bool :=
  !s.rstLow &&
    match s.alertPattern st with
    | .off => false
    | .steady => true
    | .fast => s.fastOn
    | .slow => s.slowOn

end Sys2Proof.Machine
end

