-- ==== Sys2Proof/Machine/Ops.lean ====
section
/-! DEFINITION. The operations that the meanings share: changing a record and marking its mirror entry, issuing a
request, recording a fault, returning responses, taking a memory answer, and the frame of an event. -/

namespace Sys2Proof

/-- Did the answer come without an error? -/
def Answer.isOkay : Answer → Bool
  | .okay => true
  | .error _ => false

end Sys2Proof

namespace Sys2Proof.Machine

-- ## Requests of the memory port

/-- A request enters the issue order (R125). -/
def State.issue (m : MemRequest) (s : State) : State := { s with port := s.port.enqueue m }

/-- The anchor base (R176). -/
def State.anchor (s : State) : Nat := anchorOf s.straps

/-- The part writes into the anchor block, as one request (R134, R186). -/
def State.writeAnchor (o : OwnRequest) (off : Nat) (data : List Byte) (s : State) : State :=
  s.issue (anchorWrite s.straps o off data)

/-- The part writes at an address, as one request (R134, R186). -/
def State.writeOwn (o : OwnRequest) (addr : Nat) (data : List Byte) (s : State) : State :=
  s.issue (ownRequest o .write addr data.length data)

/-- The part reads at an address, as one request (R134). -/
def State.readOwn (o : OwnRequest) (addr len : Nat) (s : State) : State :=
  s.issue (ownRequest o .read addr len [])

-- ## Records of the tables

/-- A member joins a collection without order. -/
def addTo {α : Type} [DecidableEq α] (a : α) (l : List α) : List α := if a ∈ l then l else l ++ [a]

/-- The fields of a course that its mirror shows (R69). -/
def Course.mirrored (c : Course) : CourseState × Nat × Nat × Nat := (c.state, c.countdown, c.late, c.openCount)

/-- A course record is changed; a changed mirrored field marks its mirror entry (R69). -/
def State.updCourse (c : CourseId) (f : Course → Course) (s : State) : State :=
  { s with
    courses := s.courses.set c (f s.courses[c])
    marks := if (f s.courses[c]).mirrored = (s.courses[c]).mirrored then s.marks
      else { s.marks with courses := addTo c s.marks.courses } }

/-- The fields of a station that its mirror shows (R100). -/
def Station.mirrored (st : Station) : StationState × Nat × Nat × Nat × Nat :=
  (st.state, st.tokens, st.prio.length + st.ordinary.length, st.stranded.length, st.retry)

/-- A station record is changed; a changed mirrored field marks its mirror entry (R100). -/
def State.updStation (st : StationId) (f : Station → Station) (s : State) : State :=
  { s with
    stations := s.stations.set st (f s.stations[st])
    marks := if (f s.stations[st]).mirrored = (s.stations[st]).mirrored then s.marks
      else { s.marks with stations := addTo st s.marks.stations } }

/-- The service record is changed, and its mirror entry marked (R70; log 22). -/
def State.updService (f : Service → Service) (s : State) : State :=
  { s with service := f s.service, marks := { s.marks with service := true } }

/-- A batch record is changed. -/
def State.updBatch (r : Nat) (f : Batch → Batch) (s : State) : State :=
  { s with pool := Table.update r f s.pool }

/-- A ticket entry is changed. -/
def State.updTicket (e : Nat) (f : Ticket → Ticket) (s : State) : State :=
  { s with tickets := Table.update e f s.tickets }

/-- A batch record in use. -/
def State.batch? (s : State) (r : Nat) : Option Batch := Table.get? r s.pool

/-- The LIVE entry of a batch. -/
def State.ticketOf? (s : State) (b : Batch) : Option Ticket := Table.get? b.owner s.tickets

/-- The LIVE entry that references a pool line, with its number (R4: at most one). -/
def State.entryOfLine? (s : State) (line : Nat) : Option (Nat × Ticket) :=
  s.tickets.find? (fun e => e.2.line == line)

/-- Every mirror entry of courses, stations and the service is marked (R69, R70, R100). -/
def State.markAllTables (s : State) : State :=
  { s with marks :=
    { s.marks with courses := List.finRange 16, stations := List.finRange 32, service := true } }

-- ## Faults

/-- A record that folds a fault: the same reason and the same source (R167). -/
def State.matchingRecord? (s : State) (f : FaultReport) : Option RecordId :=
  (List.finRange 8).find? fun i =>
    match s.faults[i] with
    | some r => r.report.reason == f.reason && r.report.source == f.source
    | none => false

/-- The lowest-numbered free record (R167). -/
def State.freeRecord? (s : State) : Option RecordId := (List.finRange 8).find? (fun i => (s.faults[i]).isNone)

/-- A fault record is changed, and its mirror entry marked (R168). -/
def State.setFault (i : RecordId) (r : Option FaultRecord) (s : State) : State :=
  { s with
    faults := s.faults.set i r
    marks := { s.marks with faults := addTo i s.marks.faults } }

/-- A fault folded into a record raises its repeat count, which saturates at 255; a full count leaves the record as it
was (R167). -/
def State.foldFault (i : RecordId) (s : State) : State :=
  match s.faults[i] with
  | some r => if r.count < Config.byteMax then s.setFault i (some { r with count := r.count + 1 }) else s
  | none => s

/-- The recording of a fault in the log: folded, taken by the lowest free record, or dropped (R167). -/
def State.logFault (f : FaultReport) (s : State) : State :=
  match s.matchingRecord? f with
  | some i => s.foldFault i
  | none =>
    match s.freeRecord? with
    | some i => s.setFault i (some { report := f, count := 0 })
    | none => { s with overflow := true }

/-- The reasons that stop the part under stop-on-fatal (R174). -/
def FaultReason.isFatal : FaultReason → Bool
  | .ownReadFailed | .ownWriteFailed => true
  | .accessRefused | .badTail | .stationDown | .noBackup | .stranded | .badBump | .liveLimit | .setupInvalid
  | .planInvalid => false

/-- The stop-on-fatal flag of the setup in force (R174). -/
def State.stopsOnFatal (s : State) : Bool :=
  match s.setup with
  | some u => u.stopOnFatal
  | none => false

/-- With stop-on-fatal set, a fatal fault puts the part in STOPPED from IDLE or READY (R174). -/
def State.stopIfFatal (reason : FaultReason) (s : State) : State :=
  if reason.isFatal && s.stopsOnFatal && (s.part == .idle || s.part == .ready) then { s with part := .stopped } else s

/-- A fault is recorded at the Notice Unit, with its effect on the part state (R167, R174). -/
def State.recordFault (f : FaultReport) (s : State) : State := (s.logFault f).stopIfFatal f.reason

/-- A latched notice condition is set (R169). -/
def State.setCondition (f : Conditions → Conditions) (s : State) : State := { s with conditions := f s.conditions }

-- ## Mirrors at the end of an event

/-- The marked course mirror entries are written (R69). -/
def State.flushCourses (s : State) : State :=
  ((List.finRange 16).filter (fun c => decide (c ∈ s.marks.courses))).foldl
    (fun t c => t.writeAnchor (.courseMirror c) (offCourse c) (t.courses[c]).mirrorBytes) s

/-- The marked station mirror entries are written (R100). -/
def State.flushStations (s : State) : State :=
  ((List.finRange 32).filter (fun st => decide (st ∈ s.marks.stations))).foldl
    (fun t st => t.writeAnchor (.stationMirror st) (offStation st) (t.stations[st]).mirrorBytes) s

/-- The service mirror is written when it is marked (R70). -/
def State.flushService (s : State) : State :=
  if s.marks.service then s.writeAnchor .serviceMirror offService s.service.mirrorBytes else s

/-- The marked fault-log mirror entries are written (R168). -/
def State.flushFaults (s : State) : State :=
  ((List.finRange 8).filter (fun i => decide (i ∈ s.marks.faults))).foldl
    (fun t i => t.writeAnchor (.faultMirror i) (offFault i) (faultBytes t.faults[i])) s

/-- The table mirrors of the event so far are written, and their marks taken away (log 6). -/
def State.flushTables (s : State) : State :=
  { s.flushCourses.flushStations.flushService with
    marks := { courses := [], stations := [], service := false, faults := s.marks.faults } }

/-- The notice word is written when the shown conditions differ from those last written (R170). -/
def State.flushNotice (s : State) : State :=
  if s.shown = s.noticeShown then s
  else { s.writeAnchor .noticeWord offNotice (noticeBytes s.shown) with noticeShown := s.shown }

/-- The end of an event: the marked mirror entries, then the fault-log mirror, then the notice word (log 6). -/
def State.closeEvent (s : State) : State :=
  let t := s.flushTables.flushFaults.flushNotice
  { t with marks := Marks.empty }

-- ## Events

/-- One event of the part: what it does, then the writes that report it. -/
def State.event (f : State → State) (s : State) : State := (f s).closeEvent

/-- One command that is one event. The responses of the step before leave the front port's output. -/
def State.run (f : State → State) (s : State) : State := ({ s with responses := [] } : State).event f

/-- A command that the part does not see while RST is low (R184). -/
def State.runLive (f : State → State) (s : State) : State := s.run (fun t => if t.rstLow then t else f t)

-- ## Responses

/-- The complete requests at the front of a list, and the rest (R120). -/
def splitReturned : List Flight → List Response × List Flight
  | [] => ([], [])
  | f :: fs =>
    match f.response with
    | some r => (r :: (splitReturned fs).1, (splitReturned fs).2)
    | none => ([], f :: fs)

/-- A request in flight becomes complete. -/
def completeFlight (id : Nat) (r : Response) (fs : List Flight) : List Flight :=
  fs.map (fun f => if f.id = id then { f with response := some r } else f)

/-- A request is complete with a response; every response at the front of its requester's list is returned (R120). -/
def State.respond (tag : Tag) (id : Nat) (r : Response) (s : State) : State :=
  { s with
    flights := s.flights.set tag (splitReturned (completeFlight id r s.flights[tag])).2
    responses := s.responses
      ++ (splitReturned (completeFlight id r s.flights[tag])).1.map (fun x => (tag, x)) }

/-- The data of a response without data of its own: zeros for a READ, none for a WRITE (R126, R127). -/
def zeroData (kind : Kind) (len : Nat) : List Byte :=
  match kind with
  | .read => zeros len
  | .write => []

-- ## Memory answers

/-- An answer of the DRAM controller to request `id`. An issued request that `owns` accepts leaves the port and DRAM
serves it; unless a restart has its response discarded (R136), its owner then acts on the data that DRAM held. A
request left over by RST is served and its response discarded (R137). Any other name answers nothing (log 2). -/
def State.memAnswer (id : Nat) (a : Answer) (owns : Owner → Bool) (act : MemRequest → List Byte → State → State)
    (s : State) : State :=
  match s.port.issued.find? (fun m => m.id == id && owns m.owner) with
  | some m =>
    let t := { s with port := s.port.answered id, dram := serve m a s.dram }
    if m.discard then t else act m (Memory.readBytes s.dram m.addr m.len) t
  | none =>
    match s.port.orphans.find? (fun m => m.id == id && owns m.owner) with
    | some m =>
      { s with
        port := { s.port with orphans := s.port.orphans.filter (fun x => x.id != id) }
        dram := serve m a s.dram }
    | none => s

end Sys2Proof.Machine
end

