-- ==== Sys2Proof/Machine/Operands.lean ====
section
/-! DEFINITION. The structures that software writes and the part reads, with their checks: the setup block (R179), a
plan (R180), a dish record (R32), a ticket line (R1) and an intake entry (R164), at the byte positions of
spec/11_record_layouts.md; and the ranges that the setup gives (R121). -/

namespace Sys2Proof.Machine

/-- The first check, in order, whose failing condition holds. -/
def firstFailing {α : Type} : List (α × Bool) → Option α
  | [] => none
  | (a, fails) :: rest => if fails then some a else firstFailing rest

-- ## Ranges

/-- A range of addresses: base and size. -/
structure Span where
  base : Nat
  size : Nat
  deriving DecidableEq, Repr

/-- Does the range hold the address? -/
def Span.holds (r : Span) (a : Nat) : Bool := decide (r.base ≤ a) && decide (a < r.base + r.size)

/-- Do two ranges share an address? -/
def Span.meets (r q : Span) : Bool :=
  decide (r.base < q.base + q.size) && decide (q.base < r.base + r.size) && decide (0 < r.size) && decide (0 < q.size)

/-- Does the range stay inside the 40-bit addresses? -/
def Span.inAddresses (r : Span) : Bool := decide (r.base + r.size ≤ 2 ^ 40)

/-- The anchor block, 8 KiB (R176). -/
def anchorSpan (straps : BitVec 8) : Span := { base := anchorOf straps, size := 0x2000 }

/-- The entries of the intake ring (R152). -/
def Setup.ringCount (u : Setup) : Nat := 2 ^ (u.ringCode + 4)

/-- The size of the window (R138). -/
def Setup.windowSize (u : Setup) : Nat := 2 ^ (max (u.ps + 4) (u.pt + 5))

/-- The ranges of R121. -/
def Setup.poolSpan (u : Setup) : Span := { base := u.poolBase, size := u.lineCount * 64 }
def Setup.ringSpan (u : Setup) : Span := { base := u.ringBase, size := u.ringCount * 32 }
def Setup.windowSpan (u : Setup) : Span := { base := u.windowBase, size := u.windowSize }
def Guard.span (g : Guard) : Span := { base := g.base * 2 ^ 16, size := (g.limit + 1 - g.base) * 2 ^ 16 }

/-- The range of a guard, when it is enabled. -/
def Guard.spans (g : Guard) : List Span := if g.enabled then [g.span] else []

/-- Every range of a setup beside the anchor block. -/
def Setup.spans (u : Setup) : List Span :=
  [u.poolSpan, u.ringSpan, u.windowSpan] ++ u.guard0.spans ++ u.guard1.spans

/-- Two of the ranges share an address. -/
def anyMeet : List Span → Bool
  | [] => false
  | r :: rest => rest.any r.meets || anyMeet rest

/-- Every byte of the range lies in plain memory or in an enabled guard (R180). -/
def inPlainOrGuard (straps : BitVec 8) (u : Setup) (r : Span) : Bool :=
  r.inAddresses && !((anchorSpan straps).meets r || u.poolSpan.meets r || u.ringSpan.meets r || u.windowSpan.meets r)

-- ## The setup block

/-- A guard of the setup block, from byte `i`. -/
def parseGuard (bs : List Byte) (i : Nat) : Guard :=
  { enabled := byteAt bs i % 2 == 1, base := leNat bs (i + 1) 3, limit := leNat bs (i + 4) 3 }

/-- The fields of the 128-byte setup block. -/
def parseSetup (bs : List Byte) : Setup :=
  { planAddr := leNat bs 8 5
    ringBase := leNat bs 16 5
    ringCode := byteAt bs 21
    poolBase := leNat bs 24 5
    lineCount := leNat bs 30 2
    windowBase := leNat bs 32 5
    ps := byteAt bs 37
    pt := byteAt bs 38
    divider := byteAt bs 40
    stopOnFatal := byteAt bs 41 % 2 == 1
    guard0 := parseGuard bs 48
    guard1 := parseGuard bs 56 }

/-- The setup marker, the ASCII bytes of SQPL. -/
def setupMarker : List Byte := [0x53, 0x51, 0x50, 0x4C]

/-- The field conditions of R138 fail. -/
def Setup.badFields (u : Setup) : Bool :=
  decide (u.ps < 6) || decide (u.pt < 6) || decide (19 < u.ps + 3) || decide (19 < u.pt + 4)
    || (decide (u.ps ≤ u.pt + 4) && decide (u.pt ≤ u.ps + 3))

/-- The check of the setup block (R179): the number of the first check that fails. -/
def setupCheck (straps : BitVec 8) (bs : List Byte) (u : Setup) : Option Nat :=
  firstFailing
    [(1, bs.take 4 != setupMarker),
     (2, decide (12 < u.divider)),
     (3, u.poolBase % 4096 != 0 || decide (u.lineCount < 64) || decide (4096 < u.lineCount)),
     (4, u.ringBase % 4096 != 0 || decide (6 < u.ringCode)),
     (5, u.badFields),
     (6, u.windowBase % u.windowSize != 0),
     (7, u.guard0.enabled && decide (u.guard0.limit < u.guard0.base)),
     (8, u.guard1.enabled && decide (u.guard1.limit < u.guard1.base)),
     (9, u.spans.any (fun r => !r.inAddresses)),
     (10, anyMeet (anchorSpan straps :: u.spans))]

-- ## Plans

/-- A plan is seventeen 64-byte lines (R180). -/
def planBytes : Nat := 1088

/-- Line 0 of a plan. -/
def parseHeader (bs : List Byte) : PlanHeader :=
  { dishBase := leNat bs 0 5, dishCount := leNat bs 8 2, courseCount := byteAt bs 10 }

/-- The course record from byte `i` of a plan line. -/
def parseCourse (bs : List Byte) (i : Nat) : CoursePlan :=
  { countdown := leNat bs i 2
    autoFire := byteAt bs (i + 2) % 2 == 1
    waves := byteAt bs (i + 3)
    marks := Vector.ofFn (fun w => leNat bs (i + 4 + 2 * w.val) 2)
    grace := byteAt bs (i + 12) }

/-- A station record of a plan line as its bytes give it. -/
structure StationBytes where
  initial : Nat
  capacity : Nat
  backup : Nat
  timeout : Nat
  retryLimit : Nat
  returnCount : Nat
  deriving DecidableEq, Repr

/-- The station record from byte `i` of a plan line. -/
def parseStation (bs : List Byte) (i : Nat) : StationBytes :=
  { initial := byteAt bs i, capacity := byteAt bs (i + 1), backup := byteAt bs (i + 2), timeout := byteAt bs (i + 3)
    retryLimit := byteAt bs (i + 4), returnCount := byteAt bs (i + 5) }

/-- A backup value: a station number, or NONE above 31. -/
def toBackup (n : Nat) : Option StationId := if h : n < 32 then some ⟨n, h⟩ else none

/-- The plan fields of a checked station record. -/
def StationBytes.toPlan (r : StationBytes) : StationPlan :=
  { initial := if r.initial = 1 then .opened else .closed
    capacity := r.capacity
    backup := toBackup r.backup
    timeout := r.timeout
    retryLimit := r.retryLimit
    returnCount := r.returnCount }

/-- A pass mark above 4095 among those the wave count names (R180, check 7). -/
def CoursePlan.badMarks (p : CoursePlan) : Bool :=
  (List.finRange 4).any (fun w => decide (w.val < p.waves) && decide (4095 < p.marks[w]))

/-- The failing check of a plan line: its number, and the course or station it names (R180). -/
structure PlanFailure where
  check : Nat
  course : Nat
  station : Nat
  deriving DecidableEq, Repr

/-- The checks of line 0 (R180). -/
def headerChecks (straps : BitVec 8) (u : Setup) (h : PlanHeader) : List (PlanFailure × Bool) :=
  [({ check := 2, course := 0, station := 0 }, h.dishCount == 0 || decide (1024 < h.dishCount)),
   ({ check := 3, course := 0, station := 0 },
     h.dishBase % 32 != 0 || !inPlainOrGuard straps u { base := h.dishBase, size := h.dishCount * 32 }),
   ({ check := 4, course := 0, station := 0 }, h.courseCount == 0 || decide (16 < h.courseCount))]

/-- The planned courses of a course line, with their records (R180). -/
def plannedOfLine (h : PlanHeader) (line : Nat) (bs : List Byte) : List (Nat × CoursePlan) :=
  ([0, 1].map (fun j => (2 * (line - 1) + j, parseCourse bs (32 * j)))).filter
    (fun e => decide (e.1 < h.courseCount))

/-- The checks of a course line, in table order (R180). -/
def courseChecks (h : PlanHeader) (line : Nat) (bs : List Byte) : List (PlanFailure × Bool) :=
  ((plannedOfLine h line bs).map fun e =>
      ({ check := 5, course := e.1, station := 0 }, e.2.countdown == 0))
    ++ ((plannedOfLine h line bs).map fun e =>
      ({ check := 6, course := e.1, station := 0 }, e.2.waves == 0 || decide (4 < e.2.waves)))
    ++ ((plannedOfLine h line bs).map fun e => ({ check := 7, course := e.1, station := 0 }, e.2.badMarks))

/-- The stations of a station line, with their records (R180). -/
def stationsOfLine (line : Nat) (bs : List Byte) : List (Nat × StationBytes) :=
  [0, 1, 2, 3].map (fun j => (4 * (line - 9) + j, parseStation bs (16 * j)))

/-- The checks of a station line, in table order (R180). -/
def stationChecks (line : Nat) (bs : List Byte) : List (PlanFailure × Bool) :=
  let rs := stationsOfLine line bs
  (rs.map fun e => ({ check := 8, course := 0, station := e.1 }, decide (1 < e.2.initial)))
    ++ (rs.map fun e => ({ check := 9, course := 0, station := e.1 }, decide (16 < e.2.capacity)))
    ++ (rs.map fun e =>
      ({ check := 10, course := 0, station := e.1 }, decide (32 < e.2.backup) || e.2.backup == e.1))
    ++ (rs.map fun e => ({ check := 11, course := 0, station := e.1 }, e.2.timeout == 0))
    ++ (rs.map fun e => ({ check := 12, course := 0, station := e.1 }, decide (7 < e.2.retryLimit)))
    ++ (rs.map fun e =>
      ({ check := 13, course := 0, station := e.1 }, e.2.returnCount == 0 || decide (15 < e.2.returnCount)))

/-- The checks of a plan line, in table order (R180). -/
def planLineChecks (straps : BitVec 8) (u : Setup) (h : PlanHeader) (line : Nat) (bs : List Byte) :
    List (PlanFailure × Bool) :=
  if line = 0 then headerChecks straps u h
  else if line ≤ 8 then courseChecks h line bs
  else stationChecks line bs

/-- Check 1 of R180 fails: the plan address. -/
def badPlanAddr (straps : BitVec 8) (u : Setup) (addr : Nat) : Bool :=
  addr % 64 != 0 || !inPlainOrGuard straps u { base := addr, size := planBytes }

-- ## Dish records

/-- A divert entry: its station byte and its allergen mask. -/
def parseDivert (bs : List Byte) (i j : Nat) : Divert :=
  { station := byteAt bs i, mask := BitVec.ofNat 16 (leNat bs j 2) }

/-- A 32-byte dish record. -/
def parseDish (bs : List Byte) : DishRecord :=
  { home := byteAt bs 0
    batchSize := byteAt bs 1
    lead := leNat bs 2 2
    unitCode := byteAt bs 4
    gap := leNat bs 6 2
    specialPosition := byteAt bs 5
    divertB := parseDivert bs 8 10
    divertC := parseDivert bs 12 14
    divertD := parseDivert bs 16 18 }

/-- A used divert entry with a station above 31 (R32). -/
def Divert.bad (d : Divert) : Bool := d.mask != 0 && decide (31 < d.station)

/-- The check of a dish record (R32): the number of the first check that fails. -/
def DishRecord.check (d : DishRecord) : Option Nat :=
  firstFailing
    [(1, decide (31 < d.home)),
     (2, d.batchSize == 0 || decide (255 < d.batchSize)),
     (3, d.lead == 0 || decide (4095 < d.lead)),
     (4, decide (1 < d.unitCode)),
     (5, decide (4095 < d.gap)),
     (6, decide (31 < d.specialPosition)),
     (7, d.divertB.bad),
     (8, d.divertC.bad),
     (9, d.divertD.bad)]

-- ## Ticket lines

/-- A 64-byte ticket line (R1). -/
def parseTicketLine (bs : List Byte) : TicketLine :=
  { hostId := BitVec.ofNat 16 (leNat bs 0 2)
    course := byteAt bs 2
    wave := Fin.ofNat 4 (byteAt bs 3)
    rush := decide (128 ≤ byteAt bs 3)
    dish := leNat bs 4 2
    portions := leNat bs 6 2
    special := leNat bs 8 2
    tags := BitVec.ofNat 16 (leNat bs 10 2)
    lead := leNat bs 12 2 }

-- ## Intake entries

/-- The field of an AMEND code (R19). -/
def amendFieldOf : Nat → Option AmendField
  | 1 => some .portions
  | 2 => some .special
  | 3 => some .tags
  | 4 => some .lead
  | 5 => some .wave
  | 6 => some .rush
  | 7 => some .station
  | _ => none

/-- The action of a STATION code (R88). -/
def stationActionOf : Nat → Option StationAction
  | 1 => some .opening
  | 2 => some .close
  | 3 => some .pause
  | 4 => some .unpause
  | 5 => some .backup
  | 6 => some .capacity
  | 7 => some .releaseStranded
  | _ => none

/-- Does the action read the entry's value byte (R88)? -/
def StationAction.readsValue : StationAction → Bool
  | .backup | .capacity | .releaseStranded => true
  | .opening | .close | .pause | .unpause => false

/-- The granularity of a FLUSH code (R42). -/
def flushKindOf : Nat → Option FlushKind
  | 1 => some .all
  | 2 => some .dish
  | 3 => some .station
  | _ => none

/-- The command an entry holds, by its code and its parameter bytes (R164). A parameter byte that the command does not
read is not looked at (R155, R185). -/
def decodeCommand (bs : List Byte) : Command :=
  match byteAt bs 0 with
  | 0x00 => .nop
  | 0x01 => .post (leNat bs 4 2)
  | 0x02 =>
    match amendFieldOf (byteAt bs 6) with
    | some f => .amend f (leNat bs 4 2) (leNat bs 8 2)
    | none => .amendOther (leNat bs 4 2)
  | 0x03 => .void (leNat bs 4 2)
  | 0x04 => .fire (byteAt bs 4) (leNat bs 6 2)
  | 0x05 => .hold (byteAt bs 4)
  | 0x06 => .resume (byteAt bs 4)
  | 0x07 => .service (byteAt bs 4) (byteAt bs 5) ((List.range 8).map (fun i => byteAt bs (8 + i)))
  | 0x08 =>
    match stationActionOf (byteAt bs 5) with
    | some a => .station a (byteAt bs 4) (if a.readsValue then byteAt bs 6 else 0)
    | none => .stationOther
  | 0x09 =>
    match flushKindOf (byteAt bs 4) with
    | some .all => .flush .all 0
    | some .dish => .flush .dish (leNat bs 6 2)
    | some .station => .flush .station (leNat bs 6 2)
    | none => .flushOther
  | 0x0A => .fence
  | 0x0B => .plan (leNat bs 8 5)
  | _ => .unknown

/-- The NOTIFY flag of an entry (R155). -/
def entryNotify (bs : List Byte) : Bool := byteAt bs 1 % 2 == 1

end Sys2Proof.Machine
end

