-- ==== Sys2Proof/Machine/Stations.lean ====
section
/-! DEFINITION. The Station Table: due queues, showing, lateness at show, moves, stranding, the entry rule, and the
STATION command (spec/04). Each STATION action is a change of state with the status it ends with. -/

namespace Sys2Proof.Machine

/-- How a command of the ring stands when its owner has acted: it has ended with a status and a result byte, or it goes
on (R156). -/
inductive CommandEnd where
  | ended (status : Status) (result : Nat)
  | runs (work : Running)
  deriving DecidableEq, Repr

/-- The tag of a station's own link (R119). -/
def linkTag (st : StationId) : Tag := ⟨st.val + 1, by omega⟩

-- ## The due queue

/-- The due queue of a station: the priority part, then the ordinary part (R74). -/
def Station.queue (x : Station) : List Nat := x.prio ++ x.ordinary

/-- A batch joins the part of the queue that its flags name, at that part's end (R74). -/
def Station.join (r : Nat) (priority : Bool) (x : Station) : Station :=
  if priority then { x with prio := x.prio ++ [r] } else { x with ordinary := x.ordinary ++ [r] }

/-- A batch leaves the queue; those behind it keep their order (R74). -/
def Station.unqueue (r : Nat) (x : Station) : Station :=
  { x with prio := x.prio.filter (fun q => q != r), ordinary := x.ordinary.filter (fun q => q != r) }

/-- Does a batch stand in the priority part (R74)? -/
def Batch.priority (b : Batch) : Bool := b.rush || b.moved

/-- A batch joins the due queue of a station (R74). -/
def State.joinQueue (r : Nat) (st : StationId) (s : State) : State :=
  match s.batch? r with
  | some b => s.updStation st (Station.join r b.priority)
  | none => s

-- ## Slots and tokens

/-- The lowest-numbered empty slot. -/
def Station.emptySlot? (x : Station) : Option SlotId := (List.finRange 16).find? (fun k => (x.slots[k]).isNone)

/-- The number of occupied slots (R72). -/
def Station.occupied (x : Station) : Nat := (List.finRange 16).countP (fun k => (x.slots[k]).isSome)

/-- A batch takes a slot and a token (R79). -/
def Station.fill (k : SlotId) (r : Nat) (x : Station) : Station :=
  { x with slots := x.slots.set k (some r), tokens := x.tokens + 1 }

/-- A batch leaves its slot, and its token is freed with it (R79). -/
def Station.vacate (k : SlotId) (x : Station) : Station :=
  if (x.slots[k]).isSome then { x with slots := x.slots.set k none, tokens := x.tokens - 1 } else x

/-- The clearing write of a bump entry: eight zeros (R80). -/
def State.clearBump (st : StationId) (k : SlotId) (s : State) : State :=
  s.writeAnchor (.bumpClear st) (offBump st k) (zeros 8)

-- ## The ack timer

/-- A running timer that the next tick brings to 0, or that R114 has left at 0 (log 26). -/
def Station.atLastTick (x : Station) : Bool :=
  match x.timer with
  | some n => decide (n ≤ 1)
  | none => false

/-- The tick mark once a read or a bump, taken first, has reloaded the timer (R114, R115): the tick that would have
expired it, owed already or produced and still to come, now expires nothing. -/
def Station.sparedMark (x : Station) (produced : Bool) : TickMark :=
  match x.tick with
  | .owed => .owedSpared
  | .clear => if produced && x.atLastTick then .spared else .clear
  | .early => .early
  | .spared => .spared
  | .owedSpared => .owedSpared

/-- The tick mark once a show has loaded the timer (R103): the tick still to come, or owed, finds it just loaded, and is
a tick of its own (R105). -/
def TickMark.loaded : TickMark → TickMark
  | .spared => .clear
  | .owedSpared => .owed
  | .clear => .clear
  | .early => .early
  | .owed => .owed

/-- A tick has been produced and not yet taken (log 16). -/
def State.tickProduced (s : State) : Bool := decide (0 < s.ticksDue)

/-- An acknowledgement reloads the timer while batches are unread, and the tick that meets it expires nothing; it stops
the timer otherwise (R104, R114, R115). -/
def State.ackReload (st : StationId) (s : State) : State :=
  s.updStation st (fun x =>
    if s.hasUnread st then { x with timer := some x.plan.timeout, tick := x.sparedMark s.tickProduced }
    else { x with timer := none })

/-- A departure that is no acknowledgement stops the timer when no batch is left unread, so that no expiry occurs; while
others are unread the timer runs on, and the expiry comes as if the batch had not left (R104, R115). -/
def State.departTimer (st : StationId) (s : State) : State :=
  if s.hasUnread st then s else s.updStation st (fun x => { x with timer := none })

/-- A show starts the timer when no batch was unread (R103). -/
def State.showTimer (st : StationId) (s : State) : State :=
  if s.hasUnread st then s
  else s.updStation st (fun x => { x with timer := some x.plan.timeout, tick := x.tick.loaded })

-- ## Lateness

/-- A batch gains LATE for the first time: the late count of its course rises by 1, saturating (R50, R81). -/
def State.markLate (r : Nat) (c : CourseId) (s : State) : State :=
  match s.batch? r with
  | some b =>
    if b.late then s
    else (s.updBatch r (fun b => { b with late := true })).updCourse c
      (fun x => { x with late := min Config.wordMax (x.late + 1) })
  | none => s

/-- The batch would be late if shown now (R81). -/
def lateAtShow (x : Course) (wave : Fin 4) (threshold : Nat) : Bool :=
  decide (x.countdown + x.plan.grace < threshold) || decide (x.countdown ≤ x.plan.marks[wave])

/-- Lateness judged at the show (R81). -/
def State.judgeShow (r : Nat) (s : State) : State :=
  match s.batch? r with
  | some b =>
    match s.ticketOf? b with
    | some t => if lateAtShow s.courses[t.course] t.wave b.threshold then s.markLate r t.course else s
    | none => s
  | none => s

-- ## Showing

/-- The showing condition of a station (R77); no check is made while the part is STOPPED (R78). -/
def State.showing (s : State) (st : StationId) : Bool :=
  s.part != .stopped && (s.stations[st]).state == .opened && !(s.stations[st]).queue.isEmpty
    && decide ((s.stations[st]).tokens < (s.stations[st]).plan.capacity) && ((s.stations[st]).emptySlot?).isSome

/-- The show of a batch in a slot (R79): the timer starts when no batch was unread (R103); the batch leaves the queue,
takes the slot and a token and becomes SHOWN; it is judged (R81); its bump entry is cleared (R80). -/
def State.showAt (st : StationId) (r : Nat) (k : SlotId) (s : State) : State :=
  ((((s.showTimer st).updStation st (fun x => (x.unqueue r).fill k r)).updBatch r
    (fun b => { b with state := .shown k })).judgeShow r).clearBump st k

/-- The station shows the head of its due queue in its lowest empty slot. -/
def State.showHead (st : StationId) (s : State) : State :=
  match (s.stations[st]).queue.head?, (s.stations[st]).emptySlot? with
  | some r, some k => s.showAt st r k
  | _, _ => s

/-- The condition is checked and the head shown, again and again until it fails, at most `n` times. -/
def State.showLoop (st : StationId) : Nat → State → State
  | 0, s => s
  | n + 1, s => if s.showing st then State.showLoop st n (s.showHead st) else s

/-- The check of a station's showing condition (R78). Each show fills one of 16 slots, so 16 rounds are enough. -/
def State.checkShow (st : StationId) (s : State) : State := s.showLoop st 16

-- ## Moves and stranding

/-- The usable backup of a station: another station that is OPEN or PAUSED (R76). -/
def State.usableBackup (s : State) (st : StationId) : Option StationId :=
  match (s.stations[st]).plan.backup with
  | some b =>
    if b ≠ st ∧ ((s.stations[b]).state = .opened ∨ (s.stations[b]).state = .paused) then some b else none
  | none => none

/-- A batch becomes DUE with MOVED for station `b` and joins its queue, which is then checked (R76, R95). -/
def State.moveTo (r : Nat) (b : StationId) (s : State) : State :=
  ((s.updBatch r (fun x => { x with state := .due, moved := true, target := b })).joinQueue r b).checkShow b

/-- The ticket fields of a fault about a batch: its course and line index. -/
def State.batchFault (s : State) (r : Nat) (f : FaultReport) : FaultReport :=
  match s.batch? r with
  | some b =>
    match s.ticketOf? b with
    | some t => { f with course := t.course.val, line := t.line }
    | none => f
  | none => f

/-- A batch enters the stranded set of a station; fault STRANDED (R87, R166). -/
def State.strand (r : Nat) (st : StationId) (sub : Nat) (s : State) : State :=
  ((s.updBatch r (fun x => { x with state := .stranded, target := st })).updStation st
    (fun x => { x with stranded := x.stranded ++ [r] })).recordFault
    (s.batchFault r { reason := .stranded, source := linkTag st, sub := sub, station := st.val })

/-- A DUE batch enters the Station Table for station `st`: the entry rule (R75). -/
def State.enterStation (r : Nat) (st : StationId) (s : State) : State :=
  match (s.stations[st]).state with
  | .opened | .paused => (s.joinQueue r st).checkShow st
  | .closed =>
    match s.usableBackup st with
    | some b => s.moveTo r b
    | none => s.strand r st 1
  | .down =>
    match s.usableBackup st with
    | some b => s.moveTo r b
    | none => (s.joinQueue r st).checkShow st

/-- A DUE batch enters for its target station (R18, R75). -/
def State.enter (r : Nat) (s : State) : State :=
  match s.batch? r with
  | some b => s.enterStation r b.target
  | none => s

-- ## The STATION command

/-- A DOWN station returns to OPEN (R113). -/
def State.returnOpen (st : StationId) (s : State) : State :=
  (s.updStation st (fun x => { x with state := .opened, retry := 0, progress := 0 })).checkShow st

/-- OPEN (R90). -/
def State.stationOpen (st : StationId) (s : State) : CommandEnd × State :=
  match (s.stations[st]).state with
  | .closed => (.ended .done 0, (s.updStation st (fun x => { x with state := .opened })).checkShow st)
  | .down => (.ended .done 0, s.returnOpen st)
  | .opened | .paused => (.ended .badState 0, s)

/-- A batch of a closing station's queue goes to the backup, or is stranded (R91). -/
def State.closeOut (st : StationId) (backup : Option StationId) (s : State) (r : Nat) : State :=
  match backup with
  | some b => s.moveTo r b
  | none => s.strand r st 3

/-- CLOSE (R91). -/
def State.stationClose (st : StationId) (s : State) : CommandEnd × State :=
  if ((s.stations[st]).state = .opened ∨ (s.stations[st]).state = .paused) ∧ (s.stations[st]).occupied = 0 then
    (.ended .done 0,
      (s.stations[st]).queue.foldl (State.closeOut st (s.usableBackup st))
        (s.updStation st
          (fun x => { x with state := .closed, retry := 0, progress := 0, prio := [], ordinary := [] })))
  else (.ended .badState 0, s)

/-- PAUSE (R92). -/
def State.stationPause (st : StationId) (s : State) : CommandEnd × State :=
  if (s.stations[st]).state = .opened then
    (.ended .done 0, s.updStation st (fun x => { x with state := .paused }))
  else (.ended .badState 0, s)

/-- UNPAUSE (R92). -/
def State.stationUnpause (st : StationId) (s : State) : CommandEnd × State :=
  if (s.stations[st]).state = .paused then
    (.ended .done 0, (s.updStation st (fun x => { x with state := .opened })).checkShow st)
  else (.ended .badState 0, s)

/-- BACKUP, value 32 for NONE (R89, R93). -/
def State.stationBackup (st : StationId) (value : Nat) (s : State) : CommandEnd × State :=
  if 32 < value ∨ value = st.val then (.ended .badField 0, s)
  else (.ended .done 0, s.updStation st (fun x => { x with plan := { x.plan with backup := toBackup value } }))

/-- CAPACITY (R89, R94). -/
def State.stationCapacity (st : StationId) (value : Nat) (s : State) : CommandEnd × State :=
  if 16 < value then (.ended .badField 0, s)
  else (.ended .done 0,
    (s.updStation st (fun x => { x with plan := { x.plan with capacity := value } })).checkShow st)

/-- RELEASE STRANDED of station `st` to the station named by the value (R89, R95). -/
def State.stationRelease (st : StationId) (value : Nat) (s : State) : CommandEnd × State :=
  match toBackup value with
  | none => (.ended .badField 0, s)
  | some t =>
    if (s.stations[t]).state = .closed then (.ended .badState 0, s)
    else (.ended .done 0,
      (s.stations[st]).stranded.foldl (fun u r => u.moveTo r t)
        (s.updStation st (fun x => { x with stranded := [] })))

/-- A STATION command: the station number first, then the action's own checks (R89). -/
def State.stationCommand (a : StationAction) (station value : Nat) (s : State) : CommandEnd × State :=
  match toBackup station with
  | none => (.ended .badField 0, s)
  | some st =>
    match a with
    | .opening => s.stationOpen st
    | .close => s.stationClose st
    | .pause => s.stationPause st
    | .unpause => s.stationUnpause st
    | .backup => s.stationBackup st value
    | .capacity => s.stationCapacity st value
    | .releaseStranded => s.stationRelease st value

end Sys2Proof.Machine
end

