-- ==== Sys2Proof/Machine/Courses.lean ====
section
/-! DEFINITION. The Course Table: release of due batches, FIRE, HOLD, RESUME, the countdown, clearing, and the service
list (spec/03). -/

namespace Sys2Proof.Machine

-- ## Release

/-- Is a batch PLANNED with a threshold at or above the countdown of its course (R49, R53)? -/
def dueAt (countdown : Nat) (b : Batch) : Bool := b.state == .planned && decide (countdown ≤ b.threshold)

/-- The PLANNED batches of the chosen courses that the countdowns make due, in ascending entry and batch number (R18). -/
def State.dueBatches (s : State) (p : CourseId → Bool) : List Nat :=
  s.tickets.flatMap fun e =>
    if p e.2.course then
      e.2.batches.filter fun r =>
        match s.batch? r with
        | some b => dueAt (s.courses[e.2.course]).countdown b
        | none => false
    else []

/-- Lateness at release: the threshold exceeds the countdown by more than the grace (R50). -/
def lateAtRelease (x : Course) (threshold : Nat) : Bool := decide (x.countdown + x.plan.grace < threshold)

/-- A batch becomes DUE and is judged for lateness (R50). -/
def State.makeDue (s : State) (r : Nat) : State :=
  match s.batch? r with
  | some b =>
    match s.ticketOf? b with
    | some t =>
      let u := s.updBatch r (fun b => { b with state := .due })
      if lateAtRelease s.courses[t.course] b.threshold then u.markLate r t.course else u
    | none => s
  | none => s

/-- The batches become DUE and are then handed over in order, each placed and checked before the next (R18, R75). -/
def State.release (rs : List Nat) (s : State) : State :=
  rs.foldl (fun t r => t.enter r) (rs.foldl State.makeDue s)

-- ## Fire

/-- A course that is FIRED or HELD (R48). -/
def Course.live (c : Course) : Bool := c.state == .fired || c.state == .held

/-- How many courses are FIRED or HELD (R48). -/
def State.liveCount (s : State) : Nat := (List.finRange 16).countP (fun c => (s.courses[c]).live)

/-- The countdown a fire sets: the planned one for 0 (R49). -/
def Course.fireCountdown (c : Course) (n : Nat) : Nat := if n = 0 then c.plan.countdown else n

/-- The fire of a course (R49). -/
def State.fireCourse (c : CourseId) (n : Nat) (s : State) : State :=
  let t := s.updCourse c (fun x => { x with countdown := x.fireCountdown n, late := 0, state := .fired })
  t.release (t.dueBatches (fun d => d == c))

/-- Fault LIVE LIMIT (R66). -/
def liveLimitFault (c : CourseId) : FaultReport := { reason := .liveLimit, source := 63, course := c.val }

/-- Auto-fire of a STAGED calling course (R66). -/
def State.autoFire (c : CourseId) (s : State) : State :=
  if (s.courses[c]).plan.autoFire then
    if s.liveCount < Config.liveCourses then s.fireCourse c 0 else s.recordFault (liveLimitFault c)
  else s

-- ## Staging and calling

/-- An IDLE or CLEARED course becomes STAGED; any other keeps its state (R47). -/
def State.stage (c : CourseId) (s : State) : State :=
  if (s.courses[c]).state = .idle ∨ (s.courses[c]).state = .cleared then
    s.updCourse c (fun x => { x with state := .staged })
  else s

/-- The course at the service position (R59). -/
def Service.current? (v : Service) : Option CourseId := v.list.courses[v.position]?

/-- The calling course: the course at the position while the service is RUNNING or STALLED (R59). -/
def Service.calling? (v : Service) : Option CourseId :=
  match v.state with
  | .running | .stalled => v.current?
  | .none | .ended => none

/-- A course becomes the calling course (R64). -/
def State.call (c : CourseId) (s : State) : State :=
  match (s.courses[c]).state with
  | .idle | .cleared | .staged => (s.stage c).autoFire c
  | .fired | .held | .passed =>
    (s.updService (fun v => { v with state := .stalled })).setCondition (fun n => { n with stall := true })

/-- The course at the position becomes the calling course. -/
def State.callCurrent (s : State) : State :=
  match s.service.current? with
  | some c => s.call c
  | none => s

/-- A list comes into force: position 0, RUNNING, its IDLE and CLEARED courses STAGED, its first course called (R61,
R63). -/
def State.applyList (l : CourseList) (s : State) : State :=
  (l.courses.foldl (fun t c => t.stage c)
    (s.updService (fun v => { v with state := .running, list := l, position := 0 }))).callCurrent

-- ## Pass, clearing and boundary

/-- The calling course of a STALLED service has cleared: it is staged again and the service runs on (R65). -/
def State.resolveStall (c : CourseId) (s : State) : State :=
  if s.service.state = .stalled ∧ s.service.calling? = some c then
    ((s.updCourse c (fun x => { x with state := .staged })).updService
      (fun v => { v with state := .running })).autoFire c
  else s

/-- A PASSED course with no open batch becomes CLEARED, which sets CLEARED and may resolve a stall (R58). -/
def State.clearIfDone (c : CourseId) (s : State) : State :=
  if (s.courses[c]).state = .passed ∧ (s.courses[c]).openCount = 0 then
    ((s.updCourse c (fun x => { x with state := .cleared })).setCondition
      (fun n => { n with cleared := true })).resolveStall c
  else s

/-- A boundary: the pending list, the next position, the first position again, or the end of the service (R63). -/
def State.boundary (s : State) : State :=
  match s.service.pending with
  | some l => (s.updService (fun v => { v with pending := none })).applyList l
  | none =>
    if s.service.position + 1 < s.service.list.courses.length then
      (s.updService (fun v => { v with position := v.position + 1 })).callCurrent
    else if s.service.list.cycle then (s.updService (fun v => { v with position := 0 })).callCurrent
    else (s.updService (fun v => { v with state := .ended })).setCondition (fun n => { n with ended := true })

/-- The courses that a tick counts (R53). -/
def State.firedCourses (s : State) : List CourseId :=
  (List.finRange 16).filter (fun c => (s.courses[c]).state == .fired)

/-- Is the calling course of a RUNNING service among these, so that their pass is a boundary (R63)? -/
def State.passIsBoundary (s : State) (passing : List CourseId) : Bool :=
  s.service.state == .running && passing.any (fun c => s.service.calling? == some c)

/-- The countdown of a counted course falls by 1 (R53). -/
def State.countDown (s : State) (c : CourseId) : State :=
  s.updCourse c (fun x => { x with countdown := x.countdown - 1 })

/-- A FIRED course at countdown 0 becomes PASSED (R54). -/
def State.pass (s : State) (c : CourseId) : State := s.updCourse c (fun x => { x with state := .passed })

/-- The pass of the courses whose countdown has reached 0: all become PASSED, then each is checked for clearing, then
the boundary follows (R54, R63; log 18). -/
def State.passAll (passing : List CourseId) (s : State) : State :=
  let t := passing.foldl (fun u c => u.clearIfDone c) (passing.foldl State.pass s)
  if s.passIsBoundary passing then t.boundary else t

/-- A tick at the Course Table: every FIRED course counts down, the batches that become due are handed over, and the
courses at 0 pass (R53, R54). -/
def State.courseTick (s : State) : State :=
  let counted := s.firedCourses
  let t := counted.foldl State.countDown s
  let u := t.release (t.dueBatches (fun c => decide (c ∈ counted)))
  u.passAll (counted.filter (fun c => (u.courses[c]).countdown == 0))

-- ## The commands

/-- A planned course number: not above 15 and below the course count in force (R48, R51). -/
def State.plannedCourse? (s : State) (c : Nat) : Option CourseId :=
  if h : c < 16 then if c < s.plan.courseCount then some ⟨c, h⟩ else none else none

/-- FIRE (R48, R49). -/
def State.fireCommand (c n : Nat) (s : State) : CommandEnd × State :=
  match s.plannedCourse? c with
  | none => (.ended .badField 0, s)
  | some c =>
    if (s.courses[c]).state ≠ .staged then (.ended .badState 0, s)
    else if Config.liveCourses ≤ s.liveCount then (.ended .limit 0, s)
    else (.ended .done 0, s.fireCourse c n)

/-- HOLD (R51). -/
def State.holdCommand (c : Nat) (s : State) : CommandEnd × State :=
  match s.plannedCourse? c with
  | none => (.ended .badField 0, s)
  | some c =>
    if (s.courses[c]).state ≠ .fired then (.ended .badState 0, s)
    else (.ended .done 0, s.updCourse c (fun x => { x with state := .held }))

/-- RESUME (R52). -/
def State.resumeCommand (c : Nat) (s : State) : CommandEnd × State :=
  match s.plannedCourse? c with
  | none => (.ended .badField 0, s)
  | some c =>
    if (s.courses[c]).state ≠ .held then (.ended .badState 0, s)
    else (.ended .done 0, s.updCourse c (fun x => { x with state := .fired }))

/-- The course numbers of a list, when all of them are planned (R60). -/
def State.plannedList? (s : State) : List Nat → Option (List CourseId)
  | [] => some []
  | c :: cs =>
    match s.plannedCourse? c, State.plannedList? s cs with
    | some d, some ds => some (d :: ds)
    | _, _ => none

/-- A checked list is applied when the service is NONE or ENDED, and stored as pending otherwise (R61, R62). -/
def State.serviceList (l : CourseList) (s : State) : CommandEnd × State :=
  match s.service.state with
  | .none | .ended => (.ended .done 0, s.applyList l)
  | .running | .stalled =>
    (.ended .doneReplaced (if s.service.pending.isSome then 1 else 0),
      s.updService (fun v => { v with pending := some l }))

/-- SERVICE (R60). -/
def State.serviceCommand (count cycle : Nat) (courses : List Nat) (s : State) : CommandEnd × State :=
  if count = 0 ∨ 8 < count then (.ended .badField 0, s)
  else
    match s.plannedList? (courses.take count) with
    | none => (.ended .badField 0, s)
    | some l =>
      if 1 < cycle then (.ended .badField 0, s)
      else s.serviceList { courses := l, cycle := cycle == 1 }

end Sys2Proof.Machine
end

