-- ==== Sys2Proof/Machine/Completion.lean ====
section
/-! DEFINITION. The Intake Unit's fetch and completion of entries (R154, R157), which every owner of a command ends in. -/

namespace Sys2Proof.Machine

/-- The ring base in force; 0 while no setup is in force, when no entry is taken (R152). -/
def State.ringBase (s : State) : Nat :=
  match s.setup with
  | some u => u.ringBase
  | none => 0

/-- The entry count of the ring in force; 0 while no setup is in force (R152). -/
def State.ringCount (s : State) : Nat :=
  match s.setup with
  | some u => u.ringCount
  | none => 0

/-- The address of the entry at the head (R152). -/
def State.headAddr (s : State) : Nat := s.ringBase + s.intake.head * 32

/-- The place after a position, counting on from the last entry to entry 0 (R157). -/
def State.nextHead (s : State) : Nat := if s.intake.head + 1 < s.ringCount then s.intake.head + 1 else 0

/-- The part takes entries: IDLE or READY (R154). -/
def State.takesEntries (s : State) : Bool := s.part == .idle || s.part == .ready

/-- The fetch of the entry at the head is issued when all conditions of R154 hold. -/
def State.tryFetch (s : State) : State :=
  if s.takesEntries && s.intake.progress.isNone && s.intake.head != s.intake.tail then
    { s.readOwn .entryFetch s.headAddr 32 with
      intake := { s.intake with progress := some (.fetching s.port.nextId) } }
  else s

/-- The status and result bytes of the entry at the head are written (R157, R186). The table mirrors that the command
changed are written before them (log 6). -/
def State.writeStatus (status : Status) (result : Nat) (s : State) : State :=
  s.flushTables.writeOwn .entryStatus (s.headAddr + 2) (leBytes 1 status.code ++ leBytes 1 result)

/-- The head goes to the next place, and no entry is in progress (R157). -/
def State.advanceHead (s : State) : State :=
  { s with intake := { head := s.nextHead, tail := s.intake.tail, progress := none } }

/-- The head word is written (R157). -/
def State.writeHead (s : State) : State := s.writeAnchor .headWord offHead (leBytes 4 s.intake.head)

/-- The NOTIFY condition is set for an entry with its flag (R157). -/
def State.notifyIf (notify : Bool) (s : State) : State :=
  if notify then s.setCondition (fun n => { n with notify := true }) else s

/-- The entry in progress completes: its status and result bytes, the new head and its head word, NOTIFY, and the next
fetch (R157). -/
def State.complete (notify : Bool) (status : Status) (result : Nat) (s : State) : State :=
  (((s.writeStatus status result).advanceHead.writeHead).notifyIf notify).tryFetch

/-- A command ends, or stays in progress (R156, R160). -/
def State.finishCommand (notify : Bool) (e : CommandEnd × State) : State :=
  match e.1 with
  | .ended status result => e.2.complete notify status result
  | .runs work => { e.2 with intake := { e.2.intake with progress := some (.running notify work) } }

end Sys2Proof.Machine
end

