-- ==== Sys2Proof/Machine/DishCache.lean ====
section
/-! DEFINITION. The Dish Cache: lookup, fill, replacement and FLUSH (spec/02). -/

namespace Sys2Proof.Machine

/-- The address of a dish record (R30). -/
def State.dishAddr (s : State) (dish : Nat) : Nat := s.plan.dishBase + dish * 32

/-- The cached record of a dish (R36). -/
def cached? (dish : Nat) (l : List CacheEntry) : Option DishRecord :=
  match l.find? (fun e => e.dish == dish) with
  | some e => some e.record
  | none => none

/-- The list without a dish (R36, R43). -/
def withoutDish (dish : Nat) (l : List CacheEntry) : List CacheEntry := l.filter (fun e => e.dish != dish)

/-- A record at the most-recent end; the least recent leaves when the list would pass 64 entries (R38). -/
def insertDish (dish : Nat) (d : DishRecord) (l : List CacheEntry) : List CacheEntry :=
  ({ dish := dish, record := d } :: withoutDish dish l).take Config.dishCacheEntries

/-- A hit moves its entry to the most-recent end (R36). -/
def State.touchDish (dish : Nat) (d : DishRecord) (s : State) : State :=
  { s with cache := { dish := dish, record := d } :: withoutDish dish s.cache }

/-- A miss issues the fill: a 32-byte read of the record (R37). -/
def State.issueFill (dish : Nat) (s : State) : State := s.readOwn .dishFill (s.dishAddr dish) 32

/-- The fault of a failed dish fill, for the ticket of a line and course (R39). -/
def State.fillFault (s : State) (dish line course : Nat) : FaultReport :=
  { reason := .ownReadFailed, source := 63, sub := 5, course := course, line := line, addr := s.dishAddr dish }

/-- FLUSH (R42, R43). -/
def State.flushCommand (k : FlushKind) (target : Nat) (s : State) : CommandEnd × State :=
  match k with
  | .all => (.ended .done 1, { s with cache := [] })
  | .dish =>
    if 1023 < target then (.ended .badField 0, s)
    else (.ended .done 2, { s with cache := withoutDish target s.cache })
  | .station =>
    if 31 < target then (.ended .badField 0, s)
    else (.ended .done 1, { s with cache := [] })

end Sys2Proof.Machine
end

