-- ==== Sys2Proof/Machine/Tickets.lean ====
section
/-! DEFINITION. The Ticket Table and the Batch Pool: the line check, locks, splitting, POST, AMEND, VOID, finishing,
freeing and the finished log (spec/01). -/

namespace Sys2Proof.Machine

-- ## The pool of lines and the locks

/-- The line count of the ticket pool in force; 0 while no setup is in force (R2, R13). -/
def State.lineCount (s : State) : Nat :=
  match s.setup with
  | some u => u.lineCount
  | none => 0

/-- The base of the ticket pool in force. -/
def State.poolBase (s : State) : Nat :=
  match s.setup with
  | some u => u.poolBase
  | none => 0

/-- The address of a ticket line. -/
def State.lineAddr (s : State) (line : Nat) : Nat := s.poolBase + line * 64

/-- Is the lock of a line held (R4)? -/
def State.locked (s : State) (line : Nat) : Bool := decide (line ∈ s.locks)

/-- The lock of a line is taken (R4). -/
def State.lock (line : Nat) (s : State) : State := { s with locks := addTo line s.locks }

/-- The lock of a line is released (R4). -/
def State.unlock (line : Nat) (s : State) : State := { s with locks := s.locks.filter (fun l => l != line) }

-- ## The line check

/-- The course that a checked course byte names. -/
def toCourse (n : Nat) : CourseId := Fin.ofNat 16 n

/-- The check of a ticket line (R2): the status of the first check that fails. -/
def State.lineCheck (s : State) (l : TicketLine) : Option Status :=
  firstFailing
    [(.badLine, decide (15 < l.course)),
     (.badLine, decide ((s.courses[toCourse l.course]).plan.waves ≤ l.wave.val)),
     (.badLine, l.portions == 0 || decide (4000 < l.portions)),
     (.badLine, decide (l.portions < l.special)),
     (.badLine, decide (0 < l.special) && l.tags == 0),
     (.badLine, decide (4095 < l.lead)),
     (.badDish, decide (1023 < l.dish) || decide (s.plan.dishCount ≤ l.dish))]

/-- The entry that a line makes, before its batches are known (R3). -/
def TicketLine.toTicket (l : TicketLine) (line : Nat) : Ticket :=
  { line := line, hostId := l.hostId, course := toCourse l.course, wave := l.wave, dish := l.dish, rush := l.rush
    portions := l.portions, special := l.special, tags := l.tags, lead := l.lead, station := none, batches := []
    finished := 0, voided := false }

-- ## Splitting

/-- The regular portions (R9). -/
def Ticket.regular (t : Ticket) : Nat := t.portions - t.special

/-- The number of regular batches, ceil(R / B) (R9). -/
def regularBatches (t : Ticket) (d : DishRecord) : Nat := (t.regular + d.batchSize - 1) / d.batchSize

/-- The number of batches (R9). -/
def batchCount (t : Ticket) (d : DishRecord) : Nat :=
  if 0 < t.special then regularBatches t d + 1 else regularBatches t d

/-- The number of the special batch (R10). -/
def specialNumber (t : Ticket) (d : DishRecord) : Nat := min d.specialPosition (batchCount t d - 1)

/-- Is batch `i` the special batch (R10)? -/
def isSpecial (t : Ticket) (d : DishRecord) (i : Nat) : Bool := decide (0 < t.special) && i == specialNumber t d

/-- The place of regular batch `i` among the regular batches (R10). -/
def regularIndex (t : Ticket) (d : DishRecord) (i : Nat) : Nat :=
  if 0 < t.special ∧ specialNumber t d < i then i - 1 else i

/-- The portions of batch `i` (R10). -/
def batchPortions (t : Ticket) (d : DishRecord) (i : Nat) : Nat :=
  if isSpecial t d i then t.special
  else if regularIndex t d i + 1 = regularBatches t d then
    t.regular - (regularBatches t d - 1) * d.batchSize
  else d.batchSize

/-- A station number of a checked dish record. -/
def toStation (n : Nat) : StationId := Fin.ofNat 32 n

/-- The target of the special batch: the first divert entry that shares a tag, else the home station (R11, R34). -/
def specialTarget (t : Ticket) (d : DishRecord) : StationId :=
  match [d.divertB, d.divertC, d.divertD].find? (fun e => e.mask &&& t.tags != 0) with
  | some e => toStation e.station
  | none => toStation d.home

/-- The target of batch `i` (R11). -/
def batchTarget (t : Ticket) (d : DishRecord) (i : Nat) : StationId :=
  if isSpecial t d i then specialTarget t d
  else
    match t.station with
    | some st => st
    | none => toStation d.home

/-- The lead unit in ticks (R31). -/
def DishRecord.unit (d : DishRecord) : Nat := if d.unitCode = 1 then 16 else 1

/-- The effective lead (R12, R33). -/
def effectiveLead (t : Ticket) (d : DishRecord) : Nat := (if t.lead = 0 then d.lead else t.lead) * d.unit

/-- The threshold of batch `i`, limited to 65535 (R12). -/
def batchThreshold (t : Ticket) (d : DishRecord) (mark i : Nat) : Nat :=
  min Config.wordMax (effectiveLead t d + mark + (batchCount t d - 1 - i) * d.gap)

/-- Batch `i` of the split of a ticket (R9 to R12): PLANNED, with RUSH as the ticket has it and every other flag clear
(R7). -/
def splitBatch (t : Ticket) (d : DishRecord) (mark entry i : Nat) : Batch :=
  { owner := entry, number := i
    kind := if isSpecial t d i then .special else .regular
    portions := batchPortions t d i, target := batchTarget t d i, threshold := batchThreshold t d mark i
    state := .planned, late := false, moved := false, rush := t.rush, voided := false }

/-- The split of a ticket; none when it makes more than 32 batches or its special portions pass the batch size (R9). -/
def splitTicket (t : Ticket) (d : DishRecord) (mark entry : Nat) : Option (List Batch) :=
  if Config.ticketBatches < batchCount t d ∨ d.batchSize < t.special then none
  else some ((List.range (batchCount t d)).map (splitBatch t d mark entry))

/-- The pass mark of a ticket's wave (R12). -/
def State.passMark (s : State) (t : Ticket) : Nat := (s.courses[t.course]).plan.marks[t.wave]

-- ## Taking records, releasing new batches

/-- Batches put into the records taken for them, in order (R6). -/
def putBatches (p : Table Batch) (es : List (Nat × Batch)) : Table Batch := es.foldl (fun q e => Table.put e.1 e.2 q) p

/-- The new batches of a course that is FIRED, HELD or PASSED and whose threshold is at or above its countdown become
due at the commit (R16, R22). -/
def State.releaseNew (c : CourseId) (rs : List Nat) (s : State) : State :=
  match (s.courses[c]).state with
  | .fired | .held | .passed =>
    s.release (rs.filter fun r =>
      match s.batch? r with
      | some b => dueAt (s.courses[c]).countdown b
      | none => false)
  | .idle | .staged | .cleared => s

-- ## POST

/-- The lowest-numbered FREE entry (R15). -/
def State.freeEntryNumber (s : State) : Nat := (Table.lowestFree 1 s.tickets).headD 0

/-- The entry becomes LIVE with its batches, and the course's open batch count rises (R15, steps 4 and 5). -/
def State.admitTicket (t : Ticket) (entry : Nat) (bs : List Batch) (s : State) : State :=
  ({ s with
    tickets := Table.put entry { t with batches := Table.lowestFree bs.length s.pool } s.tickets
    pool := putBatches s.pool ((Table.lowestFree bs.length s.pool).zip bs) } : State).updCourse t.course
    (fun x => { x with openCount := x.openCount + bs.length })

/-- The commit of a POST (R15, R16). -/
def State.postCommit (t : Ticket) (d : DishRecord) (s : State) : CommandEnd × State :=
  match splitTicket t d (s.passMark t) s.freeEntryNumber with
  | none => (.ended .badLine 0, s.unlock t.line)
  | some bs =>
    if Config.batchRecords < s.pool.length + bs.length then (.ended .noRoom 0, s.unlock t.line)
    else if (s.courses[t.course]).state = .idle ∨ (s.courses[t.course]).state = .cleared then
      (.ended .badState 0, s.unlock t.line)
    else
      (.ended .done 0,
        (s.admitTicket t s.freeEntryNumber bs).releaseNew t.course (Table.lowestFree bs.length s.pool))

/-- The dish lookup of a POST whose line has passed its checks (R36, R37). -/
def State.postLookup (line : Nat) (l : TicketLine) (s : State) : CommandEnd × State :=
  match cached? l.dish s.cache with
  | some d => (s.touchDish l.dish d).postCommit (l.toTicket line) d
  | none => (.runs (.postDish line l), s.issueFill l.dish)

/-- A POST line fetch has returned: the line is checked and the dish looked up (R14). -/
def State.lineReturned (line : Nat) (bs : List Byte) (s : State) : CommandEnd × State :=
  match s.lineCheck (parseTicketLine bs) with
  | some status => (.ended status 0, s.unlock line)
  | none => s.postLookup line (parseTicketLine bs)

/-- A POST is taken (R13). -/
def State.postCommand (line : Nat) (s : State) : CommandEnd × State :=
  if s.lineCount ≤ line then (.ended .badField 0, s)
  else if s.locked line then (.ended .duplicate 0, s)
  else if Config.ticketEntries ≤ s.tickets.length then (.ended .noRoom 0, s)
  else (.runs (.postLine line), (s.lock line).readOwn .lineFetch (s.lineAddr line) 64)

/-- The fault of a failed line fetch (R14; log 21). -/
def lineFault (line : Nat) : FaultReport := { reason := .ownReadFailed, source := 63, sub := 4, line := line }

-- ## AMEND

/-- The value range of each field (R19). -/
def State.amendValueOk (s : State) (f : AmendField) (t : Ticket) (v : Nat) : Bool :=
  match f with
  | .portions => decide (1 ≤ v) && decide (v ≤ 4000)
  | .special => decide (v ≤ 4000)
  | .tags => decide (v < 2 ^ 16)
  | .lead => decide (v ≤ 4095)
  | .wave => decide (v ≤ 3) && decide (v < (s.courses[t.course]).plan.waves)
  | .rush => decide (v ≤ 1)
  | .station => decide (v ≤ 31)

/-- The entry's fields with the one field replaced by the value (R20, R23, R24). -/
def Ticket.amended (t : Ticket) (f : AmendField) (v : Nat) : Ticket :=
  match f with
  | .portions => { t with portions := v }
  | .special => { t with special := v }
  | .tags => { t with tags := BitVec.ofNat 16 v }
  | .lead => { t with lead := v }
  | .wave => { t with wave := Fin.ofNat 4 v }
  | .rush => { t with rush := v == 1 }
  | .station => { t with station := some (toStation v) }

/-- The checks of R2 on an amended ticket (R20). -/
def Ticket.portionsOk (t : Ticket) : Bool :=
  decide (t.special ≤ t.portions) && !(decide (0 < t.special) && t.tags == 0)

/-- Are all batches of a ticket PLANNED (R21)? -/
def State.allPlanned (s : State) (t : Ticket) : Bool :=
  t.batches.all fun r =>
    match s.batch? r with
    | some b => b.state == .planned
    | none => false

/-- The pool without the records of a batch list (R6, R28). -/
def eraseBatches (rs : List Nat) (p : Table Batch) : Table Batch := rs.foldl (fun q r => Table.erase r q) p

/-- The re-split batches replace the old ones (R21, steps 4 to 6). -/
def State.replaceBatches (t : Ticket) (entry : Nat) (bs : List Batch) (s : State) : State :=
  let freed := eraseBatches t.batches s.pool
  ({ s with
    tickets := Table.put entry { t with batches := Table.lowestFree bs.length freed, finished := 0 } s.tickets
    pool := putBatches freed ((Table.lowestFree bs.length freed).zip bs) } : State).updCourse t.course
    (fun x => { x with openCount := x.openCount + bs.length - t.batches.length })

/-- The commit of an AMEND re-split (R21, R22). A ticket that was freed while the lookup was in flight has no PLANNED
batch (log 17). -/
def State.amendCommit (line : Nat) (f : AmendField) (v : Nat) (d : DishRecord) (s : State) : CommandEnd × State :=
  match s.entryOfLine? line with
  | none => (.ended .tooLate 0, s)
  | some (e, t) =>
    if !s.allPlanned t then (.ended .tooLate 0, s)
    else
      match splitTicket (t.amended f v) d (s.passMark (t.amended f v)) e with
      | none => (.ended .badField 0, s)
      | some bs =>
        if Config.batchRecords + t.batches.length < s.pool.length + bs.length then (.ended .noRoom 0, s)
        else
          (.ended .done 0,
            (s.replaceBatches (t.amended f v) e bs).releaseNew t.course
              (Table.lowestFree bs.length (eraseBatches t.batches s.pool)))

/-- A re-splitting AMEND is taken: the amended ticket is checked and the dish looked up (R20). -/
def State.amendResplit (line : Nat) (t : Ticket) (f : AmendField) (v : Nat) (s : State) : CommandEnd × State :=
  if !(t.amended f v).portionsOk then (.ended .badField 0, s)
  else
    match cached? t.dish s.cache with
    | some d => (s.touchDish t.dish d).amendCommit line f v d
    | none => (.runs (.amendDish line t.dish t.course.val f v), s.issueFill t.dish)

/-- AMEND of RUSH on one batch (R23). -/
def State.rushBatch (v : Bool) (s : State) (r : Nat) : State :=
  match s.batch? r with
  | some b =>
    match b.state with
    | .planned => s.updBatch r (fun x => { x with rush := v })
    | .due =>
      ((s.updBatch r (fun x => { x with rush := v })).updStation b.target
        (fun x => (x.unqueue r).join r (v || b.moved))).checkShow b.target
    | .shown _ | .cooking _ | .stranded | .done | .void => s
  | none => s

/-- AMEND of STATION on one batch (R24). -/
def State.retargetBatch (st : StationId) (s : State) (r : Nat) : State :=
  match s.batch? r with
  | some b =>
    if b.kind = .special then s
    else
      match b.state with
      | .planned => s.updBatch r (fun x => { x with target := st })
      | .due =>
        ((s.updStation b.target (Station.unqueue r)).updBatch r (fun x => { x with target := st })).enterStation r st
      | .shown _ | .cooking _ | .stranded | .done | .void => s
  | none => s

/-- An AMEND that has passed the checks of R19, by its field. -/
def State.amendApply (line e : Nat) (t : Ticket) (f : AmendField) (v : Nat) (s : State) : CommandEnd × State :=
  match f with
  | .rush =>
    (.ended .done 0, t.batches.foldl (State.rushBatch (v == 1)) (s.updTicket e (fun x => x.amended .rush v)))
  | .station =>
    (.ended .done 0,
      t.batches.foldl (State.retargetBatch (toStation v)) (s.updTicket e (fun x => x.amended .station v)))
  | .portions => s.amendResplit line t .portions v
  | .special => s.amendResplit line t .special v
  | .tags => s.amendResplit line t .tags v
  | .lead => s.amendResplit line t .lead v
  | .wave => s.amendResplit line t .wave v

/-- An AMEND is taken (R19). -/
def State.amendCommand (f : AmendField) (line v : Nat) (s : State) : CommandEnd × State :=
  if s.lineCount ≤ line then (.ended .badField 0, s)
  else
    match s.entryOfLine? line with
    | none => (.ended .notPosted 0, s)
    | some (e, t) =>
      if !s.amendValueOk f t v then (.ended .badField 0, s)
      else if t.voided then (.ended .tooLate 0, s)
      else s.amendApply line e t f v

/-- An AMEND whose field code names no field (R19). -/
def State.amendOtherCommand (line : Nat) (s : State) : CommandEnd × State :=
  if s.lineCount ≤ line then (.ended .badField 0, s)
  else if (s.entryOfLine? line).isNone then (.ended .notPosted 0, s)
  else (.ended .badField 0, s)

-- ## Finishing and freeing

/-- The outcome of a ticket whose batches have all finished (R29). -/
def State.outcome (s : State) (t : Ticket) : TicketOutcome :=
  let states := t.batches.filterMap (fun r => (s.batch? r).map (fun b => b.state))
  if states.all (fun x => x == .done) then .allDone
  else if states.all (fun x => x == .void) then .allVoid
  else .partVoid

/-- The freeing of an entry: its finished-log entry, its records, its lock, and the entry itself (R28, R29). -/
def State.freeEntry (e : Nat) (t : Ticket) (s : State) : State :=
  { s.writeAnchor .finishedLog (offFinished s.logIndex) (finishedBytes t (s.outcome t)) with
    logIndex := (s.logIndex + 1) % Config.finishedLogEntries
    pool := eraseBatches t.batches s.pool
    locks := s.locks.filter (fun l => l != t.line)
    tickets := Table.erase e s.tickets }

/-- The counts of a finish: the finished count rises and the open batch count falls (R27). -/
def State.countFinish (e : Nat) (c : CourseId) (s : State) : State :=
  (s.updTicket e (fun t => { t with finished := t.finished + 1 })).updCourse c
    (fun x => { x with openCount := x.openCount - 1 })

/-- A batch finishes as DONE or VOID (R27); the last one frees its entry (R28); its course may clear (R58; log 20). -/
def State.finishBatch (r : Nat) (st : BatchState) (s : State) : State :=
  match s.batch? r with
  | none => s
  | some b =>
    match s.ticketOf? b with
    | none => s
    | some t =>
      let u := (s.updBatch r (fun x => { x with state := st })).countFinish b.owner t.course
      let v := if t.finished + 1 = t.batches.length then u.freeEntry b.owner t else u
      v.clearIfDone t.course

-- ## VOID

/-- VOID of a SHOWN batch: its slot and token are freed, its bump entry is cleared, the timer sees it go, it finishes,
and the station is checked (R96, R104). That it finishes before the check, as at a bump (R84, R85), where R26 and R96
give no order: DESIGN CHOICE (log 37), unsafe. -/
def State.voidShown (r : Nat) (st : StationId) (k : SlotId) (s : State) : State :=
  ((((s.updStation st (Station.vacate k)).clearBump st k).departTimer st).finishBatch r .void).checkShow st

/-- VOID of one batch, by the state in which the command finds it (R26, R96). -/
def State.voidBatch (s : State) (r : Nat) : State :=
  match s.batch? r with
  | none => s
  | some b =>
    match b.state with
    | .planned => s.finishBatch r .void
    | .due => (s.updStation b.target (Station.unqueue r)).finishBatch r .void
    | .stranded =>
      (s.updStation b.target (fun x => { x with stranded := x.stranded.filter (fun q => q != r) })).finishBatch r .void
    | .shown k => s.voidShown r b.target k
    | .cooking _ => s.updBatch r (fun x => { x with voided := true })
    | .done | .void => s

/-- A VOID is taken (R26). -/
def State.voidCommand (line : Nat) (s : State) : CommandEnd × State :=
  if s.lineCount ≤ line then (.ended .badField 0, s)
  else
    match s.entryOfLine? line with
    | none => (.ended .notPosted 0, s)
    | some (e, t) =>
      if t.voided then (.ended .done 0, s)
      else (.ended .done 0, t.batches.foldl State.voidBatch (s.updTicket e (fun x => { x with voided := true })))

-- ## Answers to the reads of POST and AMEND

/-- A POST line fetch is answered (R14); in STOPPED the command holds (R175). -/
def State.lineFetched (a : Answer) (_m : MemRequest) (bs : List Byte) (s : State) : State :=
  match s.intake.progress with
  | some (.running notify (.postLine line)) =>
    if a.isOkay then
      if s.part = .stopped then s else State.finishCommand notify (s.lineReturned line bs)
    else
      let t := s.recordFault (lineFault line)
      if t.part = .stopped then t else State.finishCommand notify (.ended .memoryError 0, t.unlock line)
  | _ => s

/-- A valid record is inserted at the fill's completion, before the commit (R38). -/
def State.insertRecord (dish : Nat) (d : DishRecord) (s : State) : State :=
  { s with cache := insertDish dish d s.cache }

/-- A dish fill that came without an error: the record is checked and inserted, and the command goes on or ends with
BAD DISH (R32, R38); in STOPPED the command holds (R40, R175). -/
def State.fillReturned (notify : Bool) (dish : Nat) (bs : List Byte) (fail : State → State)
    (commit : DishRecord → State → CommandEnd × State) (s : State) : State :=
  match (parseDish bs).check with
  | some n => if s.part = .stopped then s else State.finishCommand notify (.ended .badDish n, fail s)
  | none =>
    let t := s.insertRecord dish (parseDish bs)
    if t.part = .stopped then t else State.finishCommand notify (commit (parseDish bs) t)

/-- A dish fill that failed (R39); in STOPPED the command holds (R175). -/
def State.fillFailed (notify : Bool) (f : FaultReport) (fail : State → State) (s : State) : State :=
  let t := s.recordFault f
  if t.part = .stopped then t else State.finishCommand notify (.ended .memoryError 0, fail t)

/-- A dish fill is answered (R38, R39). -/
def State.dishFilled (a : Answer) (_m : MemRequest) (bs : List Byte) (s : State) : State :=
  match s.intake.progress with
  | some (.running notify (.postDish line l)) =>
    if a.isOkay then
      s.fillReturned notify l.dish bs (State.unlock line) (fun d t => t.postCommit (l.toTicket line) d)
    else s.fillFailed notify (s.fillFault l.dish line l.course) (State.unlock line)
  | some (.running notify (.amendDish line dish course f v)) =>
    if a.isOkay then s.fillReturned notify dish bs id (fun d t => t.amendCommit line f v d)
    else s.fillFailed notify (s.fillFault dish line course) id
  | _ => s

end Sys2Proof.Machine
end

