-- ==== Sys2Proof/Machine/Acknowledge.lean ====
section
/-! DEFINITION. Acknowledgement, the ack timer's expiry, the DOWN transition and the return to OPEN (spec/05). -/

namespace Sys2Proof.Machine

/-- A SHOWN batch in slot `k` is acknowledged (R101, steps 1 to 3). -/
def State.acknowledge (st : StationId) (k : SlotId) (r : Nat) (s : State) : State :=
  ((s.updBatch r (fun b => { b with state := .cooking k })).updStation st
    (fun x => if x.state = .opened ∨ x.state = .paused then { x with retry := 0 } else x)).ackReload st

/-- A read of its own window part counts toward the return progress of a DOWN station, which returns at its return
count (R112, R113). -/
def State.countReturn (st : StationId) (s : State) : State :=
  if (s.stations[st]).state = .down then
    if (s.stations[st]).plan.returnCount ≤ (s.stations[st]).progress + 1 then s.returnOpen st
    else s.updStation st (fun x => { x with progress := x.progress + 1 })
  else s

/-- A translated read of slot `k` by the station's own link (R101, R102, R112). -/
def State.linkRead (st : StationId) (k : SlotId) (s : State) : State :=
  match s.slotBatch st k with
  | some (r, _) => (if s.slotUnread st k then s.acknowledge st k r else s).countReturn st
  | none => s.countReturn st

-- ## The DOWN transition

/-- The sub-code of NO BACKUP (R117). -/
def State.noBackupSub (s : State) (st : StationId) : Nat :=
  match (s.stations[st]).plan.backup with
  | none => 0
  | some b => if (s.stations[b]).state = .closed then 1 else 2

/-- Fault STATION DOWN (R117). -/
def State.downFault (s : State) (st : StationId) : FaultReport :=
  { reason := .stationDown, source := linkTag st, sub := (s.stations[st]).plan.retryLimit, station := st.val }

/-- Fault NO BACKUP (R117). -/
def State.noBackupFault (s : State) (st : StationId) : FaultReport :=
  { reason := .noBackup, source := linkTag st, sub := s.noBackupSub st, station := st.val }

/-- The unread batch of slot `k` leaves its slot and is moved to the backup (R109, first run). -/
def State.moveSlot (st b : StationId) (s : State) (k : SlotId) : State :=
  match s.slotBatch st k with
  | some (r, _) => (s.updStation st (Station.vacate k)).moveTo r b
  | none => s

/-- The work of a station going DOWN is moved to its backup: the unread batches in slot order, then the due queue
(R109); its timer stops (R104). -/
def State.moveWork (st b : StationId) (s : State) : State :=
  let t := ((List.finRange 16).filter (fun k => s.slotUnread st k)).foldl (State.moveSlot st b) s
  (t.stations[st]).queue.foldl (fun u r => u.moveTo r b)
    (t.updStation st (fun x => { x with timer := none, prio := [], ordinary := [] }))

/-- A station goes DOWN (R108). -/
def State.goDown (st : StationId) (s : State) : State :=
  let t := ((s.updStation st (fun x => { x with state := .down, progress := 0 })).recordFault
    (s.downFault st)).setCondition (fun n => { n with down := true })
  match t.usableBackup st with
  | some b => t.moveWork st b
  | none => t.recordFault (t.noBackupFault st)

-- ## Expiry

/-- A retry: the count rises and the timer is reloaded (R106, steps 1 and 2). -/
def Station.retried (x : Station) : Station :=
  { x with retry := min Config.byteMax (x.retry + 1), timer := some x.plan.timeout }

/-- The retry limit is reached (R106, step 4). -/
def Station.atLimit (x : Station) : Bool := x.plan.retryLimit != 0 && decide (x.plan.retryLimit ≤ x.retry)

/-- The ack timer of a station expires (R106, R107). -/
def State.expire (st : StationId) (s : State) : State :=
  match (s.stations[st]).state with
  | .opened | .paused =>
    let t := s.updStation st Station.retried
    if (t.stations[st]).atLimit then t.goDown st else t
  | .down => s.updStation st (fun x => { x with progress := 0, timer := some x.plan.timeout })
  | .closed => s

end Sys2Proof.Machine
end

