-- ==== Sys2Proof/Machine/Clock.lean ====
section
/-! DEFINITION. TREF periods, ticks and expiries (R53, R67, R68, R105 to R107; log 16). -/

namespace Sys2Proof.Machine

-- ## The tick divider

/-- The divider's phase rises; where it would reach 2^k it returns to 0 and a tick is produced (R67). -/
def State.divide (u : Setup) (s : State) : State :=
  if s.tickPhase + 1 < 2 ^ u.divider then { s with tickPhase := s.tickPhase + 1 }
  else { s with tickPhase := 0, ticksDue := s.ticksDue + 1 }

/-- A TREF period (R67, R68). -/
def State.trefPeriod (s : State) : State :=
  let t := { s with blink := (s.blink + 1) % 1024 }
  match t.setup with
  | some u => t.divide u
  | none => t

/-- TREF_PERIOD. -/
def execTrefPeriod (s : State) : Host.Outcome State Fault Refusal := .next (s.runLive State.trefPeriod)

-- ## Ticks at the ack timers

/-- A running timer is lowered by 1, and expires where it reaches 0 (R105). -/
def State.takeTick (st : StationId) (s : State) : State :=
  match (s.stations[st]).timer with
  | none => s
  | some n => if n ≤ 1 then s.expire st else s.updStation st (fun x => { x with timer := some (n - 1) })

/-- The tick that a read or a bump has come before lowers a reloaded timer to one below the timeout, or finds it
stopped; no expiry occurs (R114, R115). At an ack timeout of 1 the timer stands at 0 until the next tick (log 26). -/
def State.takeSparedTick (st : StationId) (s : State) : State :=
  match (s.stations[st]).timer with
  | none => s
  | some n => s.updStation st (fun x => { x with timer := some (n - 1) })

/-- A tick mark is set (log 16). -/
def State.setTickMark (m : TickMark) (st : StationId) (s : State) : State :=
  s.updStation st (fun x => { x with tick := m })

/-- The station takes the tick that it owes, if it owes one (R105, R114, R115; log 16). -/
def State.takeOwed (st : StationId) (s : State) : State :=
  match (s.stations[st]).tick with
  | .owed => (s.setTickMark .clear st).takeTick st
  | .owedSpared => (s.setTickMark .clear st).takeSparedTick st
  | .clear | .early | .spared => s

/-- Does the station owe a tick (log 16)? -/
def Station.owes (x : Station) : Bool := x.tick == .owed || x.tick == .owedSpared

/-- A station that still owes the tick before takes it, as an event of its own (log 16). -/
def State.payTick (s : State) (st : StationId) : State :=
  if (s.stations[st]).owes then s.event (State.takeOwed st) else s

/-- The tick at one ack timer: a timer that would reach 0 owes its expiry to ACK_TIMER_EXPIRY; a station that has taken
the tick early takes it no more, and a timer that a read or a bump has renewed expires not (R105, R114, R115;
log 16). -/
def State.lowerTimer (s : State) (st : StationId) : State :=
  match (s.stations[st]).tick with
  | .early => s.setTickMark .clear st
  | .spared => (s.setTickMark .clear st).takeSparedTick st
  | .clear | .owed | .owedSpared =>
    match (s.stations[st]).timer with
    | none => s
    | some n => if n ≤ 1 then s.setTickMark .owed st else s.updStation st (fun x => { x with timer := some (n - 1) })

/-- The tick at the ack timers of all stations (R105). -/
def State.lowerTimers (s : State) : State := (List.finRange 32).foldl State.lowerTimer s

/-- A tick at its two takers, in the order given (R67, R105). -/
def State.takersTick (order : TickOrder) (s : State) : State :=
  match order with
  | .coursesFirst => s.courseTick.lowerTimers
  | .timersFirst => s.lowerTimers.courseTick

/-- A produced tick is taken; it has an effect only while the part is READY (R53, R105). -/
def State.tick (order : TickOrder) (s : State) : State :=
  if s.ticksDue = 0 then s
  else
    let t := { s with ticksDue := s.ticksDue - 1 }
    if t.part = .ready then t.takersTick order else t

/-- TICK. Stations that still owe the tick before take it first (log 16). -/
def execTick (order : TickOrder) (s : State) : Host.Outcome State Fault Refusal :=
  .next ((if s.rstLow || s.part != .ready || s.ticksDue == 0 then { s with responses := [] }
    else (List.finRange 32).foldl State.payTick { s with responses := [] }).event
    (fun t => if t.rstLow then t else t.tick order))

/-- The tick that expires a station's timer is taken by that station: after TICK, or before it when the tick has been
produced (R105; log 16). -/
def State.ackTimerExpiry (st : StationId) (s : State) : State :=
  if s.part = .ready then
    match (s.stations[st]).tick with
    | .owed | .owedSpared => s.takeOwed st
    | .clear =>
      if s.tickProduced && (s.stations[st]).atLastTick then (s.setTickMark .early st).expire st else s
    | .early | .spared => s
  else s

/-- ACK_TIMER_EXPIRY. -/
def execAckTimerExpiry (st : StationId) (s : State) : Host.Outcome State Fault Refusal :=
  .next (s.runLive (State.ackTimerExpiry st))

end Sys2Proof.Machine
end

