-- ==== Sys2Proof/Machine/StartUp.lean ====
section
/-! DEFINITION. Start-up, the setup block, plan loading, PLAN, restart and RST (spec/10, R136, R137). -/

namespace Sys2Proof.Machine

-- ## Reset of the tables

/-- Every table at the value its chapter gives after RST and after a restart (R183); the divider holds no code and the
blink phases begin again (R67, R68). Until a setup passes, the divider's phase is 0: DESIGN CHOICE (log 34), safe. -/
def State.resetTables (s : State) : State :=
  { s with
    setup := none, plan := noPlan, loader := .idle, latched := Latched.reset
    faults := Vector.replicate 8 none, overflow := false, conditions := Conditions.clear, noticeShown := 0
    tickets := [], locks := [], pool := [], logIndex := 0, cache := []
    courses := Vector.replicate 16 (Course.fresh unplannedCourse), service := Service.empty
    tickPhase := 0, blink := 0, ticksDue := 0
    stations := Vector.replicate 32 (Station.fresh resetStationPlan), intake := Intake.reset
    marks := Marks.empty }

/-- The part enters START and issues start-up's first requests (R168, R178). -/
def State.enterStart (s : State) : State :=
  { s with part := .start, loader := .setupLow, port := s.port.enqueueAll (startUpRequests s.straps) }

/-- A restart (R136, R183). Requests in flight and assemblies are carried to their end (R151). The reset of the course,
station and service records writes no mirror entry: DESIGN CHOICE (log 35), unsafe. -/
def State.restart (s : State) : State :=
  ({ s.resetTables with port := s.port.restarted } : State).enterStart

/-- The fall of RST: all requests in flight are abandoned, waiting ones dropped, the tables hold nothing (R137, R184;
log 11). -/
def State.rstFall (s : State) : State :=
  { s.resetTables with
    rstLow := true, part := .start, flights := Vector.replicate 64 [], portWaiting := [], assemblies := []
    port := s.port.fallen }

/-- The rise of RST: the straps are captured and the part enters START (R176, R184). -/
def State.rstRise (straps : BitVec 8) (s : State) : State :=
  ({ s.resetTables with rstLow := false, straps := straps } : State).enterStart

/-- RST_FALL. RST that is low already does not fall (log 2). -/
def execRstFall (s : State) : Host.Outcome State Fault Refusal := .next (s.runLive State.rstFall)

/-- RST_RISE. RST that is high already does not rise (log 2). -/
def execRstRise (straps : BitVec 8) (s : State) : Host.Outcome State Fault Refusal :=
  .next (s.run (fun t => if t.rstLow then t.rstRise straps else t))

-- ## IDLE and READY

/-- The part enters IDLE: no plan in force, and every table mirror is written (R177). -/
def State.enterIdle (s : State) : State :=
  ({ s with
    part := .idle, plan := noPlan, loader := .idle, cache := []
    courses := Vector.replicate 16 (Course.fresh unplannedCourse), service := Service.empty
    stations := Vector.replicate 32 (Station.fresh resetStationPlan) } : State).markAllTables

/-- The NOTIFY flag of a running PLAN (R157). -/
def State.planNotify (s : State) : Bool :=
  match s.intake.progress with
  | some (.running notify .plan) => notify
  | _ => false

/-- A plan load ends: at start-up it sets the part state only; a PLAN command completes with its status (R178, R182). -/
def State.endLoad (o : PlanOrigin) (status : Status) (s : State) : State :=
  match o with
  | .startUp => s
  | .command => s.complete s.planNotify status 0

/-- The plan is in force: the service is empty, all mirrors are written, and the part is READY (R181). -/
def State.planInForce (o : PlanOrigin) (s : State) : State :=
  (({ s with part := .ready, loader := .idle, service := Service.empty } : State).markAllTables).endLoad o .done

-- ## Plan loading

/-- The address of a plan line (R180). -/
def PlanLoad.lineAddr (l : PlanLoad) : Nat := l.addr + 64 * l.line

/-- The read of the load's present line is issued (R181). -/
def State.readPlanLine (l : PlanLoad) (s : State) : State :=
  ({ s with loader := .planning l } : State).readOwn .planRead l.lineAddr 64

/-- A plan load begins with line 0 of the check pass (R181). -/
def State.beginLoad (o : PlanOrigin) (addr : Nat) (s : State) : State :=
  s.readPlanLine { origin := o, addr := addr, pass := .check, line := 0, header := noPlan }

/-- Has the load replaced anything (R181)? -/
def PlanLoad.replaced (l : PlanLoad) : Bool := l.pass == .load && l.line != 0

/-- A plan load ends as a read failure: OWN READ FAILED for the line; then, unless it has stopped the part, the plan in
force is unchanged, or the part enters IDLE (R181, R182, R175). -/
def State.loadFailed (l : PlanLoad) (s : State) : State :=
  let t := s.recordFault { reason := .ownReadFailed, source := 63, sub := 2, addr := l.lineAddr }
  if t.part = .stopped then t
  else if l.replaced || l.origin == .startUp then t.enterIdle.endLoad l.origin .memoryError
  else ({ t with loader := .idle } : State).endLoad l.origin .memoryError

/-- A check of the check pass has failed: PLAN INVALID and IDLE at start-up, BAD PLAN for a PLAN command (R180,
R182). -/
def State.loadInvalid (o : PlanOrigin) (f : PlanFailure) (addr : Nat) (s : State) : State :=
  match o with
  | .startUp =>
    (s.recordFault
      { reason := .planInvalid, source := 63, sub := f.check, station := f.station, course := f.course
        addr := addr }).enterIdle
  | .command => ({ s with loader := .idle } : State).endLoad .command .badPlan

/-- A course record of a loaded line replaces its course (R44, R45, R181). -/
def loadCourse (h : PlanHeader) (line : Nat) (bs : List Byte) (s : State) (j : Nat) : State :=
  s.updCourse (toCourse (2 * (line - 1) + j)) (fun _ =>
    Course.fresh (if 2 * (line - 1) + j < h.courseCount then parseCourse bs (32 * j) else unplannedCourse))

/-- A station record of a loaded line replaces its station (R71, R72, R181). -/
def loadStation (line : Nat) (bs : List Byte) (s : State) (j : Nat) : State :=
  s.updStation (toStation (4 * (line - 9) + j)) (fun _ => Station.fresh (parseStation bs (16 * j)).toPlan)

/-- A checked line of the load pass is put in force (R181). -/
def State.putPlanLine (l : PlanLoad) (bs : List Byte) (s : State) : State :=
  if l.line = 0 then { s with plan := parseHeader bs, cache := [] }
  else if l.line ≤ 8 then [0, 1].foldl (loadCourse l.header l.line bs) s
  else [0, 1, 2, 3].foldl (loadStation l.line bs) s

/-- The header that the checks of a line read: line 0 itself, or the one this pass has read (R180). -/
def PlanLoad.headerOf (l : PlanLoad) (bs : List Byte) : PlanHeader := if l.line = 0 then parseHeader bs else l.header

/-- A line has passed its checks: the load goes on, or ends with the plan in force (R181). -/
def State.lineLoaded (l : PlanLoad) (bs : List Byte) (s : State) : State :=
  match l.pass with
  | .check =>
    if l.line < 16 then s.readPlanLine { l with line := l.line + 1, header := l.headerOf bs }
    else s.readPlanLine { l with pass := .load, line := 0 }
  | .load =>
    if l.line < 16 then (s.putPlanLine l bs).readPlanLine { l with line := l.line + 1, header := l.headerOf bs }
    else (s.putPlanLine l bs).planInForce l.origin

/-- A plan line has returned without an error: it is checked (R180, R181). -/
def State.lineChecked (u : Setup) (l : PlanLoad) (bs : List Byte) (s : State) : State :=
  match firstFailing (planLineChecks s.straps u (l.headerOf bs) l.line bs) with
  | some f =>
    match l.pass with
    | .check => s.loadInvalid l.origin f l.lineAddr
    | .load => s.loadFailed l
  | none => s.lineLoaded l bs

/-- A plan read is answered; in STOPPED the load does not go on (R175, R181). A line of the load pass that comes without
an error in STOPPED is not checked, so that no fault is recorded for it: DESIGN CHOICE (log 36), unsafe. -/
def State.planLineReturned (a : Answer) (m : MemRequest) (bs : List Byte) (s : State) : State :=
  match s.loader, s.setup with
  | .planning l, some u =>
    if a.isOkay then if s.part = .stopped then s else s.lineChecked u l bs
    else
      if s.part = .stopped then
        s.recordFault { reason := .ownReadFailed, source := 63, sub := 2, addr := m.addr }
      else s.loadFailed l
  | _, _ => s

/-- A PLAN is taken (R182; check 1 of R180). -/
def State.planCommand (addr : Nat) (s : State) : CommandEnd × State :=
  if !s.tickets.isEmpty || s.service.state == .running || s.service.state == .stalled || decide (0 < s.liveCount) then
    (.ended .badState 0, s)
  else
    match s.setup with
    | none => (.ended .badPlan 0, s)
    | some u =>
      if badPlanAddr s.straps u addr then (.ended .badPlan 0, s)
      else (.runs .plan, s.beginLoad .command addr)

-- ## Setup

/-- The setup fails: the part enters TRANSPARENT (R178). -/
def State.enterTransparent (s : State) : State := { s with part := .transparent, loader := .idle }

/-- A valid setup is put in force, and the plan it names is loaded (R178, steps 5 and 6; check 1 of R180). -/
def State.putSetup (u : Setup) (s : State) : State :=
  let t := { s with setup := some u, tickPhase := 0 }
  if badPlanAddr s.straps u u.planAddr then
    t.loadInvalid .startUp { check := 1, course := 0, station := 0 } u.planAddr
  else t.beginLoad .startUp u.planAddr

/-- Both halves of the setup block have been read: it is checked (R178, step 4; R179). -/
def State.setupRead (bs : List Byte) (s : State) : State :=
  match setupCheck s.straps bs (parseSetup bs) with
  | some n =>
    (s.recordFault { reason := .setupInvalid, source := 63, sub := n, addr := s.anchor }).enterTransparent
  | none => s.putSetup (parseSetup bs)

/-- A setup read is answered (R178, step 3). -/
def State.setupReturned (a : Answer) (m : MemRequest) (bs : List Byte) (s : State) : State :=
  match s.loader with
  | .setupLow =>
    if a.isOkay then ({ s with loader := .setupHigh bs } : State).readOwn .setupRead (s.anchor + 64) 64
    else (s.recordFault { reason := .ownReadFailed, source := 63, sub := 1, addr := m.addr }).enterTransparent
  | .setupHigh low =>
    if a.isOkay then s.setupRead (low ++ bs)
    else (s.recordFault { reason := .ownReadFailed, source := 63, sub := 1, addr := m.addr }).enterTransparent
  | .idle | .planning _ => s

/-- Is this the owner of a setup read? -/
def Owner.isSetupRead : Owner → Bool
  | .own .setupRead => true
  | _ => false

/-- Is this the owner of a plan read? -/
def Owner.isPlanRead : Owner → Bool
  | .own .planRead => true
  | _ => false

/-- SETUP_READ_DONE. -/
def execSetupReadDone (id : Nat) (a : Answer) (s : State) : Host.Outcome State Fault Refusal :=
  .next (s.run (State.memAnswer id a Owner.isSetupRead (State.setupReturned a)))

/-- PLAN_LINE_READ_DONE. -/
def execPlanLineReadDone (id : Nat) (a : Answer) (s : State) : Host.Outcome State Fault Refusal :=
  .next (s.run (State.memAnswer id a Owner.isPlanRead (State.planLineReturned a)))

end Sys2Proof.Machine
end

