-- ==== Sys2Proof/Machine/Intake.lean ====
section
/-! DEFINITION. The intake ring: the taking of an entry, its judgement, and the commands of the command list (R155,
R156, R161, R162, R164). -/

namespace Sys2Proof.Machine

-- ## The commands

/-- FENCE is taken (R162). -/
def State.fenceCommand (s : State) : CommandEnd × State :=
  if s.port.ownWrites.isEmpty then (.ended .done 0, s) else (.runs (.fence s.port.ownWrites 0), s)

/-- A command is handed to its owner (R156, step 3; R164). -/
def State.perform (c : Command) (s : State) : CommandEnd × State :=
  match c with
  | .nop => (.ended .done 0, s)
  | .post line => s.postCommand line
  | .amend f line v => s.amendCommand f line v
  | .amendOther line => s.amendOtherCommand line
  | .void line => s.voidCommand line
  | .fire c n => s.fireCommand c n
  | .hold c => s.holdCommand c
  | .resume c => s.resumeCommand c
  | .service count cycle courses => s.serviceCommand count cycle courses
  | .station a st v => s.stationCommand a st v
  | .stationOther => (.ended .badField 0, s)
  | .flush k target => s.flushCommand k target
  | .flushOther => (.ended .badField 0, s)
  | .fence => s.fenceCommand
  | .plan addr => s.planCommand addr
  | .unknown => (.ended .badCommand 0, s)

/-- The commands taken in IDLE (R156, step 2). -/
def Command.inIdle : Command → Bool
  | .nop | .fence | .plan _ => true
  | .post _ | .amend _ _ _ | .amendOther _ | .void _ | .fire _ _ | .hold _ | .resume _ | .service _ _ _
  | .station _ _ _ | .stationOther | .flush _ _ | .flushOther | .unknown => false

/-- A taken entry is judged (R156). -/
def State.judge (c : Command) (s : State) : CommandEnd × State :=
  if c = .unknown then (.ended .badCommand 0, s)
  else if s.part = .idle ∧ c.inIdle = false then (.ended .badState 0, s)
  else s.perform c

/-- An entry is taken and its command judged (R155, R156). -/
def State.takeCommand (notify : Bool) (c : Command) (s : State) : State := State.finishCommand notify (s.judge c)

-- ## The return of a fetch

/-- The entry fetch is answered (R155); in STOPPED no entry is taken (R175). -/
def State.entryFetched (a : Answer) (m : MemRequest) (bs : List Byte) (s : State) : State :=
  if a.isOkay then if s.part = .stopped then s else s.takeCommand (entryNotify bs) (decodeCommand bs)
  else
    let t := s.recordFault { reason := .ownReadFailed, source := 63, sub := 3, addr := m.addr }
    if t.part = .stopped then t else t.complete false .memoryError 0

/-- Is this the owner of an entry fetch? -/
def Owner.isEntryFetch : Owner → Bool
  | .own .entryFetch => true
  | _ => false

/-- The entry fetch `id` is answered. -/
def State.entryFetchStep (id : Nat) (a : Answer) (s : State) : State :=
  s.run (State.memAnswer id a Owner.isEntryFetch (State.entryFetched a))

/-- The 32 bytes of the entry at the head, as DRAM holds them. -/
def State.headEntry (s : State) : List Byte := Memory.readBytes s.dram s.headAddr 32

/-- The entry at the head holds this command with this NOTIFY flag. -/
def State.headHolds (s : State) (notify : Bool) (c : Command) : Bool :=
  entryNotify s.headEntry == notify && decodeCommand s.headEntry == c

/-- The rows of the intake ring: the fetch in flight is answered without an error, and the entry that DRAM holds is
this command. It does nothing where no fetch is in flight or the entry is another one (log 25). -/
def State.takeAs (notify : Bool) (c : Command) (s : State) : State :=
  match s.intake.progress with
  | some (.fetching id) =>
    if s.headHolds notify c then s.entryFetchStep id .okay else { s with responses := [] }
  | _ => { s with responses := [] }

-- ## The rows

/-- ENTRY_FETCH_DONE. -/
def execEntryFetchDone (id : Nat) (a : Answer) (s : State) : Host.Outcome State Fault Refusal :=
  .next (s.entryFetchStep id a)

/-- Is this the owner of a ticket line fetch? -/
def Owner.isLineFetch : Owner → Bool
  | .own .lineFetch => true
  | _ => false

/-- Is this the owner of a dish fill? -/
def Owner.isDishFill : Owner → Bool
  | .own .dishFill => true
  | _ => false

/-- LINE_FETCH_DONE. -/
def execLineFetchDone (id : Nat) (a : Answer) (s : State) : Host.Outcome State Fault Refusal :=
  .next (s.run (State.memAnswer id a Owner.isLineFetch (State.lineFetched a)))

/-- DISH_FILL_DONE. -/
def execDishFillDone (id : Nat) (a : Answer) (s : State) : Host.Outcome State Fault Refusal :=
  .next (s.run (State.memAnswer id a Owner.isDishFill (State.dishFilled a)))

/-- NOP. -/
def execNop (notify : Bool) (s : State) : Host.Outcome State Fault Refusal := .next (s.takeAs notify .nop)

/-- POST. -/
def execPost (notify : Bool) (line : BitVec 16) (s : State) : Host.Outcome State Fault Refusal :=
  .next (s.takeAs notify (.post line.toNat))

/-- AMEND of PORTIONS. -/
def execAmendPortions (notify : Bool) (line value : BitVec 16) (s : State) : Host.Outcome State Fault Refusal :=
  .next (s.takeAs notify (.amend .portions line.toNat value.toNat))

/-- AMEND of SPECIAL. -/
def execAmendSpecial (notify : Bool) (line value : BitVec 16) (s : State) : Host.Outcome State Fault Refusal :=
  .next (s.takeAs notify (.amend .special line.toNat value.toNat))

/-- AMEND of TAGS. -/
def execAmendTags (notify : Bool) (line value : BitVec 16) (s : State) : Host.Outcome State Fault Refusal :=
  .next (s.takeAs notify (.amend .tags line.toNat value.toNat))

/-- AMEND of LEAD. -/
def execAmendLead (notify : Bool) (line value : BitVec 16) (s : State) : Host.Outcome State Fault Refusal :=
  .next (s.takeAs notify (.amend .lead line.toNat value.toNat))

/-- AMEND of WAVE. -/
def execAmendWave (notify : Bool) (line value : BitVec 16) (s : State) : Host.Outcome State Fault Refusal :=
  .next (s.takeAs notify (.amend .wave line.toNat value.toNat))

/-- AMEND of RUSH. -/
def execAmendRush (notify : Bool) (line value : BitVec 16) (s : State) : Host.Outcome State Fault Refusal :=
  .next (s.takeAs notify (.amend .rush line.toNat value.toNat))

/-- AMEND of STATION. -/
def execAmendStation (notify : Bool) (line value : BitVec 16) (s : State) : Host.Outcome State Fault Refusal :=
  .next (s.takeAs notify (.amend .station line.toNat value.toNat))

/-- VOID. -/
def execVoid (notify : Bool) (line : BitVec 16) (s : State) : Host.Outcome State Fault Refusal :=
  .next (s.takeAs notify (.void line.toNat))

/-- FIRE. -/
def execFire (notify : Bool) (course : Byte) (countdown : BitVec 16) (s : State) :
    Host.Outcome State Fault Refusal :=
  .next (s.takeAs notify (.fire course.toNat countdown.toNat))

/-- HOLD. -/
def execHold (notify : Bool) (course : Byte) (s : State) : Host.Outcome State Fault Refusal :=
  .next (s.takeAs notify (.hold course.toNat))

/-- RESUME. -/
def execResume (notify : Bool) (course : Byte) (s : State) : Host.Outcome State Fault Refusal :=
  .next (s.takeAs notify (.resume course.toNat))

/-- SERVICE. -/
def execService (notify : Bool) (count cycle : Byte) (courses : Vector Byte 8) (s : State) :
    Host.Outcome State Fault Refusal :=
  .next (s.takeAs notify (.service count.toNat cycle.toNat (courses.toList.map (fun c => c.toNat))))

/-- STATION OPEN. -/
def execStationOpen (notify : Bool) (station : Byte) (s : State) : Host.Outcome State Fault Refusal :=
  .next (s.takeAs notify (.station .opening station.toNat 0))

/-- STATION CLOSE. -/
def execStationClose (notify : Bool) (station : Byte) (s : State) : Host.Outcome State Fault Refusal :=
  .next (s.takeAs notify (.station .close station.toNat 0))

/-- STATION PAUSE. -/
def execStationPause (notify : Bool) (station : Byte) (s : State) : Host.Outcome State Fault Refusal :=
  .next (s.takeAs notify (.station .pause station.toNat 0))

/-- STATION UNPAUSE. -/
def execStationUnpause (notify : Bool) (station : Byte) (s : State) : Host.Outcome State Fault Refusal :=
  .next (s.takeAs notify (.station .unpause station.toNat 0))

/-- STATION BACKUP. -/
def execStationBackup (notify : Bool) (station value : Byte) (s : State) : Host.Outcome State Fault Refusal :=
  .next (s.takeAs notify (.station .backup station.toNat value.toNat))

/-- STATION CAPACITY. -/
def execStationCapacity (notify : Bool) (station value : Byte) (s : State) : Host.Outcome State Fault Refusal :=
  .next (s.takeAs notify (.station .capacity station.toNat value.toNat))

/-- STATION RELEASE STRANDED. -/
def execReleaseStranded (notify : Bool) (station value : Byte) (s : State) : Host.Outcome State Fault Refusal :=
  .next (s.takeAs notify (.station .releaseStranded station.toNat value.toNat))

/-- FLUSH of granularity ALL. -/
def execFlushAll (notify : Bool) (s : State) : Host.Outcome State Fault Refusal :=
  .next (s.takeAs notify (.flush .all 0))

/-- FLUSH of granularity DISH. -/
def execFlushDish (notify : Bool) (target : BitVec 16) (s : State) : Host.Outcome State Fault Refusal :=
  .next (s.takeAs notify (.flush .dish target.toNat))

/-- FLUSH of granularity STATION. -/
def execFlushStation (notify : Bool) (target : BitVec 16) (s : State) : Host.Outcome State Fault Refusal :=
  .next (s.takeAs notify (.flush .station target.toNat))

/-- FENCE. -/
def execFence (notify : Bool) (s : State) : Host.Outcome State Fault Refusal := .next (s.takeAs notify .fence)

/-- PLAN. -/
def execPlan (notify : Bool) (addr : Address) (s : State) : Host.Outcome State Fault Refusal :=
  .next (s.takeAs notify (.plan addr.toNat))

end Sys2Proof.Machine
end

