-- ==== Sys2Proof/Machine/Window.lean ====
section
/-! DEFINITION. The Window Translator: decoding, the slot view, assemblies, and bumps (spec/07, R83 to R85). -/

namespace Sys2Proof.Machine

-- ## Decoding

/-- The slot line that a window request names, and the position of its first byte in that line (R139). -/
structure WindowPlace where
  station : StationId
  slot : SlotId
  first : Nat
  deriving DecidableEq, Repr

/-- The offset of an address from the window base. -/
def Setup.windowOffset (u : Setup) (a : Nat) : Nat := a - u.windowBase

/-- The place that a window address names (R139). -/
def Setup.windowPlace (u : Setup) (a : Nat) : WindowPlace :=
  { station := Fin.ofNat 32 (u.windowOffset a / 2 ^ u.pt)
    slot := Fin.ofNat 16 (u.windowOffset a / 2 ^ u.ps)
    first := u.windowOffset a % 64 }

/-- An offset bit outside the byte-in-line bits and the two fields is set: the offset is not the one its place gives
(R122, R139). -/
def Setup.badWindowAddress (u : Setup) (a : Nat) : Bool :=
  u.windowOffset a !=
    (u.windowPlace a).slot.val * 2 ^ u.ps + (u.windowPlace a).station.val * 2 ^ u.pt + (u.windowPlace a).first

-- ## The slot view

/-- The flags byte of the synthesized bytes (R142). -/
def Batch.viewFlags (b : Batch) : Nat :=
  bitIf b.late 0 + bitIf (b.kind == .special) 1 + bitIf b.voided 2 + bitIf b.moved 3 + bitIf b.rush 4

/-- The time-to-pass of a ticket's batches: the countdown less the wave's pass mark, never below 0 (R143). -/
def State.timeToPass (s : State) (t : Ticket) : Nat := (s.courses[t.course]).countdown - s.passMark t

/-- The synthesized bytes 56 to 63 of the view of a batch (R142, R143). -/
def State.synthBytes (s : State) (t : Ticket) (b : Batch) : List Byte :=
  leBytes 2 t.hostId.toNat ++ leBytes 1 (b.number + bitIf (b.number + 1 == t.batches.length) 7)
    ++ leBytes 1 b.viewFlags ++ leBytes 2 b.portions ++ leBytes 2 (s.timeToPass t)

/-- The view of an empty slot: zeros but for the EMPTY flag (R145). -/
def emptyView : List Byte := zeros 59 ++ [0x20] ++ zeros 4

/-- The first of the touched bytes that lie at view positions `lo` to `hi - 1`, and how many of them do. -/
def touchedPart (first len lo hi : Nat) : Nat × Nat := (max first lo, min (first + len) hi - max first lo)

/-- The bytes at positions `first` to `first + len - 1` of a list. -/
def slice (first len : Nat) (bs : List Byte) : List Byte := (bs.drop first).take len

-- ## Assemblies

/-- The address of a read's bytes of the bump entry, when it touches any of bytes 0 to 7 (R140). -/
def State.bumpReadAddr (s : State) (p : WindowPlace) (len : Nat) : Option Nat :=
  if 0 < (touchedPart p.first len 0 8).2 then
    some (s.anchor + offBump p.station p.slot + (touchedPart p.first len 0 8).1)
  else none

/-- The address of a read's bytes of the ticket line, when it touches any of bytes 8 to 55 (R140). -/
def State.lineReadAddr (s : State) (p : WindowPlace) (line len : Nat) : Option Nat :=
  if 0 < (touchedPart p.first len 8 56).2 then some (s.lineAddr line + (touchedPart p.first len 8 56).1) else none

/-- A read of an assembly, with the requester's tag (R135, R144). -/
def assemblyRead (tag : Tag) (owner : Owner) (addr len : Nat) : MemRequest :=
  { id := 0, tag := tag, kind := .read, addr := addr, len := len, enables := [], data := [], owner := owner
    discard := false }

/-- The memory reads of an assembly, the bump-entry read first (R140, R144). -/
def Assembly.reads (x : Assembly) : List MemRequest :=
  (x.bumpAddr.map fun a =>
      assemblyRead x.tag (.assemblyBump x.flight) a (touchedPart x.first x.len 0 8).2).toList
    ++ (x.lineAddr.map fun a =>
      assemblyRead x.tag (.assemblyLine x.flight) a (touchedPart x.first x.len 8 56).2).toList

/-- The record of a read of a slot that holds a batch (R141). -/
def State.assemblyOf (s : State) (id : Nat) (tag : Tag) (p : WindowPlace) (len : Nat) (t : Ticket) (b : Batch) :
    Assembly :=
  { flight := id, tag := tag, first := p.first, len := len, synth := s.synthBytes t b
    bumpAddr := s.bumpReadAddr p len, lineAddr := s.lineReadAddr p t.line len
    outstanding := (s.bumpReadAddr p len).toList.length + (s.lineReadAddr p t.line len).toList.length
    error := false, bumpBytes := [], lineBytes := [] }

/-- The touched bytes of the view (R140). -/
def Assembly.view (x : Assembly) : List Byte :=
  x.bumpBytes ++ x.lineBytes
    ++ slice ((touchedPart x.first x.len 56 64).1 - 56) (touchedPart x.first x.len 56 64).2 x.synth

/-- The response of an assembly (R144). -/
def Assembly.response (x : Assembly) : Response :=
  if x.error then { status := .memfail, data := zeros x.len } else { status := .okay, data := x.view }

/-- The assembly opens: with reads to make it is recorded and they enter the issue order; without, it responds at once
(R140, R141, R144). -/
def State.openAssembly (x : Assembly) (s : State) : State :=
  if x.outstanding = 0 then s.respond x.tag x.flight x.response
  else { s with assemblies := s.assemblies ++ [x], port := s.port.enqueueAll x.reads }

/-- What a translated read does at the Station Table: the station's own link acknowledges and counts (R101, R112); the
order processor changes nothing (R146). -/
def State.readEffect (tag : Tag) (p : WindowPlace) (s : State) : State :=
  if tag = linkTag p.station then s.linkRead p.station p.slot else s

/-- The slot's batch with its ticket. -/
def State.slotView? (s : State) (p : WindowPlace) : Option (Ticket × Batch) :=
  match s.slotBatch p.station p.slot with
  | none => none
  | some (_, b) =>
    match s.ticketOf? b with
    | none => none
    | some t => some (t, b)

/-- A translated window read (R141, R145). -/
def State.translateRead (id : Nat) (tag : Tag) (len : Nat) (p : WindowPlace) (s : State) : State :=
  match s.slotView? p with
  | none => (s.respond tag id { status := .okay, data := slice p.first len emptyView }).readEffect tag p
  | some (t, b) => (s.openAssembly (s.assemblyOf id tag p len t b)).readEffect tag p

/-- A returned read recorded in its assembly (R144). -/
def Assembly.returned (x : Assembly) (owner : Owner) (okay : Bool) (bs : List Byte) : Assembly :=
  { x with
    outstanding := x.outstanding - 1
    error := x.error || !okay
    bumpBytes := if owner = .assemblyBump x.flight then bs else x.bumpBytes
    lineBytes := if owner = .assemblyLine x.flight then bs else x.lineBytes }

/-- The request in flight that a memory request serves. -/
def Owner.flight? : Owner → Option Nat
  | .forwarded f | .assemblyBump f | .assemblyLine f | .bump f => some f
  | .own _ => none

/-- A memory read of an assembly returns; the last one forms the response (R144). -/
def State.assemblyReturned (a : Answer) (m : MemRequest) (bs : List Byte) (s : State) : State :=
  match s.assemblies.find? (fun x => m.owner.flight? == some x.flight) with
  | none => s
  | some x =>
    let y := x.returned m.owner a.isOkay bs
    if y.outstanding = 0 then
      ({ s with assemblies := s.assemblies.filter (fun z => z.flight != x.flight) } : State).respond y.tag y.flight
        y.response
    else { s with assemblies := s.assemblies.map (fun z => if z.flight = x.flight then y else z) }

-- ## Refusals

/-- A request is refused: it is complete, and its fault is recorded (R127). -/
def State.refuse (id : Nat) (r : Request) (f : FaultReport) (s : State) : State :=
  (s.respond r.tag id { status := .refused, data := zeroData r.kind r.len }).recordFault f

/-- An ACCESS REFUSED fault of a request (R127). -/
def refusalOf (r : Request) (sub station line : Nat) : FaultReport :=
  { reason := .accessRefused, source := r.tag, sub := sub, station := station, line := line, addr := r.addr.toNat }

/-- Sub-codes that the Window Translator and the Station Table give (R127). -/
def subEmptySlotBump : Nat := 17
def subNotABump : Nat := 19

-- ## Bumps

/-- A DONE bump of the batch `r` in slot `k` (R84). -/
def State.doneBump (st : StationId) (k : SlotId) (r : Nat) (b : Batch) (s : State) : State :=
  let t := if s.slotUnread st k then s.acknowledge st k r else s
  ((t.updStation st (Station.vacate k)).finishBatch r (if b.voided then .void else .done)).checkShow st

/-- Where a rejected batch goes (R85). -/
def State.placeRejected (st : StationId) (r : Nat) (b : Batch) (s : State) : State :=
  if b.voided then s.finishBatch r .void
  else
    match s.usableBackup st with
    | some backup => s.moveTo r backup
    | none => s.strand r st 2

/-- A REJECT bump of the batch `r` in slot `k` (R85, R104, R115). -/
def State.rejectBump (st : StationId) (k : SlotId) (r : Nat) (b : Batch) (s : State) : State :=
  let t := s.updStation st (Station.vacate k)
  ((if s.slotUnread st k then t.departTimer st else t).placeRejected st r b).checkShow st

/-- The redirected write of a taken bump (R149). -/
def State.redirected (s : State) (id : Nat) (r : Request) (p : WindowPlace) : MemRequest :=
  { id := 0, tag := r.tag, kind := .write, addr := s.anchor + offBump p.station p.slot, len := r.len
    enables := r.enables, data := r.data, owner := .bump id, discard := false }

/-- The code of a taken bump acts on its batch (R83). -/
def State.bumpEffect (p : WindowPlace) (code rec : Nat) (b : Batch) (s : State) : State :=
  if code = 1 then s.doneBump p.station p.slot rec b
  else if code = 2 then s.rejectBump p.station p.slot rec b
  else s

/-- Fault BAD BUMP (R83). -/
def State.badBumpFault (s : State) (r : Request) (p : WindowPlace) (rec : Nat) : FaultReport :=
  s.batchFault rec
    { reason := .badBump, source := r.tag, sub := byteAt r.data 0, station := p.station.val, addr := r.addr.toNat }

/-- A window write of a station's own link (R83, R147 to R149). -/
def State.translateBump (id : Nat) (r : Request) (p : WindowPlace) (s : State) : State :=
  if p.first ≠ 0 ∨ 8 < r.len then s.refuse id r (refusalOf r subNotABump p.station.val 0)
  else
    match s.slotBatch p.station p.slot with
    | none => s.refuse id r (refusalOf r subEmptySlotBump p.station.val 0)
    | some (rec, b) =>
      if 2 < byteAt r.data 0 then s.refuse id r (s.badBumpFault r p rec)
      else (s.issue (s.redirected id r p)).bumpEffect p (byteAt r.data 0) rec b

end Sys2Proof.Machine
end

