-- ==== Sys2Proof/Machine/MemoryPath.lean ====
section
/-! DEFINITION. The memory path: regions and the classification of a request (R118 to R123, R127, R128), forwarding
(R124, R126), watched words (R129, R153, R172), the front port's lists (R120), and the part's own writes when they are
answered (R134, R162). -/

namespace Sys2Proof

/-- A request is well formed in the sense of R118: 1 to 64 bytes within one 64-byte line. -/
def Request.inOneLine (r : Request) : Bool :=
  decide (1 ≤ r.len) && decide (r.len ≤ 64) && r.addr.toNat / 64 == (r.addr.toNat + r.len - 1) / 64

/-- The enabled byte that a write carries to an address, if any (R118). -/
def Request.enabledByte (r : Request) (a : Nat) : Option Byte :=
  if r.addr.toNat ≤ a ∧ a < r.addr.toNat + r.len ∧ r.enables.getD (a - r.addr.toNat) false then
    some (r.data.getD (a - r.addr.toNat) 0)
  else none

/-- Does a request touch the four bytes from an address? -/
def Request.touchesWord (r : Request) (a : Nat) : Bool :=
  decide (r.addr.toNat < a + 4) && decide (a < r.addr.toNat + r.len)

end Sys2Proof

namespace Sys2Proof.Machine

-- ## Regions

/-- The regions of R121. -/
inductive Region where
  | setupArea
  | watchedWords
  | finishedLog
  | partOwned
  | pool
  | ring
  | window
  | guard0
  | guard1
  | plain
  deriving DecidableEq, Repr

/-- The region of an anchor offset (R121). -/
def anchorRegion (off : Nat) : Region :=
  if off < 0x80 then .setupArea
  else if off < 0xA0 then .watchedWords
  else if 0x500 ≤ off ∧ off < 0x900 then .finishedLog
  else .partOwned

/-- The region of an address outside the anchor block under a setup (R121). -/
def Setup.regionOf (u : Setup) (a : Nat) : Region :=
  if u.poolSpan.holds a then .pool
  else if u.ringSpan.holds a then .ring
  else if u.windowSpan.holds a then .window
  else if u.guard0.spans.any (fun r => r.holds a) then .guard0
  else if u.guard1.spans.any (fun r => r.holds a) then .guard1
  else .plain

/-- The setup that the Classifier knows: none in START and TRANSPARENT (R123, R131, R132; log 15). -/
def State.knownSetup? (s : State) : Option Setup :=
  match s.part with
  | .start | .transparent => none
  | .idle | .ready | .stopped => s.setup

/-- The region of an address (R121, R123). -/
def State.regionOf (s : State) (a : Nat) : Region :=
  if (anchorSpan s.straps).holds a then anchorRegion (a - s.anchor)
  else
    match s.knownSetup? with
    | some u => u.regionOf a
    | none => .plain

-- ## Refusals

/-- The Classifier's sub-codes of ACCESS REFUSED (R127). -/
inductive AccessCode where
  | malformed
  | ownTag
  | twoRegions
  | anchorAtStart
  | setupArea
  | watchedWord
  | partOwned
  | lineLocked
  | pool
  | intakeRing
  | guard0
  | guard1
  | windowWrite
  | windowAgent
  | otherStation
  | badWindowAddress
  | stoppedBump
  deriving DecidableEq, Repr

/-- The number of a sub-code (R127). -/
def AccessCode.code : AccessCode → Nat
  | .malformed => 1
  | .ownTag => 2
  | .twoRegions => 3
  | .anchorAtStart => 4
  | .setupArea => 5
  | .watchedWord => 6
  | .partOwned => 7
  | .lineLocked => 8
  | .pool => 9
  | .intakeRing => 10
  | .guard0 => 11
  | .guard1 => 12
  | .windowWrite => 13
  | .windowAgent => 14
  | .otherStation => 15
  | .badWindowAddress => 16
  | .stoppedBump => 18

/-- The Classifier's judgement of a request (R122). -/
inductive Verdict where
  | refused (c : AccessCode)
  | forwarded
  | latched
  | translated (p : WindowPlace)
  deriving DecidableEq, Repr

/-- The pool line of an address in the ticket pool (R128). -/
def State.poolLine (s : State) (a : Nat) : Nat := (a - s.poolBase) / 64

-- ## Classification

/-- Is the requester the order processor (R119)? -/
def isOrderProcessor (tag : Tag) : Bool := tag == 0

/-- Is the requester an other agent (R119)? -/
def isOtherAgent (tag : Tag) : Bool := decide (32 < tag.val)

/-- A write that the order processor may make and no one else (R122). -/
def orderProcessorOnly (tag : Tag) (c : AccessCode) (v : Verdict) : Verdict :=
  if isOrderProcessor tag then v else .refused c

/-- The judgement of a write, by its region outside the window (R122). -/
def State.judgeWrite (s : State) (tag : Tag) (a : Nat) : Region → Verdict
  | .setupArea => orderProcessorOnly tag .setupArea .forwarded
  | .watchedWords => orderProcessorOnly tag .watchedWord .latched
  | .finishedLog => orderProcessorOnly tag .partOwned .forwarded
  | .partOwned => .refused .partOwned
  | .pool => orderProcessorOnly tag .pool (if s.locked (s.poolLine a) then .refused .lineLocked else .forwarded)
  | .ring => orderProcessorOnly tag .intakeRing .forwarded
  | .guard0 => orderProcessorOnly tag .guard0 .forwarded
  | .guard1 => orderProcessorOnly tag .guard1 .forwarded
  | .window | .plain => .forwarded

/-- The judgement of a window request, in the order of R122. -/
def State.judgeWindow (s : State) (u : Setup) (tag : Tag) (kind : Kind) (a : Nat) : Verdict :=
  if isOtherAgent tag then .refused .windowAgent
  else if isOrderProcessor tag && kind == .write then .refused .windowWrite
  else if u.badWindowAddress a then .refused .badWindowAddress
  else if !isOrderProcessor tag && tag != linkTag (u.windowPlace a).station then .refused .otherStation
  else if kind == .write && s.part == .stopped then .refused .stoppedBump
  else .translated (u.windowPlace a)

/-- Is this a region of the anchor block? -/
def Region.isAnchor : Region → Bool
  | .setupArea | .watchedWords | .finishedLog | .partOwned => true
  | .pool | .ring | .window | .guard0 | .guard1 | .plain => false

/-- The column of R122 under the part state (R123). -/
def State.judgeRegion (s : State) (tag : Tag) (kind : Kind) (a : Nat) (g : Region) : Verdict :=
  match g, s.setup with
  | .window, some u => s.judgeWindow u tag kind a
  | _, _ =>
    match kind with
    | .read => .forwarded
    | .write => if s.part == .start && g.isAnchor then .refused .anchorAtStart else s.judgeWrite tag a g

/-- The classification of a request at its arrival: form, tag, regions touched, then its column (R122). -/
def State.classify (s : State) (r : Request) : Verdict :=
  if !r.inOneLine then .refused .malformed
  else if r.tag = 63 then .refused .ownTag
  else if s.regionOf r.addr.toNat ≠ s.regionOf (r.addr.toNat + r.len - 1) then .refused .twoRegions
  else s.judgeRegion r.tag r.kind r.addr.toNat (s.regionOf r.addr.toNat)

/-- The station named by a window address, for the refusals that name one (R127). -/
def State.refusedStation (s : State) (a : Nat) : AccessCode → Nat
  | .otherStation | .badWindowAddress | .stoppedBump =>
    match s.setup with
    | some u => (u.windowPlace a).station.val
    | none => 0
  | .malformed | .ownTag | .twoRegions | .anchorAtStart | .setupArea | .watchedWord | .partOwned | .lineLocked
  | .pool | .intakeRing | .guard0 | .guard1 | .windowWrite | .windowAgent => 0

/-- The pool line of a refused pool write (R127). -/
def State.refusedLine (s : State) (a : Nat) : AccessCode → Nat
  | .lineLocked | .pool => s.poolLine a
  | .malformed | .ownTag | .twoRegions | .anchorAtStart | .setupArea | .watchedWord | .partOwned
  | .intakeRing | .guard0 | .guard1 | .windowWrite | .windowAgent | .otherStation | .badWindowAddress
  | .stoppedBump => 0

-- ## Forwarding

/-- The memory request of a forwarded request: the same fields (R124). -/
def forwardOf (id : Nat) (r : Request) : MemRequest :=
  { id := 0, tag := r.tag, kind := r.kind, addr := r.addr.toNat, len := r.len, enables := r.enables, data := r.data
    owner := .forwarded id, discard := false }

/-- A request is forwarded (R124). -/
def State.forward (id : Nat) (r : Request) (s : State) : State := s.issue (forwardOf id r)

-- ## Watched words

/-- The four bytes of a word that a write carries, where they are enabled (R129). -/
def carried (r : Request) (a : Nat) : List (Option Byte) := (List.range 4).map (fun i => r.enabledByte (a + i))

/-- The bytes a write carries to a word, a byte not enabled counting as zero (R129). -/
def carriedBytes (r : Request) (a : Nat) : List Byte := (carried r a).map (fun b => b.getD 0)

/-- A latched word with the enabled bytes of a write put into it (R129). -/
def mergeWord (old : BitVec 32) (bs : List (Option Byte)) : BitVec 32 :=
  BitVec.ofNat 32
    (leNat ((bs.zip (leBytes 4 old.toNat)).map (fun e => e.1.getD e.2)) 0 4)

/-- Fault BAD TAIL (R153). -/
def State.badTail (sub : Nat) (s : State) : State :=
  s.recordFault { reason := .badTail, source := 0, sub := sub, addr := s.anchor + offTail }

/-- A latched tail value is judged (R153); an accepted one may start a fetch (R154). -/
def State.takeTail (v : Nat) (s : State) : State :=
  match s.part with
  | .start => s
  | .transparent => { s with intake := { s.intake with tail := v } }
  | .idle | .ready | .stopped =>
    if s.ringCount ≤ v then s.badTail 1
    else if v = s.intake.head ∧ s.intake.progress.isSome then s.badTail 2
    else ({ s with intake := { s.intake with tail := v } } : State).tryFetch

/-- A fault record is freed, if it is valid (R172). -/
def State.freeRecord (s : State) (i : RecordId) : State := if (s.faults[i]).isSome then s.setFault i none else s

/-- Bit `i` of byte `j`. -/
def bitOf (bs : List Byte) (j i : Nat) : Bool := (bs.getD j 0).getLsbD i

/-- The conditions that byte 0 of the clear word names are cleared (R172). -/
def Conditions.afterClear (n : Conditions) (bs : List Byte) : Conditions :=
  { notify := n.notify && !bitOf bs 0 2
    cleared := n.cleared && !bitOf bs 0 3
    down := n.down && !bitOf bs 0 4
    stall := n.stall && !bitOf bs 0 5
    ended := n.ended && !bitOf bs 0 6 }

/-- The clear word's action on the bytes that a write carries (R172). -/
def State.takeClear (bs : List Byte) (s : State) : State :=
  let t := ((List.finRange 8).filter (fun i => bitOf bs 1 i.val)).foldl State.freeRecord s
  { t with
    overflow := t.overflow && !bitOf bs 2 0
    conditions := t.conditions.afterClear bs }

/-- A restart when the bytes that a write carries are not all zero (R129). -/
def State.takeRestart (bs : List Byte) (s : State) : State := if bs.any (fun b => b != 0) then s.restart else s

/-- Offsets of the watched words after the tail word. -/
def offMask : Nat := 0x84
def offClear : Nat := 0x88
def offRestart : Nat := 0x8C

/-- The tail word is latched and taken. -/
def State.latchTail (r : Request) (s : State) : State :=
  if r.touchesWord (s.anchor + offTail) then
    let v := mergeWord s.latched.tail (carried r (s.anchor + offTail))
    ({ s with latched := { s.latched with tail := v } } : State).takeTail v.toNat
  else s

/-- The notice mask is latched, and so in force (R170). -/
def State.latchMask (r : Request) (s : State) : State :=
  if r.touchesWord (s.anchor + offMask) then
    { s with latched :=
      { s.latched with mask := mergeWord s.latched.mask (carried r (s.anchor + offMask)) } }
  else s

/-- The clear word is latched and acts. -/
def State.latchClear (r : Request) (s : State) : State :=
  if r.touchesWord (s.anchor + offClear) then
    ({ s with latched :=
      { s.latched with clear := mergeWord s.latched.clear (carried r (s.anchor + offClear)) } } : State).takeClear
      (carriedBytes r (s.anchor + offClear))
  else s

/-- The restart word is latched and acts. -/
def State.latchRestart (r : Request) (s : State) : State :=
  if r.touchesWord (s.anchor + offRestart) then
    ({ s with latched :=
      { s.latched with restart := mergeWord s.latched.restart (carried r (s.anchor + offRestart)) } } : State).takeRestart
      (carriedBytes r (s.anchor + offRestart))
  else s

/-- A write latches the watched words it touches, in ascending address order (R129). -/
def State.latchWords (r : Request) (s : State) : State :=
  (((s.latchTail r).latchMask r).latchClear r).latchRestart r

-- ## Arrival

/-- A translated request at the Window Translator (R135). -/
def State.translate (id : Nat) (r : Request) (p : WindowPlace) (s : State) : State :=
  match r.kind with
  | .read => s.translateRead id r.tag r.len p
  | .write => s.translateBump id r p

/-- A judged request is treated (R122). -/
def State.treat (id : Nat) (r : Request) (v : Verdict) (s : State) : State :=
  match v with
  | .refused c =>
    s.refuse id r (refusalOf r c.code (s.refusedStation r.addr.toNat c) (s.refusedLine r.addr.toNat c))
  | .forwarded => s.forward id r
  | .latched => (s.forward id r).latchWords r
  | .translated p => s.translate id r p

/-- A request joins its requester's list (R120). -/
def State.joinList (r : Request) (s : State) : State :=
  { s with
    flights := s.flights.set r.tag (s.flights[r.tag] ++ [{ id := s.arrivals, req := r, response := none }])
    arrivals := s.arrivals + 1 }

/-- A request arrives: it joins its list and is judged and treated (R120, R122). -/
def State.accept (r : Request) (s : State) : State := (s.joinList r).treat s.arrivals r (s.classify r)

/-- A requester's list has room (R120). -/
def State.hasRoom (s : State) (tag : Tag) : Bool := decide ((s.flights[tag]).length < Config.requestsInFlight)

/-- A request is presented: it arrives, or waits while its requester's list is full (R120; log 14). -/
def State.present (r : Request) (s : State) : State :=
  if s.hasRoom r.tag then s.accept r else { s with portWaiting := s.portWaiting ++ [r] }

/-- Waiting requests arrive, each in an event of its own, as far as their lists have room (R120; log 14). -/
def State.admitLoop : Nat → State → State
  | 0, s => s
  | n + 1, s =>
    match s.portWaiting.find? (fun r => s.hasRoom r.tag) with
    | none => s
    | some r =>
      State.admitLoop n
        (({ s with portWaiting := s.portWaiting.erase r } : State).event (State.accept r))

/-- After a response has been returned, the requests that waited for it arrive (R120; log 14). -/
def State.admitWaiting (s : State) : State := s.admitLoop s.portWaiting.length

/-- A request presented at the front port. -/
def State.requestStep (r : Request) (s : State) : State := s.runLive (State.present r)

-- ## The requests that rows of the table name

/-- The write of a watched word by the order processor. -/
def wordRequest (a : Nat) (w : WordWrite) : Request :=
  { tag := 0, kind := .write, addr := BitVec.ofNat 40 a, len := 4
    enables := (List.range 4).map (fun i => w.enable.getLsbD i), data := leBytes 4 w.data.toNat }

/-- A read request. -/
def readRequest (tag : Tag) (addr : Address) (len : Nat) : Request :=
  { tag := tag, kind := .read, addr := addr, len := len, enables := [], data := [] }

/-- A write request. -/
def writeRequest (tag : Tag) (addr : Address) (len : Nat) (enables : List Bool) (data : List Byte) : Request :=
  { tag := tag, kind := .write, addr := addr, len := len, enables := enables, data := data }

/-- REQUEST_ARRIVAL. -/
def execRequestArrival (r : Request) (s : State) : Host.Outcome State Fault Refusal := .next (s.requestStep r)

/-- TAIL_WORD. -/
def execTailWord (w : WordWrite) (s : State) : Host.Outcome State Fault Refusal :=
  .next (s.requestStep (wordRequest (s.anchor + offTail) w))

/-- NOTICE_MASK. -/
def execNoticeMask (w : WordWrite) (s : State) : Host.Outcome State Fault Refusal :=
  .next (s.requestStep (wordRequest (s.anchor + offMask) w))

/-- CLEAR_WORD. -/
def execClearWord (w : WordWrite) (s : State) : Host.Outcome State Fault Refusal :=
  .next (s.requestStep (wordRequest (s.anchor + offClear) w))

/-- RESTART_WORD. -/
def execRestartWord (w : WordWrite) (s : State) : Host.Outcome State Fault Refusal :=
  .next (s.requestStep (wordRequest (s.anchor + offRestart) w))

/-- WINDOW_READ. -/
def execWindowRead (tag : Tag) (addr : Address) (len : Nat) (s : State) : Host.Outcome State Fault Refusal :=
  .next (s.requestStep (readRequest tag addr len))

/-- BUMP_WRITE. -/
def execBumpWrite (tag : Tag) (addr : Address) (len : Nat) (enables : List Bool) (data : List Byte) (s : State) :
    Host.Outcome State Fault Refusal :=
  .next (s.requestStep (writeRequest tag addr len enables data))

-- ## Answers to forwarded and translated requests

/-- The response of a forwarded request or a redirected bump (R124, R126, R149). -/
def memResponse (a : Answer) (m : MemRequest) (bs : List Byte) : Response :=
  match a with
  | .okay =>
    { status := .okay
      data := match m.kind with
        | .read => bs
        | .write => [] }
  | .error _ => { status := .memfail, data := zeroData m.kind m.len }

/-- A forwarded request or a redirected bump is answered, and so complete (R120, R124, R149). -/
def State.memReturned (a : Answer) (m : MemRequest) (bs : List Byte) (s : State) : State :=
  match m.owner.flight? with
  | some f => s.respond m.tag f (memResponse a m bs)
  | none => s

/-- Is this the owner of a forwarded request? -/
def Owner.isForwarded : Owner → Bool
  | .forwarded _ => true
  | .assemblyBump _ | .assemblyLine _ | .bump _ | .own _ => false

/-- Is this the owner of a redirected bump? -/
def Owner.isBump : Owner → Bool
  | .bump _ => true
  | .assemblyBump _ | .assemblyLine _ | .forwarded _ | .own _ => false

/-- Is this the owner of a read of an assembly? -/
def Owner.isAssembly : Owner → Bool
  | .assemblyBump _ | .assemblyLine _ => true
  | .forwarded _ | .bump _ | .own _ => false

/-- FORWARDED_RESPONSE. -/
def execForwardedResponse (id : Nat) (a : Answer) (s : State) : Host.Outcome State Fault Refusal :=
  .next (s.run (State.memAnswer id a Owner.isForwarded (State.memReturned a))).admitWaiting

/-- ASSEMBLY_READ_RETURN. -/
def execAssemblyReadReturn (id : Nat) (a : Answer) (s : State) : Host.Outcome State Fault Refusal :=
  .next (s.run (State.memAnswer id a Owner.isAssembly (State.assemblyReturned a))).admitWaiting

/-- REDIRECTED_BUMP_DONE. -/
def execRedirectedBumpDone (id : Nat) (a : Answer) (s : State) : Host.Outcome State Fault Refusal :=
  .next (s.run (State.memAnswer id a Owner.isBump (State.memReturned a))).admitWaiting

-- ## The part's own writes

/-- The fault of a failed own write, by its owner's rule; a fault-log mirror or notice word write records none (R29,
R69, R70, R80, R100, R159, R166, R168, R178; log 21). -/
def OwnRequest.writeFault (m : MemRequest) : OwnRequest → Option FaultReport
  | .identityWord | .startHead | .startTail =>
    some { reason := .ownWriteFailed, source := 63, sub := 1, addr := m.addr }
  | .entryStatus => some { reason := .ownWriteFailed, source := 63, sub := 2, addr := m.addr - 2 }
  | .headWord => some { reason := .ownWriteFailed, source := 63, sub := 3, addr := m.addr }
  | .finishedLog => some { reason := .ownWriteFailed, source := 63, sub := 4 }
  | .courseMirror c => some { reason := .ownWriteFailed, source := 63, sub := 5, course := c.val }
  | .serviceMirror => some { reason := .ownWriteFailed, source := 63, sub := 6 }
  | .stationMirror st => some { reason := .ownWriteFailed, source := 63, sub := 7, station := st.val }
  | .bumpClear st => some { reason := .ownWriteFailed, source := 63, sub := 8, station := st.val, addr := m.addr }
  | .faultMirror _ | .noticeWord => none
  | .setupRead | .planRead | .entryFetch | .lineFetch | .dishFill => none

/-- Is this one of the part's own writes? -/
def OwnRequest.isWrite : OwnRequest → Bool
  | .setupRead | .planRead | .entryFetch | .lineFetch | .dishFill => false
  | .identityWord | .startHead | .startTail | .entryStatus | .headWord | .finishedLog | .courseMirror _
  | .serviceMirror | .stationMirror _ | .bumpClear _ | .faultMirror _ | .noticeWord => true

/-- Is this the owner of an own write? -/
def Owner.isOwnWrite : Owner → Bool
  | .own o => o.isWrite
  | .forwarded _ | .assemblyBump _ | .assemblyLine _ | .bump _ => false

/-- The fault of a failed own write is recorded by its owner (R134). -/
def State.ownWriteFailed (m : MemRequest) (s : State) : State :=
  match m.owner with
  | .own o =>
    match o.writeFault m with
    | some f => s.recordFault f
    | none => s
  | .forwarded _ | .assemblyBump _ | .assemblyLine _ | .bump _ => s

/-- The status and result byte of a FENCE with `n` failed writes (R162). -/
def fenceStatus (n : Nat) : Status × Nat := if n = 0 then (.done, 0) else (.memoryError, min Config.byteMax n)

/-- A waited write of a FENCE is answered; the last one completes it, but not in STOPPED (R162, R175). -/
def State.fenceAnswered (id : Nat) (okay : Bool) (s : State) : State :=
  match s.intake.progress with
  | some (.running notify (.fence waited failed)) =>
    if id ∈ waited then
      let rest := waited.filter (fun w => w != id)
      let n := if okay then failed else failed + 1
      if rest.isEmpty && s.part != .stopped then s.complete notify (fenceStatus n).1 (fenceStatus n).2
      else { s with intake := { s.intake with progress := some (.running notify (.fence rest n)) } }
    else s
  | _ => s

/-- An own write is answered (R134, R162). -/
def State.ownWriteReturned (a : Answer) (m : MemRequest) (_bs : List Byte) (s : State) : State :=
  (if a.isOkay then s else s.ownWriteFailed m).fenceAnswered m.id a.isOkay

/-- OWN_WRITE_DONE. -/
def execOwnWriteDone (id : Nat) (a : Answer) (s : State) : Host.Outcome State Fault Refusal :=
  .next (s.run (State.memAnswer id a Owner.isOwnWrite (State.ownWriteReturned a)))

end Sys2Proof.Machine
end

