-- ==== Sys2Proof/Machine/Dispatch.lean ====
section
/-! DEFINITION. The dispatch of commands: one arm per constructor of Instr. -/

namespace Sys2Proof.Machine

def exec (i : Instr) (s : State) : Host.Outcome State Fault Refusal :=
  match i with
  | .requestArrival r => Sys2Proof.Machine.execRequestArrival r s
  | .forwardedResponse id a => Sys2Proof.Machine.execForwardedResponse id a s
  | .tailWord w => Sys2Proof.Machine.execTailWord w s
  | .noticeMask w => Sys2Proof.Machine.execNoticeMask w s
  | .clearWord w => Sys2Proof.Machine.execClearWord w s
  | .restartWord w => Sys2Proof.Machine.execRestartWord w s
  | .windowRead tag addr len => Sys2Proof.Machine.execWindowRead tag addr len s
  | .assemblyReadReturn id a => Sys2Proof.Machine.execAssemblyReadReturn id a s
  | .bumpWrite tag addr len enables data => Sys2Proof.Machine.execBumpWrite tag addr len enables data s
  | .redirectedBumpDone id a => Sys2Proof.Machine.execRedirectedBumpDone id a s
  | .entryFetchDone id a => Sys2Proof.Machine.execEntryFetchDone id a s
  | .nop notify => Sys2Proof.Machine.execNop notify s
  | .post notify line => Sys2Proof.Machine.execPost notify line s
  | .lineFetchDone id a => Sys2Proof.Machine.execLineFetchDone id a s
  | .dishFillDone id a => Sys2Proof.Machine.execDishFillDone id a s
  | .amendPortions notify line value => Sys2Proof.Machine.execAmendPortions notify line value s
  | .amendSpecial notify line value => Sys2Proof.Machine.execAmendSpecial notify line value s
  | .amendTags notify line value => Sys2Proof.Machine.execAmendTags notify line value s
  | .amendLead notify line value => Sys2Proof.Machine.execAmendLead notify line value s
  | .amendWave notify line value => Sys2Proof.Machine.execAmendWave notify line value s
  | .amendRush notify line value => Sys2Proof.Machine.execAmendRush notify line value s
  | .amendStation notify line value => Sys2Proof.Machine.execAmendStation notify line value s
  | .void notify line => Sys2Proof.Machine.execVoid notify line s
  | .fire notify course countdown => Sys2Proof.Machine.execFire notify course countdown s
  | .hold notify course => Sys2Proof.Machine.execHold notify course s
  | .resume notify course => Sys2Proof.Machine.execResume notify course s
  | .service notify count cycle courses => Sys2Proof.Machine.execService notify count cycle courses s
  | .stationOpen notify station => Sys2Proof.Machine.execStationOpen notify station s
  | .stationClose notify station => Sys2Proof.Machine.execStationClose notify station s
  | .stationPause notify station => Sys2Proof.Machine.execStationPause notify station s
  | .stationUnpause notify station => Sys2Proof.Machine.execStationUnpause notify station s
  | .stationBackup notify station value => Sys2Proof.Machine.execStationBackup notify station value s
  | .stationCapacity notify station value => Sys2Proof.Machine.execStationCapacity notify station value s
  | .releaseStranded notify station value => Sys2Proof.Machine.execReleaseStranded notify station value s
  | .flushAll notify => Sys2Proof.Machine.execFlushAll notify s
  | .flushDish notify target => Sys2Proof.Machine.execFlushDish notify target s
  | .flushStation notify target => Sys2Proof.Machine.execFlushStation notify target s
  | .fence notify => Sys2Proof.Machine.execFence notify s
  | .plan notify addr => Sys2Proof.Machine.execPlan notify addr s
  | .planLineReadDone id a => Sys2Proof.Machine.execPlanLineReadDone id a s
  | .ownWriteDone id a => Sys2Proof.Machine.execOwnWriteDone id a s
  | .trefPeriod => Sys2Proof.Machine.execTrefPeriod s
  | .tick order => Sys2Proof.Machine.execTick order s
  | .ackTimerExpiry station => Sys2Proof.Machine.execAckTimerExpiry station s
  | .rstFall => Sys2Proof.Machine.execRstFall s
  | .rstRise straps => Sys2Proof.Machine.execRstRise straps s
  | .setupReadDone id a => Sys2Proof.Machine.execSetupReadDone id a s

end Sys2Proof.Machine
end

