-- ==== Sys2Proof/Machine/Step.lean ====
section
/-! DEFINITION. One step: the command at the front of the queue is taken and run with the queue's rest; on an empty
queue the part idles (log 1). -/

namespace Sys2Proof.Machine

/-- One step of the machine. -/
def step (s : State) : Host.Outcome State Fault Refusal :=
  match s.pending with
  | [] => .next s
  | c :: rest => exec c { s with pending := rest }

/-- A command put at the front of the queue. -/
def State.push (s : State) (c : Instr) : State := { s with pending := c :: s.pending }

/-- The command that a word spells, put at the front of the queue; no word spells one (Sys2Proof/Decode.lean), so the
state is unchanged. -/
def State.withFetchWord (s : State) (nbits w : Nat) : State :=
  match decodeTableWord nbits w with
  | some c => s.push c
  | none => s

end Sys2Proof.Machine
end

