-- ==== Sys2Proof/Safety.lean ====
section
/-! DEFINITION. What the laws of the part say of a state, and the words in which a statement says what one command has
done. -/

namespace Sys2Proof.Machine

-- ## Laws of the part

/-- DRAM is held in its one canonical form. -/
def State.DramCanonical (s : State) : Prop := Memory.wf s.dram = true

/-- At most four courses are FIRED or HELD (R48). -/
def State.FourLive (s : State) : Prop := s.liveCount ≤ Config.liveCourses

/-- No two valid fault records have the same reason and the same source (R165). -/
def State.FaultsDistinct (s : State) : Prop :=
  ∀ (i j : RecordId) (x y : FaultRecord), s.faults[i] = some x → s.faults[j] = some y →
    x.report.reason = y.report.reason → x.report.source = y.report.source → i = j

/-- Every station's tokens in use are its occupied slots (R79). -/
def State.TokensAreSlots (s : State) : Prop :=
  ∀ st : StationId, (s.stations[st]).tokens = (s.stations[st]).occupied

/-- No two issued and unanswered requests touch one line (R125). -/
def State.OneRequestPerLine (s : State) : Prop := s.port.issued.Pairwise (fun m n => m.lineOf ≠ n.lineOf)

/-- No two requests that are not yet answered have one name, and the port's counter is above every name (log 23). -/
def State.NamesDistinct (s : State) : Prop :=
  ((s.port.issued ++ s.port.waiting).map (fun m => m.id)).Nodup
    ∧ ∀ m ∈ s.port.issued ++ s.port.waiting, m.id < s.port.nextId

/-- The Ticket Table and the Batch Pool are held in their canonical form. -/
def State.TablesRising (s : State) : Prop := Table.wfFrom 0 s.tickets = true ∧ Table.wfFrom 0 s.pool = true

/-- No requester has more than 16 requests in flight (R120). -/
def State.ListsBounded (s : State) : Prop := ∀ tag : Tag, (s.flights[tag]).length ≤ Config.requestsInFlight

/-- The Dish Cache holds at most 64 entries and no dish twice (R35). -/
def State.CacheSound (s : State) : Prop :=
  s.cache.length ≤ Config.dishCacheEntries ∧ (s.cache.map (fun e => e.dish)).Nodup

/-- No two of these ranges share an address. -/
def Disjoint (rs : List Span) : Prop := rs.Pairwise (fun r q => ∀ a, ¬(r.holds a = true ∧ q.holds a = true))

/-- The setup in force passes checks 2 to 10 of R179, and the intake head is a place of its ring (R152); while it is read
there is none, and with none the head is 0. -/
def State.SetupSound (s : State) : Prop :=
  (s.setup = none → s.intake.head = 0)
    ∧ (s.loader = .setupLow ∨ (∃ low, s.loader = .setupHigh low) → s.setup = none)
    ∧ ∀ u, s.setup = some u → s.intake.head < u.ringCount ∧ u.divider ≤ 12 ∧ u.ringCode ≤ 6
      ∧ u.poolBase % 4096 = 0 ∧ 64 ≤ u.lineCount ∧ u.lineCount ≤ 4096 ∧ u.ringBase % 4096 = 0
      ∧ u.badFields = false ∧ u.windowBase % u.windowSize = 0
      ∧ (u.guard0.enabled = true → u.guard0.base ≤ u.guard0.limit)
      ∧ (u.guard1.enabled = true → u.guard1.base ≤ u.guard1.limit)
      ∧ (∀ r ∈ u.spans, r.base + r.size ≤ 2 ^ 40)
      ∧ Disjoint (anchorSpan s.straps :: u.spans)

-- ## After RST and after a restart

/-- Every table is at the value its chapter gives after RST and after a restart (R3, R4, R6, R29, R35, R45, R59, R72,
R129, R152, R165, R169, R183). -/
structure State.TablesReset (s : State) : Prop where
  setup : s.setup = none
  tickets : s.tickets = []
  locks : s.locks = []
  pool : s.pool = []
  logIndex : s.logIndex = 0
  cache : s.cache = []
  courses : ∀ c : CourseId, (s.courses[c]).state = .idle ∧ (s.courses[c]).countdown = 0
    ∧ (s.courses[c]).late = 0 ∧ (s.courses[c]).openCount = 0
  service : s.service.state = .none ∧ s.service.list.courses = [] ∧ s.service.position = 0 ∧ s.service.pending = none
  stations : ∀ st : StationId, (s.stations[st]).state = .closed ∧ (s.stations[st]).plan.capacity = 0
    ∧ (s.stations[st]).plan.backup = none ∧ (s.stations[st]).tokens = 0 ∧ (s.stations[st]).occupied = 0
    ∧ (s.stations[st]).queue = [] ∧ (s.stations[st]).stranded = [] ∧ (s.stations[st]).timer = none
    ∧ (s.stations[st]).retry = 0 ∧ (s.stations[st]).progress = 0
  latched : s.latched = { tail := 0, mask := 1, clear := 0, restart := 0 }
  faults : ∀ i : RecordId, s.faults[i] = none
  overflow : s.overflow = false
  conditions : s.conditions = { notify := false, cleared := false, down := false, stall := false, ended := false }
  intake : s.intake = { head := 0, tail := 0, progress := none }
  attn : s.attn = false
  alerts : ∀ st : StationId, s.alertLevel st = false

-- ## What a command did at the memory port

/-- The requests of the port that are not yet answered. -/
def State.requests (s : State) : List MemRequest := s.port.issued ++ s.port.waiting

/-- A request that the command from `s` to `t` has put into the issue order, with its name. -/
def Entered (s t : State) (m : MemRequest) (id : Nat) : Prop :=
  s.port.nextId ≤ id ∧ { m with id := id } ∈ t.requests

/-- The command from `s` to `t` has put this request into the issue order. -/
def Issues (s t : State) (m : MemRequest) : Prop := ∃ id, Entered s t m id

/-- Every request that the command from `s` to `t` has put into the issue order is the part's own. -/
def OnlyOwnIssued (s t : State) : Prop := ∀ m ∈ t.requests, m ∈ s.requests ∨ s.port.nextId ≤ m.id ∧ m.isOwn = true

/-- The course mirror entry of a course is written with what `t` holds (R69). -/
def WritesCourseMirror (s t : State) (c : CourseId) : Prop :=
  Issues s t (anchorWrite s.straps (.courseMirror c) (offCourse c) (t.courses[c]).mirrorBytes)

/-- The station mirror entry of a station is written with what `t` holds (R100). -/
def WritesStationMirror (s t : State) (st : StationId) : Prop :=
  Issues s t (anchorWrite s.straps (.stationMirror st) (offStation st) (t.stations[st]).mirrorBytes)

/-- The service mirror is written with what `t` holds (R70). -/
def WritesServiceMirror (s t : State) : Prop :=
  Issues s t (anchorWrite s.straps .serviceMirror offService t.service.mirrorBytes)

-- ## What a command did in the fault log

/-- A fault of this reason and source stands in the log, or the log is full and the overflow mark is set (R167). -/
def Recorded (t : State) (reason : FaultReason) (source : Tag) : Prop :=
  (∃ (i : RecordId) (x : FaultRecord), t.faults[i] = some x ∧ x.report.reason = reason ∧ x.report.source = source)
    ∨ (∀ i : RecordId, t.faults[i] ≠ none) ∧ t.overflow = true

/-- No valid record of the log has the reason and the source of a fault. -/
def State.NoRecordOf (s : State) (f : FaultReport) : Prop :=
  ∀ (i : RecordId) (x : FaultRecord), s.faults[i] = some x →
    ¬(x.report.reason = f.reason ∧ x.report.source = f.source)

/-- The log of `t` is that of `s` with the one fault `f`: folded into the record of its reason and source, whose first
report stands; else taken, with this report and repeat count 0, by the lowest free record; else dropped, with the
overflow mark set (R165, R167). -/
def Logs (s t : State) (f : FaultReport) : Prop :=
  (∃ (i : RecordId) (x : FaultRecord), s.faults[i] = some x ∧ x.report.reason = f.reason ∧ x.report.source = f.source
      ∧ t.faults[i] = some { x with count := if x.count < 255 then x.count + 1 else x.count }
      ∧ (∀ j : RecordId, j ≠ i → t.faults[j] = s.faults[j]) ∧ t.overflow = s.overflow)
    ∨ (s.NoRecordOf f ∧ ∃ i : RecordId, s.faults[i] = none ∧ (∀ j : RecordId, j < i → s.faults[j] ≠ none)
      ∧ t.faults[i] = some { report := f, count := 0 }
      ∧ (∀ j : RecordId, j ≠ i → t.faults[j] = s.faults[j]) ∧ t.overflow = s.overflow)
    ∨ (s.NoRecordOf f ∧ (∀ j : RecordId, s.faults[j] ≠ none) ∧ t.faults = s.faults ∧ t.overflow = true)

-- ## Entries of the intake ring

/-- The fetch of the entry at the head is in flight, and the entry that DRAM holds is this command with this NOTIFY
flag (R154, R155). -/
def State.EntryReturns (s : State) (notify : Bool) (c : Command) : Prop :=
  ∃ id m, s.intake.progress = some (.fetching id)
    ∧ s.port.issued.find? (fun x => x.id == id && x.owner.isEntryFetch) = some m
    ∧ m.kind = .read ∧ m.addr = s.headAddr ∧ m.len = 32 ∧ m.discard = false
    ∧ s.headHolds notify c = true

/-- The entry at the head of `s` has completed in `t` with a status and a result byte (R157): the status write, then the
head word write, the new head, no entry in progress but the next one's fetch, and NOTIFY. -/
structure Completes (s t : State) (notify : Bool) (status : Status) (result : Nat) : Prop where
  writes : ∃ i j, i < j
    ∧ Entered s t (ownRequest .entryStatus .write (s.headAddr + 2) 2 (leBytes 1 status.code ++ leBytes 1 result)) i
    ∧ Entered s t (anchorWrite s.straps .headWord offHead (leBytes 4 s.nextHead)) j
  head : t.intake.head = s.nextHead
  tail : t.intake.tail = s.intake.tail
  waits : s.nextHead = s.intake.tail → t.intake.progress = none
  fetches : s.nextHead ≠ s.intake.tail → ∃ i, t.intake.progress = some (.fetching i)
    ∧ Entered s t (ownRequest .entryFetch .read (s.ringBase + s.nextHead * 32) 32 []) i
  notified : t.conditions.notify = (s.conditions.notify || notify)

/-- The entry at the head of `s` is in progress in `t` with this work, and the head stands (R160). -/
def Runs (s t : State) (notify : Bool) (work : Running) : Prop :=
  t.intake = { head := s.intake.head, tail := s.intake.tail, progress := some (.running notify work) }

/-- `t` is `u` but for what a completion and the end of an event change: the port, the intake, NOTIFY, the notice word
last written, the responses of the step and the marks. -/
def CompletedFrom (u t : State) (notify : Bool) : Prop :=
  t = { u with
    port := t.port, intake := t.intake, noticeShown := t.noticeShown, responses := [], marks := Marks.empty
    conditions := { u.conditions with notify := u.conditions.notify || notify } }

/-- The entry at the head completes with this status and this result byte, and beside that `t` is `u`. -/
def EndsWith (s u t : State) (notify : Bool) (status : Status) (result : Nat) : Prop :=
  Completes s t notify status result ∧ CompletedFrom u t notify

/-- `t` is `u` but for the port, the notice word last written and the marks. -/
def ReportedFrom (u t : State) : Prop :=
  t = { u with port := t.port, noticeShown := t.noticeShown, marks := Marks.empty }

/-- The read `id` of the memory port is in flight for an owner, and no restart has its response discarded. -/
def State.ReadInFlight (s : State) (id : Nat) (owns : Owner → Bool) (m : MemRequest) : Prop :=
  s.port.issued.find? (fun x => x.id == id && owns x.owner) = some m ∧ m.kind = .read ∧ m.discard = false

/-- The bytes that DRAM holds where a request reads. -/
def State.bytesAt (s : State) (m : MemRequest) : List Byte := Memory.readBytes s.dram m.addr m.len

/-- A fault of an own read or write does not stop the part (R174). -/
def State.GoesOn (s : State) : Prop := s.stopsOnFatal = false

-- ## Batches

/-- No due queue of any station holds the batch. -/
def State.NotQueued (s : State) (r : Nat) : Prop := ∀ st : StationId, r ∉ (s.stations[st]).queue

/-- Every DUE batch stands in the due queue of its target station (R8). -/
def State.DueQueued (s : State) : Prop :=
  ∀ r b, s.batch? r = some b → b.state = .due → r ∈ (s.stations[b.target]).queue

/-- No station of the part would show a batch now (R77). -/
def State.NothingToShow (s : State) : Prop := ∀ st : StationId, s.showing st = false

-- ## Commits of POST and AMEND

/-- The ticket `k` stands in entry `e` with the batches `bs`, which have taken the lowest records that are free once the
records `old` are returned; the open batch count of its course has changed by the difference (R6, R15, R21). -/
def State.withBatches (u : State) (e : Nat) (k : Ticket) (old : List Nat) (bs : List Batch) : State :=
  { u with
    tickets := Table.put e { k with
      batches := Table.lowestFree bs.length (eraseBatches old u.pool), finished := 0 } u.tickets
    pool := putBatches (eraseBatches old u.pool) ((Table.lowestFree bs.length (eraseBatches old u.pool)).zip bs)
    courses := u.courses.set k.course { (u.courses[k.course]) with
      openCount := (u.courses[k.course]).openCount + bs.length - old.length } }

/-- The commit from `s` to `t` releases at once, of the new batches `bs` that `v` holds, those whose threshold is at or
above the countdown of their course, and leaves the others PLANNED (R16, R22, R50). -/
def ReleasesNew (s v t : State) (c : CourseId) (rs : List Nat) (bs : List Batch) : Prop :=
  t.tickets = v.tickets ∧ (t.courses[c]).openCount = (v.courses[c]).openCount
    ∧ (t.courses[c]).state = (s.courses[c]).state ∧ (t.courses[c]).countdown = (s.courses[c]).countdown
    ∧ ∀ (i r : Nat) (b : Batch), rs[i]? = some r → bs[i]? = some b →
      ((s.courses[c]).countdown ≤ b.threshold → ∃ b', t.batch? r = some b' ∧ b'.state ≠ .planned
          ∧ b'.threshold = b.threshold
          ∧ ((s.courses[c]).countdown + (s.courses[c]).plan.grace < b.threshold → b'.late = true))
      ∧ (b.threshold < (s.courses[c]).countdown → s.NotQueued r → t.batch? r = some b)

/-- The commit of the split `bs` of ticket `k` in entry `e`, in place of the records `old`: NO ROOM when the pool cannot
hold it; all PLANNED while the course is not FIRED, HELD or PASSED or its countdown is above every threshold; else the
due ones are released at once (R6, R15, R16, R21, R22). `u` is `s` with what the lookup has changed. -/
def CommitsBatches (s u t : State) (notify : Bool) (e : Nat) (k : Ticket) (old : List Nat) (bs : List Batch) : Prop :=
  ((s.courses[k.course]).state = .idle ∨ (s.courses[k.course]).state = .staged
      ∨ (s.courses[k.course]).state = .cleared ∨ (∀ b ∈ bs, b.threshold < (s.courses[k.course]).countdown) →
    EndsWith s (u.withBatches e k old bs) t notify .done 0)
  ∧ ((s.courses[k.course]).state = .fired ∨ (s.courses[k.course]).state = .held
      ∨ (s.courses[k.course]).state = .passed → s.TablesRising →
    Completes s t notify .done 0 ∧ t.cache = u.cache ∧ t.locks = u.locks ∧ t.service = s.service
      ∧ ReleasesNew s (u.withBatches e k old bs) t k.course
          (Table.lowestFree bs.length (eraseBatches old s.pool)) bs)

/-- The commit of a POST of ticket `k` with the dish record `d` (R15, R16): BAD LINE, NO ROOM and BAD STATE release the
lock. `u` is `s` with what the lookup has changed. -/
def CommitsPost (s u t : State) (notify : Bool) (k : Ticket) (d : DishRecord) : Prop :=
  (splitTicket k d (s.passMark k) s.freeEntryNumber = none →
    EndsWith s { u with locks := s.locks.filter (fun l => l != k.line) } t notify .badLine 0)
  ∧ ∀ bs, splitTicket k d (s.passMark k) s.freeEntryNumber = some bs →
    (4096 < s.pool.length + bs.length →
      EndsWith s { u with locks := s.locks.filter (fun l => l != k.line) } t notify .noRoom 0)
    ∧ (s.pool.length + bs.length ≤ 4096 →
        (s.courses[k.course]).state = .idle ∨ (s.courses[k.course]).state = .cleared →
      EndsWith s { u with locks := s.locks.filter (fun l => l != k.line) } t notify .badState 0)
    ∧ (s.pool.length + bs.length ≤ 4096 →
        (s.courses[k.course]).state ≠ .idle → (s.courses[k.course]).state ≠ .cleared →
      CommitsBatches s u t notify s.freeEntryNumber k [] bs)

/-- The commit of a re-splitting AMEND of entry `e`, which holds ticket `k`, to the amended ticket `kk` with the dish
record `d` (R20 to R22). `u` is `s` with what the lookup has changed. -/
def CommitsAmend (s u t : State) (notify : Bool) (e : Nat) (k kk : Ticket) (d : DishRecord) : Prop :=
  ((∃ r ∈ k.batches, ∃ b, s.batch? r = some b ∧ b.state ≠ .planned) → EndsWith s u t notify .tooLate 0)
  ∧ ((∀ r ∈ k.batches, ∃ b, s.batch? r = some b ∧ b.state = .planned) →
    (splitTicket kk d (s.passMark kk) e = none → EndsWith s u t notify .badField 0)
    ∧ ∀ bs, splitTicket kk d (s.passMark kk) e = some bs →
      (4096 + k.batches.length < s.pool.length + bs.length → EndsWith s u t notify .noRoom 0)
      ∧ (s.pool.length + bs.length ≤ 4096 + k.batches.length →
        CommitsBatches s u t notify e kk k.batches bs))

-- ## Shows at a receiving station

/-- In `t` the batch `r`, which was `b` before, is DUE in the queue of station `x` or SHOWN in a slot of it, with `x` as
its target (R76 to R79). -/
def QueuedOrShown (t : State) (x : StationId) (r : Nat) (b : Batch) : Prop :=
  ∃ b', t.batch? r = some b' ∧ b'.target = x ∧ b'.threshold = b.threshold ∧ b'.portions = b.portions
    ∧ (b'.state = .due ∧ r ∈ (t.stations[x]).queue
        ∨ ∃ j, b'.state = .shown j ∧ (t.stations[x]).slots[j] = some r)

/-- The OPEN station `x` has shown what it can in `t`; of the batches `rs` that joined its priority part, which was
empty in `s`, the first stands in the lowest empty slot that it had, when it had one and a free token (R74, R77 to
R79). -/
def ShowsFirst (s t : State) (x : StationId) (rs : List Nat) : Prop :=
  t.showing x = false
    ∧ ∀ (r : Nat) (k : SlotId), (s.stations[x]).prio = [] → rs.head? = some r →
      (s.stations[x]).tokens < (s.stations[x]).plan.capacity →
      (s.stations[x]).slots[k] = none → (∀ j : SlotId, j < k → (s.stations[x]).slots[j] ≠ none) →
      (t.stations[x]).slots[k] = some r

-- ## Rows of the table

/-- The row of an AMEND of a field. -/
def amendRow (f : AmendField) (notify : Bool) (line value : BitVec 16) : Instr :=
  match f with
  | .portions => .amendPortions notify line value
  | .special => .amendSpecial notify line value
  | .tags => .amendTags notify line value
  | .lead => .amendLead notify line value
  | .wave => .amendWave notify line value
  | .rush => .amendRush notify line value
  | .station => .amendStation notify line value

/-- The AMENDs that split the ticket again (R20). -/
def AmendField.resplits : AmendField → Bool
  | .portions | .special | .tags | .lead | .wave => true
  | .rush | .station => false

/-- The row of a STATION action; the value is read by the actions that have one. -/
def stationRow (a : StationAction) (notify : Bool) (station value : Byte) : Instr :=
  match a with
  | .opening => .stationOpen notify station
  | .close => .stationClose notify station
  | .pause => .stationPause notify station
  | .unpause => .stationUnpause notify station
  | .backup => .stationBackup notify station value
  | .capacity => .stationCapacity notify station value
  | .releaseStranded => .releaseStranded notify station value

/-- The command of the row of a STATION action. -/
def stationEntry (a : StationAction) (station value : Byte) : Command :=
  .station a station.toNat (if a.readsValue then value.toNat else 0)

end Sys2Proof.Machine
end

