-- ==== Sys2Proof/Certificates/Slice0/Obligations.lean ====
section
/-! DEFINITION. The statements for the provers. -/

open Sys2Proof Sys2Proof.Machine

-- ## The machine

/-- Taking the command at the front of the queue is running it on the queue's rest; an empty queue idles (log 1). -/
def Obligations.StepRunsTheFrontCommand : Prop :=
  ∀ s : State,
    (∀ c rest, s.pending = c :: rest → step s = exec c { s with pending := rest })
      ∧ (s.pending = [] → step s = .next s)

/-- Every command is answered with a next state and leaves the queue of waiting commands as it is. Both are the
model's choice: the queue is log 1's, and an event without its cause is answered without an effect by log 2. -/
def Obligations.CommandsKeepTheQueue : Prop :=
  ∀ (c : Instr) (s : State), ∃ t, exec c s = .next t ∧ t.pending = s.pending

/-- Right after reset every table is at the value its chapter gives, every list of requests in flight is empty, the
part is in START, its first setup read is to come, and the laws of the part hold (R120, R177, R178, R183). -/
def Obligations.ResetLeavesTablesResetAndLawful : Prop :=
  (State.reset.TablesReset ∧ State.reset.part = .start ∧ State.reset.loader = .setupLow
    ∧ (∀ tag : Tag, State.reset.flights[tag] = [])
    ∧ (∀ m ∈ startUpRequests State.reset.straps, ∃ id, { m with id := id } ∈ State.reset.requests))
  ∧ (State.reset.DramCanonical ∧ State.reset.TablesRising ∧ State.reset.FourLive ∧ State.reset.FaultsDistinct
    ∧ State.reset.TokensAreSlots ∧ State.reset.OneRequestPerLine ∧ State.reset.NamesDistinct
    ∧ State.reset.ListsBounded ∧ State.reset.CacheSound ∧ State.reset.SetupSound)

/-- RST_FALL abandons all work in flight; RST_RISE captures the straps and begins start-up (R137, R176, R184). What
the spec leaves open is the model's choice: that the tables hold the values of after RST while RST is low (log 11),
that the requests left over are known until they are answered (log 12), and that requests that wait at the front port
are dropped (log 14). -/
def Obligations.RstFallAndRise : Prop :=
  (∀ s : State, s.rstLow = false → ∃ t, exec .rstFall s = .next t ∧ t.rstLow = true ∧ t.TablesReset
    ∧ (∀ tag : Tag, t.flights[tag] = []) ∧ t.portWaiting = [] ∧ t.assemblies = [] ∧ t.responses = []
    ∧ t.requests = [] ∧ t.port.orphans = s.port.orphans ++ s.port.issued ∧ t.dram = s.dram ∧ t.straps = s.straps)
  ∧ (∀ (straps : BitVec 8) (s : State), s.rstLow = true → ∃ t, exec (.rstRise straps) s = .next t
    ∧ t.rstLow = false ∧ t.straps = straps ∧ t.part = .start ∧ t.loader = .setupLow ∧ t.TablesReset
    ∧ (∀ m ∈ startUpRequests straps, Issues s t m) ∧ t.dram = s.dram ∧ t.flights = s.flights)

/-- A restart word write with a nonzero enabled byte restarts the part in every state but START: the write itself is
forwarded, every own request of before that is left has its response discarded, the tables are reset, the lists of
requests in flight stand (log 13), and start-up begins with the straps it has (R129, R136, R183). -/
def Obligations.RestartWordRestarts : Prop :=
  ∀ (w : WordWrite) (s : State), s.rstLow = false → s.part ≠ .start → s.hasRoom 0 = true →
    (∃ i < 4, w.enable.getLsbD i = true ∧ w.data.extractLsb' (8 * i) 8 ≠ 0#8) →
    ∃ t, exec (.restartWord w) s = .next t ∧ t.part = .start ∧ t.loader = .setupLow ∧ t.TablesReset
      ∧ t.straps = s.straps ∧ t.dram = s.dram ∧ t.assemblies = s.assemblies
      ∧ t.flights[(0 : Tag)] = s.flights[(0 : Tag)]
          ++ [{ id := s.arrivals, req := wordRequest (s.anchor + offRestart) w, response := none }]
      ∧ (∀ tag : Tag, tag ≠ 0 → t.flights[tag] = s.flights[tag])
      ∧ Issues s t (forwardOf s.arrivals (wordRequest (s.anchor + offRestart) w))
      ∧ (∀ m ∈ startUpRequests s.straps, Issues s t m)
      ∧ (∀ m ∈ t.requests, m.isOwn = true → m.id < s.port.nextId → m.discard = true)

-- ## Classification

/-- A request that is not well formed and a request with tag 63 are refused in every part state; in START every anchor
write is refused and all else is forwarded; in TRANSPARENT all outside the anchor block is forwarded. In IDLE, READY
and STOPPED the region table outside the window decides, for the order processor and for the others, and in
TRANSPARENT for the anchor regions. The regions have the bounds of R121: the anchor regions always, the others while a
setup is in force, each address in exactly one (R118, R121 to R123, R128, R131, R132). -/
def Obligations.RegionTable : Prop :=
  (∀ (s : State) (r : Request),
    (r.inOneLine = false → s.classify r = .refused .malformed)
      ∧ (r.inOneLine = true → r.tag = 63 → s.classify r = .refused .ownTag)
      ∧ (r.inOneLine = true → r.tag ≠ 63 → s.regionOf r.addr.toNat ≠ s.regionOf (r.addr.toNat + r.len - 1) →
          s.classify r = .refused .twoRegions)
      ∧ (r.inOneLine = true → r.tag ≠ 63 → s.regionOf r.addr.toNat = s.regionOf (r.addr.toNat + r.len - 1) →
          s.part = .start →
          s.classify r = if r.kind = .write ∧ (s.regionOf r.addr.toNat).isAnchor = true then .refused .anchorAtStart
            else .forwarded)
      ∧ (r.inOneLine = true → r.tag ≠ 63 → s.regionOf r.addr.toNat = s.regionOf (r.addr.toNat + r.len - 1) →
          s.part = .transparent → (s.regionOf r.addr.toNat).isAnchor = false → s.classify r = .forwarded))
  ∧ (∀ (s : State) (r : Request) (g : Region),
    (s.part = .idle ∨ s.part = .ready ∨ s.part = .stopped ∨ s.part = .transparent) →
    r.inOneLine = true → r.tag ≠ 63 → s.regionOf r.addr.toNat = g → s.regionOf (r.addr.toNat + r.len - 1) = g →
    g ≠ .window →
    (r.kind = .read → s.classify r = .forwarded)
      ∧ (r.kind = .write → g = .plain → s.classify r = .forwarded)
      ∧ (r.kind = .write → g = .partOwned → s.classify r = .refused .partOwned)
      ∧ (r.kind = .write → r.tag = 0 →
          g = .setupArea ∨ g = .finishedLog ∨ g = .ring ∨ g = .guard0 ∨ g = .guard1 → s.classify r = .forwarded)
      ∧ (r.kind = .write → r.tag = 0 → g = .watchedWords → s.classify r = .latched)
      ∧ (r.kind = .write → r.tag = 0 → g = .pool →
          s.classify r = if s.poolLine r.addr.toNat ∈ s.locks then .refused .lineLocked else .forwarded)
      ∧ (r.kind = .write → r.tag ≠ 0 → g = .setupArea → s.classify r = .refused .setupArea)
      ∧ (r.kind = .write → r.tag ≠ 0 → g = .watchedWords → s.classify r = .refused .watchedWord)
      ∧ (r.kind = .write → r.tag ≠ 0 → g = .finishedLog → s.classify r = .refused .partOwned)
      ∧ (r.kind = .write → r.tag ≠ 0 → g = .pool → s.classify r = .refused .pool)
      ∧ (r.kind = .write → r.tag ≠ 0 → g = .ring → s.classify r = .refused .intakeRing)
      ∧ (r.kind = .write → r.tag ≠ 0 → g = .guard0 → s.classify r = .refused .guard0)
      ∧ (r.kind = .write → r.tag ≠ 0 → g = .guard1 → s.classify r = .refused .guard1))
  ∧ (∀ (s : State) (a base : Nat), base = s.straps.toNat * 2 ^ 24 →
    (base ≤ a → a < base + 0x2000 →
      s.regionOf a = if a < base + 0x80 then .setupArea else if a < base + 0xA0 then .watchedWords
        else if base + 0x500 ≤ a ∧ a < base + 0x900 then .finishedLog else .partOwned)
    ∧ (a < base ∨ base + 0x2000 ≤ a →
      (s.part = .start ∨ s.part = .transparent ∨ s.setup = none → s.regionOf a = .plain)
      ∧ ∀ (u : Setup) (pool ring window guard0 guard1 : Prop), s.setup = some u → s.SetupSound →
        (s.part = .idle ∨ s.part = .ready ∨ s.part = .stopped) →
        (pool ↔ u.poolBase ≤ a ∧ a < u.poolBase + u.lineCount * 64) →
        (ring ↔ u.ringBase ≤ a ∧ a < u.ringBase + 2 ^ (u.ringCode + 4) * 32) →
        (window ↔ u.windowBase ≤ a ∧ a < u.windowBase + 2 ^ max (u.ps + 4) (u.pt + 5)) →
        (guard0 ↔ u.guard0.enabled = true ∧ u.guard0.base * 2 ^ 16 ≤ a ∧ a < (u.guard0.limit + 1) * 2 ^ 16) →
        (guard1 ↔ u.guard1.enabled = true ∧ u.guard1.base * 2 ^ 16 ≤ a ∧ a < (u.guard1.limit + 1) * 2 ^ 16) →
        (s.regionOf a = .pool ↔ pool) ∧ (s.regionOf a = .ring ↔ ring) ∧ (s.regionOf a = .window ↔ window)
          ∧ (s.regionOf a = .guard0 ↔ guard0) ∧ (s.regionOf a = .guard1 ↔ guard1)
          ∧ (s.regionOf a = .plain ↔ ¬pool ∧ ¬ring ∧ ¬window ∧ ¬guard0 ∧ ¬guard1)))

/-- The window, judged in the order other agent, order processor write, address, other station, STOPPED. A window
address made of a slot, a station and a byte decodes to them, and every window address that names a line is made so,
for every setup whose fields pass R138 (R122, R133, R138, R139). -/
def Obligations.WindowOrderAndDecoding : Prop :=
  (∀ (s : State) (u : Setup) (r : Request), s.setup = some u →
    s.regionOf r.addr.toNat = .window → s.regionOf (r.addr.toNat + r.len - 1) = .window →
    r.inOneLine = true → r.tag ≠ 63 →
    (32 < r.tag.val → s.classify r = .refused .windowAgent)
      ∧ (r.tag = 0 → r.kind = .write → s.classify r = .refused .windowWrite)
      ∧ (r.tag.val ≤ 32 → ¬(r.tag = 0 ∧ r.kind = .write) → u.badWindowAddress r.addr.toNat = true →
          s.classify r = .refused .badWindowAddress)
      ∧ (r.tag.val ≤ 32 → r.tag ≠ 0 → u.badWindowAddress r.addr.toNat = false →
          r.tag ≠ linkTag (u.windowPlace r.addr.toNat).station → s.classify r = .refused .otherStation)
      ∧ (r.tag = linkTag (u.windowPlace r.addr.toNat).station → u.badWindowAddress r.addr.toNat = false →
          r.kind = .write → s.part = .stopped → s.classify r = .refused .stoppedBump)
      ∧ (u.badWindowAddress r.addr.toNat = false →
          (r.tag = 0 ∧ r.kind = .read) ∨ (r.tag = linkTag (u.windowPlace r.addr.toNat).station
            ∧ (r.kind = .read ∨ s.part ≠ .stopped)) →
          s.classify r = .translated (u.windowPlace r.addr.toNat)))
  ∧ (∀ (u : Setup), u.badFields = false →
    (∀ (st : StationId) (k : SlotId) (j : Nat), j < 64 →
        u.windowPlace (u.windowBase + k.val * 2 ^ u.ps + st.val * 2 ^ u.pt + j)
            = { station := st, slot := k, first := j }
          ∧ u.badWindowAddress (u.windowBase + k.val * 2 ^ u.ps + st.val * 2 ^ u.pt + j) = false)
      ∧ (∀ a, u.windowBase ≤ a → u.badWindowAddress a = false →
          a = u.windowBase + (u.windowPlace a).slot.val * 2 ^ u.ps + (u.windowPlace a).station.val * 2 ^ u.pt
            + (u.windowPlace a).first))

-- ## The memory path

/-- A refused request: no request of an agent reaches the memory port, ACCESS REFUSED is logged with the requester's
tag, the sub-code, the address, and the station and pool line where the sub-code names one; the answer is REFUSED with
zero data in the requester's order, and no table changes (R120, R127). -/
def Obligations.RefusedRequestIsAnswered : Prop :=
  ([AccessCode.malformed, .ownTag, .twoRegions, .anchorAtStart, .setupArea, .watchedWord, .partOwned, .lineLocked, .pool,
      .intakeRing, .guard0, .guard1, .windowWrite, .windowAgent, .otherStation, .badWindowAddress,
      .stoppedBump].map AccessCode.code = [1, 2, 3, 4, 5, 6, 7, 8, 9, 10, 11, 12, 13, 14, 15, 16, 18])
  ∧ (∀ (s : State) (r : Request) (c : AccessCode), s.rstLow = false → s.hasRoom r.tag = true →
    s.classify r = .refused c →
    ∃ t f, exec (.requestArrival r) s = .next t ∧ OnlyOwnIssued s t
      ∧ Logs s t f ∧ f.reason = .accessRefused ∧ f.source = r.tag ∧ f.sub = c.code ∧ f.addr = r.addr.toNat
      ∧ f.course = 0
      ∧ f.line = (if c = .lineLocked ∨ c = .pool then (r.addr.toNat - s.poolBase) / 64 else 0)
      ∧ (∀ u, s.setup = some u → c = .otherStation ∨ c = .badWindowAddress ∨ c = .stoppedBump →
          f.station = (r.addr.toNat - u.windowBase) / 2 ^ u.pt % 32)
      ∧ (c ≠ .otherStation → c ≠ .badWindowAddress → c ≠ .stoppedBump → f.station = 0)
      ∧ (s.flights[r.tag] = [] →
          t.responses = [(r.tag, { status := .refused, data := if r.kind = .read then zeros r.len else [] })]
            ∧ t.flights = s.flights)
      ∧ (∀ g rest, s.flights[r.tag] = g :: rest → g.response = none → (∀ h ∈ g :: rest, h.id ≠ s.arrivals) →
          t.responses = [] ∧ t.flights[r.tag] = s.flights[r.tag]
            ++ [{ id := s.arrivals, req := r, response :=
                  some { status := .refused, data := if r.kind = .read then zeros r.len else [] } }])
      ∧ t = { s with
          port := t.port, noticeShown := t.noticeShown, marks := Marks.empty, faults := t.faults
          overflow := t.overflow, flights := t.flights, responses := t.responses, arrivals := s.arrivals + 1 })

/-- A forwarded request enters the issue order with its fields unchanged and its requester's tag, joins its
requester's list, and takes nothing from the tables. While 16 requests of its requester are in flight, a request of
any row has not arrived: it waits at the front port, which is log 14's place for it, and nothing else changes (R120,
R124). -/
def Obligations.ForwardedRequestIsUnchanged : Prop :=
  (∀ (s : State) (r : Request), s.rstLow = false → s.hasRoom r.tag = true → s.classify r = .forwarded →
    ∃ t m, exec (.requestArrival r) s = .next t ∧ Issues s t m
      ∧ m.tag = r.tag ∧ m.kind = r.kind ∧ m.addr = r.addr.toNat ∧ m.len = r.len ∧ m.enables = r.enables
      ∧ m.data = r.data
      ∧ t.flights[r.tag] = s.flights[r.tag] ++ [{ id := s.arrivals, req := r, response := none }]
      ∧ (∀ tag : Tag, tag ≠ r.tag → t.flights[tag] = s.flights[tag])
      ∧ ReportedFrom { s with flights := t.flights, arrivals := s.arrivals + 1, responses := [] } t)
  ∧ (∀ (s : State) (r : Request) (c : Instr), s.rstLow = false → 16 ≤ (s.flights[r.tag]).length →
    c = .requestArrival r ∨ (∃ tag addr len, c = .windowRead tag addr len ∧ r = readRequest tag addr len)
      ∨ (∃ tag addr len en data, c = .bumpWrite tag addr len en data ∧ r = writeRequest tag addr len en data)
      ∨ (∃ w, (c = .tailWord w ∧ r = wordRequest (s.anchor + 0x80) w)
        ∨ (c = .noticeMask w ∧ r = wordRequest (s.anchor + 0x84) w)
        ∨ (c = .clearWord w ∧ r = wordRequest (s.anchor + 0x88) w)
        ∨ (c = .restartWord w ∧ r = wordRequest (s.anchor + 0x8C) w)) →
    ∃ t, exec c s = .next t
      ∧ ReportedFrom { s with portWaiting := s.portWaiting ++ [r], responses := [] } t)

/-- The answer to a forwarded request or to a redirected bump is OKAY with the data DRAM holds, or MEMFAIL with zero
data. When the request is first in its requester's list its response is returned, and with it every response behind it
up to the first request that is not complete; otherwise nothing is returned and the request keeps its response in its
place. A request that waits at the front port arrives in the same command once its requester's list has room, behind
the others, and waits on while the list is full (log 14) (R120, R124, R126, R149). -/
def Obligations.AnswersReturnInOrder : Prop :=
  (∀ (s : State) (id f : Nat) (m : MemRequest) (a : Answer) (c : Instr) (owns : Owner → Bool) (req : Request)
    (before rest : List Flight) (resp : Response),
    (c = .forwardedResponse id a ∧ owns = Owner.isForwarded ∧ m.owner = .forwarded f)
      ∨ (c = .redirectedBumpDone id a ∧ owns = Owner.isBump ∧ m.owner = .bump f) →
    s.port.issued.find? (fun x => x.id == id && owns x.owner) = some m → m.discard = false → s.portWaiting = [] →
    s.flights[m.tag] = before ++ { id := f, req := req, response := none } :: rest →
    (∀ g ∈ before ++ rest, g.id ≠ f) →
    resp = (match a with
      | .okay => { status := .okay, data := if m.kind = .read then s.bytesAt m else [] }
      | .error _ => { status := .memfail, data := if m.kind = .read then zeros m.len else [] }) →
    ∃ t, exec c s = .next t
      ∧ (before = [] →
          t.responses = (resp :: (rest.takeWhile (fun g => g.response.isSome)).filterMap (fun g => g.response)).map
              (fun x => (m.tag, x))
            ∧ t.flights[m.tag] = rest.dropWhile (fun g => g.response.isSome))
      ∧ (∀ g, before.head? = some g → g.response = none →
          t.responses = []
            ∧ t.flights[m.tag] = before ++ { id := f, req := req, response := some resp } :: rest)
      ∧ (∀ tag : Tag, tag ≠ m.tag → t.flights[tag] = s.flights[tag])
      ∧ t.dram = serve m a s.dram ∧ t.faults = s.faults ∧ t.stations = s.stations ∧ t.pool = s.pool
      ∧ t.tickets = s.tickets)
  ∧ (∀ (s : State) (id f : Nat) (m : MemRequest) (a : Answer) (c : Instr) (owns : Owner → Bool) (req w : Request)
    (before rest : List Flight),
    (c = .forwardedResponse id a ∧ owns = Owner.isForwarded ∧ m.owner = .forwarded f)
      ∨ (c = .redirectedBumpDone id a ∧ owns = Owner.isBump ∧ m.owner = .bump f) →
    s.port.issued.find? (fun x => x.id == id && owns x.owner) = some m → m.discard = false →
    s.portWaiting = [w] → w.tag = m.tag → s.classify w = .forwarded → (s.flights[m.tag]).length = 16 →
    s.flights[m.tag] = before ++ { id := f, req := req, response := none } :: rest →
    (∀ g ∈ before ++ rest, g.id ≠ f) →
    ∃ t, exec c s = .next t
      ∧ (before = [] → t.portWaiting = [] ∧ Issues s t (forwardOf s.arrivals w)
          ∧ t.flights[m.tag] = rest.dropWhile (fun g => g.response.isSome)
              ++ [{ id := s.arrivals, req := w, response := none }])
      ∧ (∀ g, before.head? = some g → g.response = none →
          t.portWaiting = [w] ∧ (t.flights[m.tag]).length = 16 ∧ t.arrivals = s.arrivals))

-- ## Watched words

/-- The tail word: a value at or above the entry count, or equal to the head while an entry is in progress, is ignored
and logs BAD TAIL with sub-code 1 or 2 and the tail word's address; any other becomes the tail, and starts the fetch
of the entry at the head when the part takes entries; in TRANSPARENT every value is held (R153, R154, R166). -/
def Obligations.TailWordIsJudged : Prop :=
  ∀ (s : State) (w : WordWrite), s.rstLow = false → s.hasRoom 0 = true → s.part ≠ .start →
    ∃ t v, exec (.tailWord w) s = .next t ∧ v = t.latched.tail.toNat
      ∧ (∀ i < 32, t.latched.tail.getLsbD i =
          if w.enable.getLsbD (i / 8) = true then w.data.getLsbD i else s.latched.tail.getLsbD i)
      ∧ Issues s t (forwardOf s.arrivals (wordRequest (s.anchor + offTail) w))
      ∧ (s.part = .transparent → t.intake = { s.intake with tail := v })
      ∧ (s.part ≠ .transparent → s.ringCount ≤ v → t.intake = s.intake
          ∧ Logs s t { reason := .badTail, source := 0, sub := 1, addr := s.anchor + 0x80 })
      ∧ (s.part ≠ .transparent → v < s.ringCount → v = s.intake.head → s.intake.progress.isSome →
          t.intake = s.intake ∧ Logs s t { reason := .badTail, source := 0, sub := 2, addr := s.anchor + 0x80 })
      ∧ (s.part ≠ .transparent → v < s.ringCount → ¬(v = s.intake.head ∧ s.intake.progress.isSome) →
          t.intake.tail = v ∧ t.intake.head = s.intake.head ∧ t.faults = s.faults
            ∧ (s.takesEntries = false ∨ s.intake.progress.isSome ∨ s.intake.head = v →
                t.intake.progress = s.intake.progress)
            ∧ (s.takesEntries = true → s.intake.progress = none → s.intake.head ≠ v →
                ∃ i, t.intake.progress = some (.fetching i)
                  ∧ Entered s t (ownRequest .entryFetch .read s.headAddr 32 []) i))

/-- The notice mask: the enabled bytes replace those of the latched word, ATTN follows the conditions that hold under
the new mask, and the notice word is written when the shown conditions change (R129, R170, R171). -/
def Obligations.NoticeMaskSelectsShown : Prop :=
  ∀ (s : State) (w : WordWrite), s.rstLow = false → s.hasRoom 0 = true → s.part ≠ .start →
    ∃ t, exec (.noticeMask w) s = .next t
      ∧ (∀ i < 32, t.latched.mask.getLsbD i =
          if w.enable.getLsbD (i / 8) = true then w.data.getLsbD i else s.latched.mask.getLsbD i)
      ∧ t.holding = s.holding ∧ t.attn = (s.holding &&& t.mask != 0) ∧ t.noticeShown = t.shown
      ∧ (t.shown ≠ s.noticeShown → Issues s t (anchorWrite s.straps .noticeWord offNotice (noticeBytes t.shown)))
      ∧ t.faults = s.faults ∧ t.conditions = s.conditions ∧ t.intake = s.intake ∧ t.stations = s.stations

/-- The clear word frees the records named by byte 1, clears the overflow mark by bit 0 of byte 2 and the latched
conditions by byte 0, each on the bytes that the write carries (R172). -/
def Obligations.ClearWordClears : Prop :=
  ∀ (s : State) (w : WordWrite) (bit : Nat → Bool), s.rstLow = false → s.hasRoom 0 = true → s.part ≠ .start →
    (∀ i, bit i = (w.enable.getLsbD (i / 8) && w.data.getLsbD i)) →
    ∃ t, exec (.clearWord w) s = .next t
      ∧ (∀ i : RecordId, t.faults[i] = if bit (8 + i.val) = true then none else s.faults[i])
      ∧ t.overflow = (s.overflow && !bit 16)
      ∧ t.conditions =
          { notify := s.conditions.notify && !bit 2, cleared := s.conditions.cleared && !bit 3
            down := s.conditions.down && !bit 4, stall := s.conditions.stall && !bit 5
            ended := s.conditions.ended && !bit 6 }
      ∧ (∀ i : RecordId, bit (8 + i.val) = true → s.faults[i] ≠ none →
          Issues s t (anchorWrite s.straps (.faultMirror i) (offFault i) (zeros 32)))
      ∧ t.intake = s.intake ∧ t.stations = s.stations ∧ t.tickets = s.tickets ∧ t.dram = s.dram

/-- A fault folds into the valid record of its reason and source, else takes the lowest free record with repeat count
0, else is dropped and sets the overflow mark. With stop-on-fatal, OWN READ FAILED and OWN WRITE FAILED put the part
in STOPPED from IDLE and READY; without it, and for every other reason, the part state stands (R167, R174). -/
def Obligations.FaultLogAndStop : Prop :=
  (∀ (s : State) (f : FaultReport),
    (∀ (i : RecordId) (x : FaultRecord), s.FaultsDistinct → s.faults[i] = some x → x.report.reason = f.reason →
      x.report.source = f.source →
      (s.recordFault f).faults[i] = some { x with count := if x.count < 255 then x.count + 1 else x.count }
        ∧ ∀ j : RecordId, j ≠ i → (s.recordFault f).faults[j] = s.faults[j])
    ∧ (∀ (i : RecordId), (∀ (j : RecordId) (x : FaultRecord), s.faults[j] = some x →
        ¬(x.report.reason = f.reason ∧ x.report.source = f.source)) →
      s.faults[i] = none → (∀ j : RecordId, j < i → s.faults[j] ≠ none) →
      (s.recordFault f).faults[i] = some { report := f, count := 0 }
        ∧ ∀ j : RecordId, j ≠ i → (s.recordFault f).faults[j] = s.faults[j])
    ∧ ((∀ j : RecordId, ∃ x, s.faults[j] = some x
        ∧ ¬(x.report.reason = f.reason ∧ x.report.source = f.source)) →
      (s.recordFault f).faults = s.faults ∧ (s.recordFault f).overflow = true))
  ∧ (∀ (s : State) (f : FaultReport),
    ((f.reason = .ownReadFailed ∨ f.reason = .ownWriteFailed) → s.stopsOnFatal = true →
        s.part = .idle ∨ s.part = .ready → (s.recordFault f).part = .stopped)
    ∧ ((f.reason ≠ .ownReadFailed ∧ f.reason ≠ .ownWriteFailed) ∨ s.stopsOnFatal = false
        ∨ (s.part ≠ .idle ∧ s.part ≠ .ready) → (s.recordFault f).part = s.part)
    ∧ Recorded (s.recordFault f) f.reason f.source
    ∧ (s.recordFault f).conditions = s.conditions
    ∧ (s.rstLow = false → s.latched.mask = 1#32 → (s.recordFault f).attn = true)
    ∧ (∀ (m : MemRequest) (o : OwnRequest), m.owner = .own o → (∃ i, o = .faultMirror i) ∨ o = .noticeWord →
        s.ownWriteFailed m = s))

-- ## The station window

/-- The read of a SHOWN batch by its station's own link acknowledges it: the batch is COOKING in its slot, the retry
count of an OPEN or PAUSED station is 0, the timer is reloaded while other batches are unread and stopped otherwise,
and a tick that meets the read finds it reloaded or stopped and expires nothing (the mark of such a tick is log 16's;
that it holds of a timer which stands at 0 is log 26's); at a DOWN station the read also counts toward the return, and
at the return count the station is OPEN. The view's memory reads carry the link's tag. The read of any occupied slot
opens an assembly record with the synthesized bytes captured, the addresses of the reads that it needs and their
number; a read of bytes 56 to 63 alone opens none and is answered at once without a memory read. The read of an empty
slot is answered at once, without a memory access, with zeros but for the EMPTY flag; it and the read of a COOKING
batch acknowledge nothing and count at a DOWN station; a read by the order processor changes nothing at the Station
Table (R101, R102, R104, R112 to R114, R144 to R146). -/
def Obligations.WindowReadsAcknowledge : Prop :=
  (∀ (s : State) (tag : Tag) (addr : Address) (len : Nat) (p : WindowPlace) (r : Nat) (b : Batch) (k : Ticket)
    (x : Station) (timer : Option Nat) (mark : TickMark),
    s.rstLow = false → s.hasRoom tag = true → s.classify (readRequest tag addr len) = .translated p →
    tag = linkTag p.station → s.slotBatch p.station p.slot = some (r, b) → b.state = .shown p.slot →
    s.ticketOf? b = some k → x = s.stations[p.station] → (∀ j : SlotId, j ≠ p.slot → x.slots[j] ≠ some r) →
    timer = (if (List.finRange 16).any (fun j => decide (j ≠ p.slot) && s.slotUnread p.station j)
      then some x.plan.timeout else none) →
    mark = (match timer, x.tick with
      | some _, .owed => .owedSpared
      | some _, .clear => if 0 < s.ticksDue ∧ (x.timer = some 0 ∨ x.timer = some 1) then .spared else .clear
      | _, m => m) →
    ∃ t, exec (.windowRead tag addr len) s = .next t
      ∧ ((x.state = .opened ∨ x.state = .paused) →
          t.batch? r = some { b with state := .cooking p.slot }
            ∧ t.stations[p.station] = { x with retry := 0, timer := timer, tick := mark } ∧ t.courses = s.courses)
      ∧ (x.state = .down → x.progress + 1 < x.plan.returnCount →
          t.batch? r = some { b with state := .cooking p.slot }
            ∧ t.stations[p.station] = { x with progress := x.progress + 1, timer := timer, tick := mark }
            ∧ t.courses = s.courses)
      ∧ (x.state = .down → x.plan.returnCount ≤ x.progress + 1 →
          (t.stations[p.station]).state = .opened ∧ (t.stations[p.station]).retry = 0
            ∧ (t.stations[p.station]).progress = 0 ∧ t.showing p.station = false
            ∧ (s.NotQueued r → t.batch? r = some { b with state := .cooking p.slot }))
      ∧ (∀ st : StationId, st ≠ p.station → t.stations[st] = s.stations[st])
      ∧ (∀ a, s.bumpReadAddr p len = some a →
          Issues s t (assemblyRead tag (.assemblyBump s.arrivals) a (touchedPart p.first len 0 8).2))
      ∧ (∀ a, s.lineReadAddr p k.line len = some a →
          Issues s t (assemblyRead tag (.assemblyLine s.arrivals) a (touchedPart p.first len 8 56).2))
      ∧ t.tickets = s.tickets ∧ t.dram = s.dram)
  ∧ (∀ (s : State) (tag : Tag) (addr : Address) (len : Nat) (p : WindowPlace) (x : Station),
    s.rstLow = false → s.hasRoom tag = true → s.classify (readRequest tag addr len) = .translated p →
    x = s.stations[p.station] →
    ∃ t, exec (.windowRead tag addr len) s = .next t
      ∧ (s.SetupSound → s.slotBatch p.station p.slot = none → s.flights[tag] = [] →
          t.responses = [(tag,
              { status := .okay, data := (List.range len).map (fun i => if p.first + i = 59 then 0x20#8 else 0#8) })]
            ∧ OnlyOwnIssued s t ∧ t.assemblies = s.assemblies)
      ∧ (s.slotUnread p.station p.slot = false → tag = linkTag p.station →
          (x.state ≠ .down → t.stations = s.stations ∧ t.pool = s.pool)
            ∧ (x.state = .down → x.progress + 1 < x.plan.returnCount →
                t.stations = s.stations.set p.station { x with progress := x.progress + 1 } ∧ t.pool = s.pool)
            ∧ (x.state = .down → x.plan.returnCount ≤ x.progress + 1 →
                (t.stations[p.station]).state = .opened ∧ (t.stations[p.station]).retry = 0
                  ∧ (t.stations[p.station]).progress = 0 ∧ t.showing p.station = false))
      ∧ (tag = 0 → t.stations = s.stations ∧ t.pool = s.pool ∧ t.courses = s.courses ∧ t.tickets = s.tickets))
  ∧ (∀ (s : State) (tag : Tag) (addr : Address) (len : Nat) (p : WindowPlace) (u : Setup) (r : Nat) (b : Batch)
      (k : Ticket),
    s.rstLow = false → s.hasRoom tag = true → s.classify (readRequest tag addr len) = .translated p →
    s.setup = some u → s.slotBatch p.station p.slot = some (r, b) → s.ticketOf? b = some k →
    ∃ t, exec (.windowRead tag addr len) s = .next t
      ∧ (p.first < 56 → t.assemblies = s.assemblies
          ++ [{ flight := s.arrivals, tag := tag, first := p.first, len := len, synth := s.synthBytes k b
                bumpAddr := if p.first < 8
                  then some (s.anchor + (0x1000 + p.station.val * 128 + p.slot.val * 8) + p.first) else none
                lineAddr := if 8 < p.first + len
                  then some (u.poolBase + k.line * 64 + max p.first 8) else none
                outstanding := (if p.first < 8 then 1 else 0) + (if 8 < p.first + len then 1 else 0)
                error := false, bumpBytes := [], lineBytes := [] }])
      ∧ (56 ≤ p.first → t.assemblies = s.assemblies ∧ OnlyOwnIssued s t
          ∧ (s.flights[tag] = [] →
              t.responses = [(tag, { status := .okay, data := ((s.synthBytes k b).drop (p.first - 56)).take len })])))

/-- The last memory read of an assembly forms its response: OKAY with the bytes read from the bump entry, then those
read from the ticket line, then the synthesized bytes that the read touches; MEMFAIL with zero data when any read came
with an error. The response is returned in its requester's order. An earlier read only lowers the outstanding count,
keeps its bytes and sets the error mark on an error. Other assemblies stand (R120, R140, R144). -/
def Obligations.AssemblyFormsItsResponse : Prop :=
  ∀ (s : State) (id : Nat) (m : MemRequest) (a : Answer) (x : Assembly) (req : Request) (before rest : List Flight)
    (bump line : List Byte) (resp : Response),
    s.port.issued.find? (fun y => y.id == id && y.owner.isAssembly) = some m → m.discard = false → m.kind = .read →
    m.owner = .assemblyBump x.flight ∨ m.owner = .assemblyLine x.flight →
    x ∈ s.assemblies → (∀ z ∈ s.assemblies, z.flight = x.flight → z = x) → s.portWaiting = [] →
    s.flights[x.tag] = before ++ { id := x.flight, req := req, response := none } :: rest →
    (∀ g ∈ before ++ rest, g.id ≠ x.flight) →
    bump = (if m.owner = .assemblyBump x.flight then s.bytesAt m else x.bumpBytes) →
    line = (if m.owner = .assemblyLine x.flight then s.bytesAt m else x.lineBytes) →
    resp = (if x.error = true ∨ a ≠ .okay then { status := .memfail, data := zeros x.len }
      else { status := .okay, data := bump ++ line
        ++ (x.synth.drop (max x.first 56 - 56)).take (min (x.first + x.len) 64 - max x.first 56) }) →
    ∃ t, exec (.assemblyReadReturn id a) s = .next t
      ∧ t.dram = s.dram ∧ t.faults = s.faults ∧ t.pool = s.pool ∧ t.stations = s.stations
      ∧ (x.outstanding = 1 → t.assemblies = s.assemblies.filter (fun z => z.flight != x.flight)
        ∧ (before = [] →
            t.responses = (resp :: (rest.takeWhile (fun g => g.response.isSome)).filterMap (fun g => g.response)).map
                (fun y => (x.tag, y))
              ∧ t.flights[x.tag] = rest.dropWhile (fun g => g.response.isSome))
        ∧ (∀ g, before.head? = some g → g.response = none →
            t.responses = []
              ∧ t.flights[x.tag] = before ++ { id := x.flight, req := req, response := some resp } :: rest))
      ∧ (x.outstanding = 2 → t.responses = [] ∧ t.flights = s.flights
        ∧ t.assemblies = s.assemblies.map (fun z => if z.flight = x.flight then
            { x with outstanding := 1, error := x.error || decide (a ≠ .okay), bumpBytes := bump, lineBytes := line }
          else z))

/-- A taken bump is redirected as one write to the slot's bump entry, with its length, enables, data and tag
unchanged. A code 0 changes no batch; a DONE takes the batch out of its slot with its token and finishes it, as VOID
when it carries VOIDED: the finished count rises and the open batch count falls; the last finish of a ticket writes
its finished-log entry and frees its entry, its records and its lock; the last finish of a PASSED course clears it
(R27 to R29, R58, R65, R83, R84, R149). -/
def Obligations.DoneBumpFinishes : Prop :=
  ∀ (s : State) (tag : Tag) (addr : Address) (len : Nat) (en : List Bool) (data : List Byte) (p : WindowPlace)
    (r : Nat) (b : Batch),
    s.rstLow = false → s.hasRoom tag = true → s.classify (writeRequest tag addr len en data) = .translated p →
    p.first = 0 → len ≤ 8 → s.slotBatch p.station p.slot = some (r, b) →
    (byteAt data 0 = 0 → ∃ t, exec (.bumpWrite tag addr len en data) s = .next t
        ∧ Issues s t (s.redirected s.arrivals (writeRequest tag addr len en data) p)
        ∧ t.pool = s.pool ∧ t.stations = s.stations ∧ t.tickets = s.tickets ∧ t.courses = s.courses)
    ∧ (∀ (k : Ticket) (x : Station) (c : Course), byteAt data 0 = 1 → s.ticketOf? b = some k → s.NotQueued r →
        x = s.stations[p.station] → c = s.courses[k.course] →
        (∀ st : StationId, ∀ j : SlotId, (s.stations[st]).slots[j] = some r → st = p.station ∧ j = p.slot) →
        ∃ t, exec (.bumpWrite tag addr len en data) s = .next t
          ∧ Issues s t (s.redirected s.arrivals (writeRequest tag addr len en data) p)
          ∧ (t.stations[p.station]).slots[p.slot] ≠ some r
          ∧ (x.queue = [] → c.state ≠ .passed →
              (t.stations[p.station]).slots = x.slots.set p.slot none ∧ (t.stations[p.station]).tokens = x.tokens - 1)
          ∧ (∀ b', t.batch? r = some b' → b'.state = if b.voided = true then .void else .done)
          ∧ (b.state = .shown p.slot → x.state = .opened ∨ x.state = .paused → (t.stations[p.station]).retry = 0)
          ∧ (t.courses[k.course]).openCount = c.openCount - 1
          ∧ (k.finished + 1 ≠ k.batches.length →
              Table.get? b.owner t.tickets = some { k with finished := k.finished + 1 }
                ∧ t.batch? r = some { b with state := if b.voided = true then .void else .done }
                ∧ t.locks = s.locks ∧ t.logIndex = s.logIndex)
          ∧ (k.finished + 1 = k.batches.length → r ∈ k.batches →
              Table.get? b.owner t.tickets = none ∧ (∀ q ∈ k.batches, t.batch? q = none)
                ∧ t.locks = s.locks.filter (fun l => l != k.line) ∧ t.logIndex = (s.logIndex + 1) % 128
                ∧ (b.voided = false → (∀ q ∈ k.batches, q ≠ r → ∃ o, s.batch? q = some o ∧ o.state = .done) →
                    Issues s t (anchorWrite s.straps .finishedLog (offFinished s.logIndex) (finishedBytes k .allDone)))
                ∧ (b.voided = true → (∀ q ∈ k.batches, q ≠ r → ∃ o, s.batch? q = some o ∧ o.state = .void) →
                    Issues s t (anchorWrite s.straps .finishedLog (offFinished s.logIndex) (finishedBytes k .allVoid)))
                ∧ ((∃ q ∈ k.batches, q ≠ r ∧ ∃ o, s.batch? q = some o
                      ∧ o.state ≠ (if b.voided = true then .void else .done)) →
                    Issues s t (anchorWrite s.straps .finishedLog (offFinished s.logIndex) (finishedBytes k .partVoid))))
          ∧ (c.state = .passed → c.openCount = 1 →
              t.conditions.cleared = true
                ∧ (s.service.state ≠ .stalled ∨ s.service.calling? ≠ some k.course →
                    (t.courses[k.course]).state = .cleared ∧ t.service = s.service)
                ∧ (s.service.state = .stalled → s.service.calling? = some k.course → c.plan.autoFire = false →
                    (t.courses[k.course]).state = .staged ∧ t.service = { s.service with state := .running }))
          ∧ (c.state ≠ .passed ∨ c.openCount ≠ 1 → c.openCount ≠ 0 →
              (t.courses[k.course]).state = c.state ∧ t.service = s.service))

/-- A REJECT bump gives the batch back: it leaves its slot with its token; a VOIDED batch finishes as VOID; any other
goes to the usable backup with MOVED, else to the stranded set with fault STRANDED (R27, R85, R87, R166). -/
def Obligations.RejectBumpGivesBack : Prop :=
  ∀ (s : State) (tag : Tag) (addr : Address) (len : Nat) (en : List Bool) (data : List Byte) (p : WindowPlace)
    (r : Nat) (b : Batch) (x : Station),
    s.rstLow = false → s.hasRoom tag = true → s.classify (writeRequest tag addr len en data) = .translated p →
    p.first = 0 → len ≤ 8 → s.slotBatch p.station p.slot = some (r, b) → byteAt data 0 = 2 →
    s.NotQueued r → x = s.stations[p.station] →
    ∃ t, exec (.bumpWrite tag addr len en data) s = .next t
      ∧ Issues s t (s.redirected s.arrivals (writeRequest tag addr len en data) p)
      ∧ (t.stations[p.station]).retry = x.retry ∧ (t.stations[p.station]).slots[p.slot] ≠ some r
      ∧ (b.voided = false → x.queue = [] →
          (t.stations[p.station]).slots = x.slots.set p.slot none ∧ (t.stations[p.station]).tokens = x.tokens - 1)
      ∧ (b.voided = false → ∀ backup, s.usableBackup p.station = some backup → QueuedOrShown t backup r b
          ∧ ∃ b', t.batch? r = some b' ∧ b'.moved = true)
      ∧ (b.voided = false → s.usableBackup p.station = none →
          t.batch? r = some { b with state := .stranded, target := p.station }
          ∧ (t.stations[p.station]).stranded = x.stranded ++ [r]
          ∧ (∀ k, s.ticketOf? b = some k → Logs s t { reason := .stranded, source := linkTag p.station, sub := 2
                                                      station := p.station.val, course := k.course.val
                                                      line := k.line }))
      ∧ (b.voided = true → ∀ k, s.ticketOf? b = some k →
          (∀ b', t.batch? r = some b' → b'.state = .void)
          ∧ (t.courses[k.course]).openCount = (s.courses[k.course]).openCount - 1
          ∧ (k.finished + 1 ≠ k.batches.length →
              t.batch? r = some { b with state := .void }
                ∧ Table.get? b.owner t.tickets = some { k with finished := k.finished + 1 })
          ∧ (k.finished + 1 = k.batches.length → Table.get? b.owner t.tickets = none)
          ∧ (x.queue = [] → (s.courses[k.course]).state ≠ .passed →
              (t.stations[p.station]).slots = x.slots.set p.slot none
                ∧ (t.stations[p.station]).tokens = x.tokens - 1))

/-- The refusals of a bump, in order: its form (NOT A BUMP), the empty slot (EMPTY SLOT BUMP), the code (BAD BUMP,
with the code as sub-code and the ticket's course and line). A refused bump is not redirected, is answered REFUSED, is
logged with the station and the address, and changes no batch and no station (R83, R127, R147, R148). -/
def Obligations.BumpRefusals : Prop :=
  ∀ (s : State) (tag : Tag) (addr : Address) (len : Nat) (en : List Bool) (data : List Byte) (p : WindowPlace)
    (f : FaultReport),
    s.rstLow = false → s.hasRoom tag = true → s.classify (writeRequest tag addr len en data) = .translated p →
    ((p.first ≠ 0 ∨ 8 < len) ∧ f = { reason := .accessRefused, source := tag, sub := 19, station := p.station.val
                                     addr := addr.toNat })
      ∨ (p.first = 0 ∧ len ≤ 8 ∧ s.slotBatch p.station p.slot = none
          ∧ f = { reason := .accessRefused, source := tag, sub := 17, station := p.station.val, addr := addr.toNat })
      ∨ (p.first = 0 ∧ len ≤ 8 ∧ 2 < byteAt data 0 ∧ ∃ r b, s.slotBatch p.station p.slot = some (r, b)
          ∧ f = { reason := .badBump, source := tag, sub := byteAt data 0, station := p.station.val
                  course := ((s.ticketOf? b).map (fun k => k.course.val)).getD 0
                  line := ((s.ticketOf? b).map (fun k => k.line)).getD 0, addr := addr.toNat }) →
    ∃ t, exec (.bumpWrite tag addr len en data) s = .next t ∧ OnlyOwnIssued s t ∧ Logs s t f
      ∧ (s.flights[tag] = [] → t.responses = [(tag, { status := .refused, data := [] })])
      ∧ t.pool = s.pool ∧ t.stations = s.stations ∧ t.courses = s.courses ∧ t.tickets = s.tickets

/-- The bytes that the part forms. The synthesized bytes of a view: host id, batch number with the last mark, flags,
portions and time-to-pass, which is the countdown less the pass mark and never below 0. The mirror entries of a
course, a station and the service, a fault-log mirror entry and a finished-log entry: each field at its place with its
code, little end first, every reserved byte 0, and each entry at its place in the anchor block (R29, R69, R70, R100,
R142, R143, R168, R185, R186). -/
def Obligations.SynthesizedBytes : Prop :=
  (∀ (s : State) (k : Ticket) (b : Batch), b.number < 32 →
    (s.synthBytes k b).length = 8
      ∧ leNat (s.synthBytes k b) 0 2 = k.hostId.toNat
      ∧ byteAt (s.synthBytes k b) 2 = b.number + (if b.number + 1 = k.batches.length then 128 else 0)
      ∧ byteAt (s.synthBytes k b) 3 = (if b.late then 1 else 0) + (if b.kind = .special then 2 else 0)
          + (if b.voided then 4 else 0) + (if b.moved then 8 else 0) + (if b.rush then 16 else 0)
      ∧ (b.portions < 65536 → leNat (s.synthBytes k b) 4 2 = b.portions)
      ∧ ((s.courses[k.course]).countdown < 65536 →
          leNat (s.synthBytes k b) 6 2 = (s.courses[k.course]).countdown - (s.courses[k.course]).plan.marks[k.wave]))
  ∧ (∀ c : Course, c.mirrorBytes.length = 16
      ∧ byteAt c.mirrorBytes 0 = (match c.state with
          | .idle => 0 | .staged => 1 | .fired => 2 | .held => 3 | .passed => 4 | .cleared => 5)
      ∧ (c.countdown < 65536 → leNat c.mirrorBytes 2 2 = c.countdown)
      ∧ (c.late < 65536 → leNat c.mirrorBytes 4 2 = c.late)
      ∧ (c.openCount < 65536 → leNat c.mirrorBytes 6 2 = c.openCount)
      ∧ (∀ i, i = 1 ∨ 8 ≤ i → byteAt c.mirrorBytes i = 0))
  ∧ (∀ x : Station, x.mirrorBytes.length = 16
      ∧ byteAt x.mirrorBytes 0 = (match x.state with | .closed => 0 | .opened => 1 | .paused => 2 | .down => 3)
      ∧ (x.tokens < 256 → byteAt x.mirrorBytes 1 = x.tokens)
      ∧ (x.queue.length < 65536 → leNat x.mirrorBytes 2 2 = x.queue.length)
      ∧ (x.stranded.length < 65536 → leNat x.mirrorBytes 4 2 = x.stranded.length)
      ∧ (x.retry < 256 → byteAt x.mirrorBytes 6 = x.retry)
      ∧ (∀ i, 7 ≤ i → byteAt x.mirrorBytes i = 0))
  ∧ (∀ v : Service, v.mirrorBytes.length = 16
      ∧ byteAt v.mirrorBytes 0 = (match v.state with | .none => 0 | .running => 1 | .stalled => 2 | .ended => 3)
      ∧ (v.position < 256 → byteAt v.mirrorBytes 1 = v.position)
      ∧ byteAt v.mirrorBytes 2 = (if v.pending = none then 0 else 1)
      ∧ (∀ i, 3 ≤ i → byteAt v.mirrorBytes i = 0))
  ∧ ((∀ i, byteAt (faultBytes none) i = 0) ∧ (faultBytes none).length = 32
      ∧ ∀ x : FaultRecord, (faultBytes (some x)).length = 32
        ∧ byteAt (faultBytes (some x)) 0 = 1
        ∧ byteAt (faultBytes (some x)) 1 = (match x.report.reason with
            | .accessRefused => 1 | .badTail => 2 | .ownReadFailed => 3 | .ownWriteFailed => 4 | .stationDown => 5
            | .noBackup => 6 | .stranded => 7 | .badBump => 8 | .liveLimit => 9 | .setupInvalid => 10
            | .planInvalid => 11)
        ∧ byteAt (faultBytes (some x)) 2 = x.report.source.val
        ∧ (x.report.sub < 256 → byteAt (faultBytes (some x)) 3 = x.report.sub)
        ∧ (x.report.station < 256 → byteAt (faultBytes (some x)) 4 = x.report.station)
        ∧ (x.report.course < 256 → byteAt (faultBytes (some x)) 5 = x.report.course)
        ∧ (x.report.line < 65536 → leNat (faultBytes (some x)) 6 2 = x.report.line)
        ∧ (x.report.addr < 2 ^ 40 → leNat (faultBytes (some x)) 8 5 = x.report.addr)
        ∧ (x.count < 256 → byteAt (faultBytes (some x)) 13 = x.count)
        ∧ (∀ i, 14 ≤ i → byteAt (faultBytes (some x)) i = 0))
  ∧ (∀ (k : Ticket) (o : TicketOutcome), (finishedBytes k o).length = 8
      ∧ leNat (finishedBytes k o) 0 2 = k.hostId.toNat
      ∧ (k.line < 65536 → leNat (finishedBytes k o) 2 2 = k.line)
      ∧ byteAt (finishedBytes k o) 4 = k.course.val
      ∧ byteAt (finishedBytes k o) 5 = (match o with | .allDone => 1 | .partVoid => 2 | .allVoid => 3)
      ∧ (∀ i, 6 ≤ i → byteAt (finishedBytes k o) i = 0))
  ∧ (offService = 0xB0 ∧ (∀ i, offFault i = 0x100 + i.val * 32) ∧ (∀ c, offCourse c = 0x200 + c.val * 16)
      ∧ (∀ st, offStation st = 0x300 + st.val * 16) ∧ (∀ j, offFinished j = 0x500 + j * 8)
      ∧ (∀ st k, offBump st k = 0x1000 + st.val * 128 + k.val * 8))

-- ## Stations and queues

/-- The entry rule: OPEN and PAUSED take the batch into their own queue; CLOSED passes it to a usable backup, else
strands it; DOWN passes it to a usable backup, else keeps it; each join is followed by the check of the station
joined. The priority part stands before the ordinary part, each in the order of joining, and a check of the showing
condition goes on until the condition fails. One show takes the head of the queue into the lowest empty slot with a
token, as SHOWN; it starts the timer when no batch was unread, so that the next tick is taken from its load on (the
tick marks are log 16's), judges the batch for lateness, which counts once in its course, and clears the slot's bump
entry (R74 to R81, R103). -/
def Obligations.EntryRuleAndShowing : Prop :=
  (∀ (s : State) (r : Nat) (st : StationId) (b : Batch), s.batch? r = some b →
    ((s.stations[st]).state = .opened ∨ (s.stations[st]).state = .paused
        ∨ ((s.stations[st]).state = .down ∧ s.usableBackup st = none) →
      s.enterStation r st = (s.updStation st (Station.join r (b.rush || b.moved))).checkShow st)
    ∧ (∀ backup, (s.stations[st]).state = .closed ∨ (s.stations[st]).state = .down → s.usableBackup st = some backup →
      s.enterStation r st =
        ((s.updBatch r (fun x => { x with state := .due, moved := true, target := backup })).updStation backup
          (Station.join r true)).checkShow backup)
    ∧ ((s.stations[st]).state = .closed → s.usableBackup st = none →
      ((s.enterStation r st).stations[st]).stranded = (s.stations[st]).stranded ++ [r]
        ∧ (s.enterStation r st).batch? r = some { b with state := .stranded, target := st }
        ∧ (∀ k, s.ticketOf? b = some k → Logs s (s.enterStation r st)
            { reason := .stranded, source := linkTag st, sub := 1, station := st.val, course := k.course.val
              line := k.line })))
  ∧ ((∀ (x : Station) (r : Nat),
      (x.join r true).queue = x.prio ++ [r] ++ x.ordinary ∧ (x.join r false).queue = x.queue ++ [r])
    ∧ (∀ (s : State) (st : StationId), s.showing st = true ↔
        s.part ≠ .stopped ∧ (s.stations[st]).state = .opened ∧ (s.stations[st]).queue ≠ []
          ∧ (s.stations[st]).tokens < (s.stations[st]).plan.capacity
          ∧ ∃ k : SlotId, (s.stations[st]).slots[k] = none)
    ∧ (∀ (s : State) (st : StationId), (s.checkShow st).showing st = false))
  ∧ (∀ (s : State) (st : StationId) (r : Nat) (k : SlotId) (b : Batch) (w : Ticket) (x : Station) (c : Course)
      (lateNow : Bool),
    x = s.stations[st] → s.batch? r = some b → s.ticketOf? b = some w → c = s.courses[w.course] →
    (lateNow = true ↔ c.countdown + c.plan.grace < b.threshold ∨ c.countdown ≤ c.plan.marks[w.wave]) →
    x.queue.head? = some r → x.slots[k] = none → (∀ j : SlotId, j < k → x.slots[j] ≠ none) →
    ∃ t, t = s.showHead st
      ∧ t.stations = s.stations.set st { x with
          prio := x.prio.filter (fun q => q != r), ordinary := x.ordinary.filter (fun q => q != r)
          slots := x.slots.set k (some r), tokens := x.tokens + 1
          timer := if s.hasUnread st then x.timer else some x.plan.timeout
          tick := if s.hasUnread st then x.tick else match x.tick with
            | .spared => .clear | .owedSpared => .owed | m => m }
      ∧ t.batch? r = some { b with state := .shown k, late := b.late || lateNow }
      ∧ (∀ q, q ≠ r → t.batch? q = s.batch? q)
      ∧ t.courses = s.courses.set w.course
          { c with late := if lateNow = true ∧ b.late = false then min 65535 (c.late + 1) else c.late }
      ∧ t.port = s.port.enqueue (anchorWrite s.straps (.bumpClear st) (0x1000 + st.val * 128 + k.val * 8) (zeros 8))
      ∧ t.tickets = s.tickets ∧ t.faults = s.faults ∧ t.part = s.part
      ∧ (s.showing st = true → s.checkShow st = t.checkShow st))

-- ## The intake ring

/-- The return of the entry fetch: an error ends the entry with MEMORY ERROR and fault OWN READ FAILED; an unknown
command code ends it with BAD COMMAND; in IDLE the codes 01 to 09 end it with BAD STATE; in STOPPED no entry is taken.
A NOP completes with DONE and changes nothing else (R155, R156, R159, R164, R166, R175). -/
def Obligations.EntryFetchIsJudged : Prop :=
  (∀ (s : State) (id : Nat) (m : MemRequest) (a : Answer),
    s.intake.progress = some (.fetching id) → s.ReadInFlight id Owner.isEntryFetch m →
    (a ≠ .okay → s.takesEntries = true → s.GoesOn → ∃ t, exec (.entryFetchDone id a) s = .next t
        ∧ Completes s t false .memoryError 0
        ∧ Logs s t { reason := .ownReadFailed, source := 63, sub := 3, addr := m.addr }
        ∧ t.tickets = s.tickets ∧ t.courses = s.courses ∧ t.stations = s.stations ∧ t.dram = s.dram)
    ∧ (a = .okay → s.takesEntries = true → 0x0B < byteAt (s.bytesAt m) 0 →
        ∃ t, exec (.entryFetchDone id a) s = .next t
          ∧ EndsWith s s t (byteAt (s.bytesAt m) 1 % 2 == 1) .badCommand 0)
    ∧ (a = .okay → s.part = .idle → 1 ≤ byteAt (s.bytesAt m) 0 → byteAt (s.bytesAt m) 0 ≤ 9 →
        ∃ t, exec (.entryFetchDone id a) s = .next t
          ∧ EndsWith s s t (byteAt (s.bytesAt m) 1 % 2 == 1) .badState 0)
    ∧ (s.part = .stopped → ∃ t, exec (.entryFetchDone id a) s = .next t ∧ t.intake = s.intake
        ∧ t.tickets = s.tickets ∧ t.courses = s.courses ∧ t.stations = s.stations ∧ t.dram = s.dram))
  ∧ (∀ (s : State) (n : Bool), s.takesEntries = true → s.EntryReturns n .nop →
    ∃ t, exec (.nop n) s = .next t ∧ EndsWith s s t n .done 0)

/-- A FENCE completes at once while no own write is unanswered; else it waits for those that are, each answer is
counted, and the last one completes it, with MEMORY ERROR and the number that failed when any did (R162). -/
def Obligations.FenceWaitsForOwnWrites : Prop :=
  (∀ (s : State) (n : Bool), s.takesEntries = true → s.EntryReturns n .fence →
    (s.port.ownWrites = [] → ∃ t, exec (.fence n) s = .next t ∧ EndsWith s s t n .done 0)
    ∧ (s.NamesDistinct → s.port.ownWrites ≠ [] → ∃ t, exec (.fence n) s = .next t
        ∧ Runs s t n (.fence s.port.ownWrites 0)))
  ∧ (∀ (s : State) (n : Bool) (w : Nat) (ws : List Nat) (failed : Nat) (m : MemRequest) (a : Answer),
    s.takesEntries = true → s.GoesOn → s.intake.progress = some (.running n (.fence (w :: ws) failed)) → w ∉ ws →
    s.port.issued.find? (fun x => x.id == w && x.owner.isOwnWrite) = some m → m.discard = false →
    (ws = [] → (a = .okay ∧ failed = 0) → ∃ t, exec (.ownWriteDone w a) s = .next t ∧ Completes s t n .done 0)
    ∧ (ws = [] → a = .okay → failed ≠ 0 → ∃ t, exec (.ownWriteDone w a) s = .next t
        ∧ Completes s t n .memoryError (min 255 failed))
    ∧ (ws = [] → a ≠ .okay → ∃ t, exec (.ownWriteDone w a) s = .next t
        ∧ Completes s t n .memoryError (min 255 (failed + 1)))
    ∧ (ws ≠ [] → ∃ t, exec (.ownWriteDone w a) s = .next t
        ∧ Runs s t n (.fence ws (if a = .okay then failed else failed + 1))))

-- ## Tickets

/-- A POST is taken: BAD FIELD for a line past the line count, DUPLICATE for a locked line, NO ROOM for a full table;
else the lock is taken and the line is fetched (R4, R13). -/
def Obligations.PostIsTaken : Prop :=
  ∀ (s : State) (n : Bool) (line : BitVec 16), s.part = .ready → s.EntryReturns n (.post line.toNat) →
    (s.lineCount ≤ line.toNat → ∃ t, exec (.post n line) s = .next t ∧ EndsWith s s t n .badField 0)
    ∧ (line.toNat < s.lineCount → line.toNat ∈ s.locks → ∃ t, exec (.post n line) s = .next t
        ∧ EndsWith s s t n .duplicate 0)
    ∧ (line.toNat < s.lineCount → line.toNat ∉ s.locks → 1024 ≤ s.tickets.length →
        ∃ t, exec (.post n line) s = .next t ∧ EndsWith s s t n .noRoom 0)
    ∧ (line.toNat < s.lineCount → line.toNat ∉ s.locks → s.tickets.length < 1024 →
        ∃ t, exec (.post n line) s = .next t ∧ Runs s t n (.postLine line.toNat)
          ∧ Issues s t (ownRequest .lineFetch .read (s.poolBase + line.toNat * 64) 64 [])
          ∧ t = { s with
              port := t.port, noticeShown := t.noticeShown, responses := [], marks := Marks.empty
              intake := t.intake, locks := s.locks ++ [line.toNat] })

/-- The line of a POST is checked: MEMORY ERROR for a failed fetch, whose record names the line and, as the model
reads R166, no address (log 21), BAD LINE and BAD DISH by the line's fields, each releasing the lock; a line that
passes goes on to the dish lookup, which commits on a hit and fills on a miss (R1, R2, R4, R14 to R16, R36, R37,
R166). -/
def Obligations.PostLineIsChecked : Prop :=
  ∀ (s : State) (n : Bool) (line id : Nat) (m : MemRequest) (bs : List Byte) (bad : Prop) (dish : Nat),
    s.part = .ready → s.intake.progress = some (.running n (.postLine line)) →
    s.ReadInFlight id Owner.isLineFetch m → bs = s.bytesAt m → dish = leNat bs 4 2 →
    (bad ↔ 15 < byteAt bs 2 ∨ (s.courses[Fin.ofNat 16 (byteAt bs 2)]).plan.waves ≤ byteAt bs 3 % 4
      ∨ leNat bs 6 2 = 0 ∨ 4000 < leNat bs 6 2 ∨ leNat bs 6 2 < leNat bs 8 2
      ∨ (0 < leNat bs 8 2 ∧ leNat bs 10 2 = 0) ∨ 4095 < leNat bs 12 2) →
    (∀ a, a ≠ .okay → s.GoesOn → ∃ t, exec (.lineFetchDone id a) s = .next t
        ∧ Completes s t n .memoryError 0 ∧ Logs s t { reason := .ownReadFailed, source := 63, sub := 4, line := line }
        ∧ t.locks = s.locks.filter (fun l => l != line) ∧ t.tickets = s.tickets ∧ t.pool = s.pool)
    ∧ (bad → ∃ t, exec (.lineFetchDone id .okay) s = .next t
        ∧ EndsWith s { s with locks := s.locks.filter (fun l => l != line) } t n .badLine 0)
    ∧ (¬bad → 1023 < dish ∨ s.plan.dishCount ≤ dish → ∃ t, exec (.lineFetchDone id .okay) s = .next t
        ∧ EndsWith s { s with locks := s.locks.filter (fun l => l != line) } t n .badDish 0)
    ∧ (¬bad → dish ≤ 1023 → dish < s.plan.dishCount → (∀ e ∈ s.cache, e.dish ≠ dish) →
        ∃ t, exec (.lineFetchDone id .okay) s = .next t ∧ Runs s t n (.postDish line (parseTicketLine bs))
          ∧ Issues s t (ownRequest .dishFill .read (s.plan.dishBase + dish * 32) 32 [])
          ∧ t.locks = s.locks ∧ t.tickets = s.tickets ∧ t.pool = s.pool ∧ t.cache = s.cache)
    ∧ (¬bad → dish ≤ 1023 → dish < s.plan.dishCount → ∀ d, cached? dish s.cache = some d →
        ∃ t, exec (.lineFetchDone id .okay) s = .next t
          ∧ CommitsPost s
              { s with cache := { dish := dish, record := d } :: s.cache.filter (fun e => e.dish != dish) } t n
              ((parseTicketLine bs).toTicket line) d)

/-- The dish fill of a POST: MEMORY ERROR with fault OWN READ FAILED, or BAD DISH with the number of the first of the
nine checks of a dish record that fails, each releasing the lock and inserting nothing; a valid record is inserted,
and the commit follows: BAD LINE, NO ROOM and BAD STATE release the lock; else the lowest free entry and the lowest
free records are taken, the course's open batch count rises, and the batches that are due are released at once (R6,
R15, R16, R32, R38, R39, R166). -/
def Obligations.DishFillCommitsThePost : Prop :=
  (∀ (s : State) (n : Bool) (line id : Nat) (l : TicketLine) (m : MemRequest) (k : Ticket) (d : DishRecord),
    s.part = .ready → s.intake.progress = some (.running n (.postDish line l)) →
    s.ReadInFlight id Owner.isDishFill m → k = l.toTicket line → d = parseDish (s.bytesAt m) →
    (∀ a, a ≠ .okay → s.GoesOn → ∃ t, exec (.dishFillDone id a) s = .next t
        ∧ Completes s t n .memoryError 0
        ∧ Logs s t { reason := .ownReadFailed, source := 63, sub := 5, course := l.course, line := line
                     addr := s.plan.dishBase + l.dish * 32 }
        ∧ t.locks = s.locks.filter (fun x => x != line) ∧ t.tickets = s.tickets ∧ t.pool = s.pool
        ∧ t.cache = s.cache)
    ∧ (∀ check, d.check = some check → ∃ t, exec (.dishFillDone id .okay) s = .next t
        ∧ EndsWith s { s with locks := s.locks.filter (fun x => x != line) } t n .badDish check)
    ∧ (d.check = none → ∃ t, exec (.dishFillDone id .okay) s = .next t
        ∧ CommitsPost s
            { s with cache := ({ dish := l.dish, record := d } :: s.cache.filter (fun e => e.dish != l.dish)).take 64 }
            t n k d))
  ∧ (∀ (bs : List Byte) (fails : Nat → Prop),
    (fails 1 ↔ 31 < byteAt bs 0) →
    (fails 2 ↔ byteAt bs 1 = 0) →
    (fails 3 ↔ leNat bs 2 2 = 0 ∨ 4095 < leNat bs 2 2) →
    (fails 4 ↔ byteAt bs 4 ≠ 0 ∧ byteAt bs 4 ≠ 1) →
    (fails 5 ↔ 4095 < leNat bs 6 2) →
    (fails 6 ↔ 31 < byteAt bs 5) →
    (fails 7 ↔ leNat bs 10 2 ≠ 0 ∧ 31 < byteAt bs 8) →
    (fails 8 ↔ leNat bs 14 2 ≠ 0 ∧ 31 < byteAt bs 12) →
    (fails 9 ↔ leNat bs 18 2 ≠ 0 ∧ 31 < byteAt bs 16) →
    ∀ check, (parseDish bs).check = some check ↔
      1 ≤ check ∧ check ≤ 9 ∧ fails check ∧ ∀ i, 1 ≤ i → i < check → ¬fails i)

/-- The split: N portions in batches of 1 to B portions, at most 32 of them, in batch-number order, all PLANNED with
only RUSH taken from the ticket; it fails only for more than 32 batches or special portions above the batch size.
Thresholds are the effective lead plus the pass mark plus one gap for each later batch, limited to 65535; regular
batches go to the station override or the home station, the special batch to the first divert entry that shares a tag,
else home (R7, R9 to R12). -/
def Obligations.TheSplitOfATicket : Prop :=
  (∀ (k : Ticket) (d : DishRecord) (mark entry : Nat), 1 ≤ d.batchSize → 1 ≤ k.portions → k.special ≤ k.portions →
    (∀ bs, splitTicket k d mark entry = some bs →
      (bs.map (fun b => b.portions)).sum = k.portions
        ∧ 1 ≤ bs.length ∧ bs.length ≤ 32
        ∧ bs.length = (k.portions - k.special + d.batchSize - 1) / d.batchSize + (if 0 < k.special then 1 else 0)
        ∧ (∀ b ∈ bs, 1 ≤ b.portions ∧ b.portions ≤ d.batchSize ∧ b.state = .planned ∧ b.owner = entry
            ∧ b.rush = k.rush ∧ b.late = false ∧ b.moved = false ∧ b.voided = false)
        ∧ bs.map (fun b => b.number) = List.range bs.length
        ∧ (∀ b ∈ bs, b.kind = .regular → (∃ c ∈ bs, c.kind = .regular ∧ b.number < c.number) →
            b.portions = d.batchSize)
        ∧ (0 < k.special → ∃ b, bs.filter (fun x => x.kind == .special) = [b] ∧ b.portions = k.special
            ∧ b.number = min d.specialPosition (bs.length - 1))
        ∧ (k.special = 0 → ∀ b ∈ bs, b.kind = .regular))
    ∧ (splitTicket k d mark entry = none ↔ 32 < batchCount k d ∨ d.batchSize < k.special))
  ∧ (∀ (k : Ticket) (d : DishRecord) (mark entry i : Nat) (bs : List Batch) (b : Batch),
    splitTicket k d mark entry = some bs → bs[i]? = some b →
    b.threshold = min 65535 ((if k.lead = 0 then d.lead else k.lead) * (if d.unitCode = 1 then 16 else 1) + mark
        + (bs.length - 1 - i) * d.gap)
      ∧ (b.kind = .regular → k.station = none → b.target = Fin.ofNat 32 d.home)
      ∧ (b.kind = .regular → ∀ st, k.station = some st → b.target = st)
      ∧ (b.kind = .special → d.divertB.mask &&& k.tags ≠ 0 → b.target = Fin.ofNat 32 d.divertB.station)
      ∧ (b.kind = .special → d.divertB.mask &&& k.tags = 0 → d.divertC.mask &&& k.tags ≠ 0 →
          b.target = Fin.ofNat 32 d.divertC.station)
      ∧ (b.kind = .special → d.divertB.mask &&& k.tags = 0 → d.divertC.mask &&& k.tags = 0 →
          d.divertD.mask &&& k.tags ≠ 0 → b.target = Fin.ofNat 32 d.divertD.station)
      ∧ (b.kind = .special → d.divertB.mask &&& k.tags = 0 → d.divertC.mask &&& k.tags = 0 →
          d.divertD.mask &&& k.tags = 0 → b.target = Fin.ofNat 32 d.home))

/-- The checks of AMEND, in order: the line index, the ticket, the value's range by its field, a ticket that has been
voided; each ends the command and changes nothing (R19). -/
def Obligations.AmendIsChecked : Prop :=
  ∀ (s : State) (n : Bool) (f : AmendField) (line value : BitVec 16) (v : Nat), v = value.toNat →
    s.part = .ready → s.EntryReturns n (.amend f line.toNat v) →
    (s.lineCount ≤ line.toNat → ∃ t, exec (amendRow f n line value) s = .next t ∧ EndsWith s s t n .badField 0)
    ∧ (line.toNat < s.lineCount → s.entryOfLine? line.toNat = none →
        ∃ t, exec (amendRow f n line value) s = .next t ∧ EndsWith s s t n .notPosted 0)
    ∧ (∀ e k, line.toNat < s.lineCount → s.entryOfLine? line.toNat = some (e, k) →
        (f = .portions ∧ (v = 0 ∨ 4000 < v)) ∨ (f = .special ∧ 4000 < v) ∨ (f = .lead ∧ 4095 < v)
          ∨ (f = .wave ∧ (3 < v ∨ (s.courses[k.course]).plan.waves ≤ v)) ∨ (f = .rush ∧ 1 < v)
          ∨ (f = .station ∧ 31 < v) →
        ∃ t, exec (amendRow f n line value) s = .next t ∧ EndsWith s s t n .badField 0)
    ∧ (∀ e k, line.toNat < s.lineCount → s.entryOfLine? line.toNat = some (e, k) →
        s.amendValueOk f k v = true → k.voided = true →
        ∃ t, exec (amendRow f n line value) s = .next t ∧ EndsWith s s t n .tooLate 0)

/-- A re-splitting AMEND (PORTIONS, SPECIAL, TAGS, LEAD, WAVE): BAD FIELD for an amended ticket that fails its checks;
a miss fills; on a hit, and at the fill's return, it ends with TOO LATE unless every batch is PLANNED, with BAD FIELD
when the split fails and NO ROOM when the pool cannot hold it; else the new split replaces the old batches, taking the
lowest records free once the old ones are returned, the open batch count changes by the difference, and the batches
that are due are released at once. A failed fill is MEMORY ERROR, an invalid record BAD DISH with the failing check
(the nine checks are spelled out beside the dish fill of a POST); a ticket freed meanwhile is TOO LATE (the model's
inference, log 17) (R6, R20 to R22, R32, R38, R39, R166). -/
def Obligations.AmendSplitsAgain : Prop :=
  (∀ (s : State) (n : Bool) (f : AmendField) (line value : BitVec 16) (v e : Nat) (k kk : Ticket),
    v = value.toNat → kk = k.amended f v → f.resplits = true → s.part = .ready →
    s.EntryReturns n (.amend f line.toNat v) →
    line.toNat < s.lineCount → s.entryOfLine? line.toNat = some (e, k) → s.amendValueOk f k v = true →
    k.voided = false →
    (kk.portions < kk.special ∨ (0 < kk.special ∧ kk.tags = 0) →
        ∃ t, exec (amendRow f n line value) s = .next t ∧ EndsWith s s t n .badField 0)
    ∧ (kk.special ≤ kk.portions → (0 < kk.special → kk.tags ≠ 0) → (∀ x ∈ s.cache, x.dish ≠ k.dish) →
        ∃ t, exec (amendRow f n line value) s = .next t
          ∧ Runs s t n (.amendDish line.toNat k.dish k.course.val f v)
          ∧ Issues s t (ownRequest .dishFill .read (s.plan.dishBase + k.dish * 32) 32 [])
          ∧ t.tickets = s.tickets ∧ t.pool = s.pool ∧ t.cache = s.cache)
    ∧ (kk.special ≤ kk.portions → (0 < kk.special → kk.tags ≠ 0) → ∀ d, cached? k.dish s.cache = some d →
        ∃ t, exec (amendRow f n line value) s = .next t
          ∧ CommitsAmend s
              { s with cache := { dish := k.dish, record := d } :: s.cache.filter (fun x => x.dish != k.dish) }
              t n e k kk d))
  ∧ (∀ (s : State) (n : Bool) (f : AmendField) (line dish course v id : Nat) (m : MemRequest) (d : DishRecord),
    s.part = .ready → s.intake.progress = some (.running n (.amendDish line dish course f v)) →
    s.ReadInFlight id Owner.isDishFill m → d = parseDish (s.bytesAt m) →
    (∀ a, a ≠ .okay → s.GoesOn → ∃ t, exec (.dishFillDone id a) s = .next t
        ∧ Completes s t n .memoryError 0
        ∧ Logs s t { reason := .ownReadFailed, source := 63, sub := 5, course := course, line := line
                     addr := s.plan.dishBase + dish * 32 }
        ∧ t.tickets = s.tickets ∧ t.pool = s.pool ∧ t.cache = s.cache)
    ∧ (∀ check, d.check = some check → ∃ t, exec (.dishFillDone id .okay) s = .next t
        ∧ EndsWith s s t n .badDish check)
    ∧ (d.check = none → ∃ t u, exec (.dishFillDone id .okay) s = .next t
        ∧ u = { s with cache := ({ dish := dish, record := d } :: s.cache.filter (fun e => e.dish != dish)).take 64 }
        ∧ (s.entryOfLine? line = none → EndsWith s u t n .tooLate 0)
        ∧ (∀ e k, s.entryOfLine? line = some (e, k) → CommitsAmend s u t n e k (k.amended f v) d)))

/-- AMEND RUSH: the ticket's rush and the RUSH flag of its PLANNED batches are set; a DUE batch leaves its queue and
joins it again at the end of the part that its flags name; SHOWN, COOKING, STRANDED and finished batches keep theirs
(R23, R74). -/
def Obligations.AmendRushReplaces : Prop :=
  ∀ (s : State) (n : Bool) (line value : BitVec 16) (e : Nat) (k : Ticket),
    s.part = .ready → s.EntryReturns n (.amend .rush line.toNat value.toNat) →
    line.toNat < s.lineCount → s.entryOfLine? line.toNat = some (e, k) → value.toNat ≤ 1 → k.voided = false →
    ((∀ r ∈ k.batches, ∀ b, s.batch? r = some b → b.state ≠ .due) →
      ∃ t, exec (.amendRush n line value) s = .next t
        ∧ EndsWith s { s with
            tickets := Table.update e (fun x => { x with rush := value.toNat == 1 }) s.tickets
            pool := t.pool } t n .done 0
        ∧ ∀ r, t.batch? r = (s.batch? r).map (fun b =>
            if r ∈ k.batches ∧ b.state = .planned then { b with rush := value.toNat == 1 } else b))
    ∧ (∀ r b, k.batches = [r] → s.batch? r = some b → b.state = .due → r ∈ (s.stations[b.target]).queue →
      s.showing b.target = false →
      ∃ t, exec (.amendRush n line value) s = .next t ∧ Completes s t n .done 0
        ∧ t.batch? r = some { b with rush := value.toNat == 1 }
        ∧ t.stations[b.target] =
            ((s.stations[b.target]).unqueue r).join r (value.toNat == 1 || b.moved)
        ∧ ∀ st : StationId, st ≠ b.target → t.stations[st] = s.stations[st])

/-- AMEND STATION: the override is set and PLANNED regular batches take the new target; a DUE one leaves its queue and
enters for the new station, where it is shown at once in the lowest empty slot of an OPEN one with an empty queue and
a free token; the special batch and batches in other states keep theirs (R24, R75, R78, R79). -/
def Obligations.AmendStationRetargets : Prop :=
  ∀ (s : State) (n : Bool) (line value : BitVec 16) (e : Nat) (k : Ticket) (st : StationId),
    s.part = .ready → s.EntryReturns n (.amend .station line.toNat value.toNat) →
    line.toNat < s.lineCount → s.entryOfLine? line.toNat = some (e, k) → value.toNat = st.val → k.voided = false →
    ((∀ r ∈ k.batches, ∀ b, s.batch? r = some b → b.state ≠ .due ∨ b.kind = .special) →
      ∃ t, exec (.amendStation n line value) s = .next t
        ∧ EndsWith s { s with
            tickets := Table.update e (fun x => { x with station := some st }) s.tickets
            pool := t.pool } t n .done 0
        ∧ ∀ r, t.batch? r = (s.batch? r).map (fun b =>
            if r ∈ k.batches ∧ b.state = .planned ∧ b.kind = .regular then { b with target := st } else b))
    ∧ (∀ r b, k.batches = [r] → s.batch? r = some b → b.state = .due → b.kind = .regular → b.target ≠ st →
      (s.stations[st]).state = .paused ∨ (s.stations[st]).state = .opened →
      ∃ t, exec (.amendStation n line value) s = .next t ∧ Completes s t n .done 0
        ∧ t.stations[b.target] = (s.stations[b.target]).unqueue r
        ∧ (∀ x : StationId, x ≠ b.target → x ≠ st → t.stations[x] = s.stations[x])
        ∧ ((s.stations[st]).state = .paused ∨ (s.stations[st]).plan.capacity ≤ (s.stations[st]).tokens →
            t.batch? r = some { b with target := st }
              ∧ t.stations[st] = (s.stations[st]).join r (b.rush || b.moved))
        ∧ (∀ j : SlotId, (s.stations[st]).state = .opened → (s.stations[st]).queue = [] →
            (s.stations[st]).tokens < (s.stations[st]).plan.capacity → (s.stations[st]).slots[j] = none →
            (∀ i : SlotId, i < j → (s.stations[st]).slots[i] ≠ none) →
            (t.stations[st]).slots = (s.stations[st]).slots.set j (some r)
              ∧ (t.stations[st]).tokens = (s.stations[st]).tokens + 1 ∧ (t.stations[st]).queue = []
              ∧ Issues s t (anchorWrite s.straps (.bumpClear st) (offBump st j) (zeros 8))
              ∧ ∃ late, t.batch? r = some { b with target := st, state := .shown j, late := late }))

/-- VOID: BAD FIELD and NOT POSTED by the line; a ticket voided already is DONE at once; COOKING batches gain VOIDED;
when every batch is PLANNED, all finish as VOID, the entry is freed with outcome ALL VOID in the finished log, its
records and its lock return, and the open batch count falls (R26, R27, R28, R29). -/
def Obligations.VoidByBatchState : Prop :=
  ∀ (s : State) (n : Bool) (line : BitVec 16), s.part = .ready → s.EntryReturns n (.void line.toNat) →
    (s.lineCount ≤ line.toNat → ∃ t, exec (.void n line) s = .next t ∧ EndsWith s s t n .badField 0)
    ∧ (line.toNat < s.lineCount → s.entryOfLine? line.toNat = none →
        ∃ t, exec (.void n line) s = .next t ∧ EndsWith s s t n .notPosted 0)
    ∧ (∀ e k, line.toNat < s.lineCount → s.entryOfLine? line.toNat = some (e, k) →
      (k.voided = true → ∃ t, exec (.void n line) s = .next t ∧ EndsWith s s t n .done 0)
      ∧ (k.voided = false →
          (∀ r ∈ k.batches, ∃ b, s.batch? r = some b ∧ (b.state = .done ∨ b.state = .void ∨ ∃ j, b.state = .cooking j)) →
        ∃ t, exec (.void n line) s = .next t
          ∧ EndsWith s { s with
              tickets := Table.update e (fun x => { x with voided := true }) s.tickets, pool := t.pool } t n .done 0
          ∧ ∀ r, t.batch? r = (s.batch? r).map (fun b =>
              if r ∈ k.batches ∧ b.state ≠ .done ∧ b.state ≠ .void then { b with voided := true } else b))
      ∧ (k.voided = false → Table.get? e s.tickets = some k → k.batches ≠ [] → k.batches.Nodup → k.finished = 0 →
          (∀ r ∈ k.batches, ∃ b, s.batch? r = some b ∧ b.state = .planned ∧ b.owner = e) →
          (s.courses[k.course]).state ≠ .passed →
        ∃ t, exec (.void n line) s = .next t
          ∧ EndsWith s { s with
              tickets := Table.erase e s.tickets, pool := eraseBatches k.batches s.pool
              locks := s.locks.filter (fun l => l != k.line), logIndex := (s.logIndex + 1) % 128
              courses := s.courses.set k.course { (s.courses[k.course]) with
                openCount := (s.courses[k.course]).openCount - k.batches.length } } t n .done 0
          ∧ Issues s t (anchorWrite s.straps .finishedLog (offFinished s.logIndex) (finishedBytes k .allVoid))))

/-- VOID of a SHOWN batch takes it out of its slot with its token, clears its bump entry and lets the timer run only
while other batches are unread; VOID of a DUE or STRANDED batch takes it out of the queue or the stranded set. The
batch finishes as VOID, so its entry is freed with it (R26, R96, R104). -/
def Obligations.VoidLeavesTheStation : Prop :=
  ∀ (s : State) (n : Bool) (line : BitVec 16) (e r : Nat) (k : Ticket) (b : Batch),
    s.part = .ready → s.EntryReturns n (.void line.toNat) →
    line.toNat < s.lineCount → s.entryOfLine? line.toNat = some (e, k) → k.voided = false →
    Table.get? e s.tickets = some k → k.batches = [r] → k.finished = 0 → s.batch? r = some b → b.owner = e →
    (s.courses[k.course]).state ≠ .passed →
    (b.state = .due → ∃ t, exec (.void n line) s = .next t ∧ Completes s t n .done 0
        ∧ t.stations = s.stations.set b.target ((s.stations[b.target]).unqueue r)
        ∧ t.tickets = Table.erase e s.tickets ∧ t.batch? r = none)
    ∧ (b.state = .stranded → ∃ t, exec (.void n line) s = .next t ∧ Completes s t n .done 0
        ∧ t.stations = s.stations.set b.target { (s.stations[b.target]) with
            stranded := (s.stations[b.target]).stranded.filter (fun q => q != r) }
        ∧ t.tickets = Table.erase e s.tickets ∧ t.batch? r = none)
    ∧ (∀ j, b.state = .shown j → (s.stations[b.target]).slots[j] = some r → (s.stations[b.target]).queue = [] →
        ∃ t, exec (.void n line) s = .next t ∧ Completes s t n .done 0
          ∧ Issues s t (anchorWrite s.straps (.bumpClear b.target) (offBump b.target j) (zeros 8))
          ∧ t.stations = s.stations.set b.target { (s.stations[b.target]) with
              slots := (s.stations[b.target]).slots.set j none
              tokens := (s.stations[b.target]).tokens - 1
              timer := (if (List.finRange 16).any (fun i => decide (i ≠ j) && s.slotUnread b.target i)
                then (s.stations[b.target]).timer else none) }
          ∧ t.tickets = Table.erase e s.tickets ∧ t.batch? r = none)

-- ## The Dish Cache

/-- FLUSH: ALL and STATION empty the cache, DISH takes one dish out of it, each with its result byte; a target past
its range is BAD FIELD (R42, R43). -/
def Obligations.FlushEmptiesTheCache : Prop :=
  ∀ (s : State) (n : Bool) (target : BitVec 16), s.part = .ready →
    (s.EntryReturns n (.flush .all 0) → ∃ t, exec (.flushAll n) s = .next t
        ∧ EndsWith s { s with cache := [] } t n .done 1)
    ∧ (s.EntryReturns n (.flush .dish target.toNat) →
        (target.toNat ≤ 1023 → ∃ t, exec (.flushDish n target) s = .next t
          ∧ EndsWith s { s with cache := s.cache.filter (fun e => e.dish != target.toNat) } t n .done 2)
        ∧ (1023 < target.toNat → ∃ t, exec (.flushDish n target) s = .next t ∧ EndsWith s s t n .badField 0))
    ∧ (s.EntryReturns n (.flush .station target.toNat) →
        (target.toNat ≤ 31 → ∃ t, exec (.flushStation n target) s = .next t
          ∧ EndsWith s { s with cache := [] } t n .done 1)
        ∧ (31 < target.toNat → ∃ t, exec (.flushStation n target) s = .next t ∧ EndsWith s s t n .badField 0))

-- ## Courses and the service

/-- A batch becomes due when it is PLANNED and its threshold is at or above its course's countdown; it is then DUE,
and LATE when the threshold exceeds the countdown by more than the grace, which counts once in the course's late
count. So does FIRE, for a ticket of one batch whose station is PAUSED: the due batch joins the station's queue, and
one that is not due is left as it is (R49, R50, R53, R74, R75). -/
def Obligations.DueAndLateAtRelease : Prop :=
  (∀ (s : State) (p : CourseId → Bool) (r : Nat), r ∈ s.dueBatches p ↔
      ∃ e k b, (e, k) ∈ s.tickets ∧ p k.course = true ∧ r ∈ k.batches ∧ s.batch? r = some b ∧ b.state = .planned
        ∧ (s.courses[k.course]).countdown ≤ b.threshold)
  ∧ (∀ (s : State) (r : Nat) (b : Batch) (k : Ticket), s.batch? r = some b → s.ticketOf? b = some k →
      ((s.courses[k.course]).countdown + (s.courses[k.course]).plan.grace < b.threshold → b.late = false →
        (s.makeDue r).batch? r = some { b with state := .due, late := true }
          ∧ ((s.makeDue r).courses[k.course]) = { (s.courses[k.course]) with
              late := min 65535 ((s.courses[k.course]).late + 1) })
      ∧ (b.threshold ≤ (s.courses[k.course]).countdown + (s.courses[k.course]).plan.grace →
        (s.makeDue r).batch? r = some { b with state := .due } ∧ (s.makeDue r).courses = s.courses))
  ∧ (∀ (s : State) (n : Bool) (course : Byte) (countdown : BitVec 16) (c : CourseId) (v e r : Nat) (k : Ticket)
      (b : Batch) (lateNow : Bool),
    s.part = .ready → s.EntryReturns n (.fire course.toNat countdown.toNat) → course.toNat = c.val →
    c.val < s.plan.courseCount → (s.courses[c]).state = .staged → s.liveCount < 4 →
    v = (if countdown.toNat = 0 then (s.courses[c]).plan.countdown else countdown.toNat) →
    s.tickets = [(e, k)] → k.course = c → k.batches = [r] → s.batch? r = some b → b.owner = e → b.state = .planned →
    (s.stations[b.target]).state = .paused →
    (lateNow = true ↔ v + (s.courses[c]).plan.grace < b.threshold) →
    ∃ t, exec (.fire n course countdown) s = .next t ∧ Completes s t n .done 0
      ∧ (v ≤ b.threshold → t.batch? r = some { b with state := .due, late := b.late || lateNow }
          ∧ t.courses = s.courses.set c { (s.courses[c]) with
              state := .fired, countdown := v, late := if lateNow = true ∧ b.late = false then 1 else 0 }
          ∧ t.stations = s.stations.set b.target ((s.stations[b.target]).join r (b.rush || b.moved)))
      ∧ (b.threshold < v → t.pool = s.pool ∧ t.stations = s.stations
          ∧ t.courses = s.courses.set c { (s.courses[c]) with state := .fired, countdown := v, late := 0 }))

/-- FIRE of a STAGED course: the countdown is the given one, or the planned one for 0, the late count begins at 0, the
course is FIRED and its due batches leave PLANNED; no other course changes state or countdown. BAD FIELD, BAD STATE
and LIMIT otherwise (R48, R49). -/
def Obligations.FireStartsTheCountdown : Prop :=
  ∀ (s : State) (n : Bool) (course : Byte) (countdown : BitVec 16) (c : CourseId) (k : Nat),
    s.part = .ready → s.EntryReturns n (.fire course.toNat countdown.toNat) →
    (s.plan.courseCount ≤ course.toNat → ∃ t, exec (.fire n course countdown) s = .next t
        ∧ EndsWith s s t n .badField 0)
    ∧ (course.toNat = c.val → c.val < s.plan.courseCount →
      k = (if countdown.toNat = 0 then (s.courses[c]).plan.countdown else countdown.toNat) →
      ((s.courses[c]).state ≠ .staged → ∃ t, exec (.fire n course countdown) s = .next t
          ∧ EndsWith s s t n .badState 0)
      ∧ ((s.courses[c]).state = .staged → 4 ≤ s.liveCount → ∃ t, exec (.fire n course countdown) s = .next t
          ∧ EndsWith s s t n .limit 0)
      ∧ ((s.courses[c]).state = .staged → s.liveCount < 4 → ∃ t, exec (.fire n course countdown) s = .next t
          ∧ Completes s t n .done 0 ∧ WritesCourseMirror s t c
          ∧ (t.courses[c]).state = .fired ∧ (t.courses[c]).countdown = k
          ∧ (t.courses[c]).openCount = (s.courses[c]).openCount
          ∧ (∀ d : CourseId, d ≠ c → (t.courses[d]).state = (s.courses[d]).state
              ∧ (t.courses[d]).countdown = (s.courses[d]).countdown)
          ∧ t.tickets = s.tickets ∧ t.service = s.service ∧ t.dram = s.dram
          ∧ (∀ e x r b, (e, x) ∈ s.tickets → Table.get? e s.tickets = some x → x.course = c → r ∈ x.batches →
              s.batch? r = some b → b.owner = e → b.state = .planned → k ≤ b.threshold →
              ∃ b', t.batch? r = some b' ∧ b'.state ≠ .planned
                ∧ (k + (s.courses[c]).plan.grace < b.threshold → b'.late = true))
          ∧ (∀ r b, s.batch? r = some b → s.NotQueued r → b.state = .planned → b.threshold < k →
              t.batch? r = some b))
      ∧ ((s.courses[c]).state = .staged → s.liveCount < 4 →
          (∀ r b, s.batch? r = some b → b.state = .planned → b.threshold < k) →
          ∃ t, exec (.fire n course countdown) s = .next t
            ∧ EndsWith s { s with
                courses := s.courses.set c { (s.courses[c]) with countdown := k, late := 0, state := .fired } }
              t n .done 0))

/-- HOLD stops the countdown of a FIRED course and RESUME starts that of a HELD one; BAD FIELD and BAD STATE otherwise
(R51, R52). -/
def Obligations.HoldAndResume : Prop :=
  ∀ (s : State) (n : Bool) (course : Byte) (c : CourseId), s.part = .ready →
    (s.EntryReturns n (.hold course.toNat) →
      (s.plan.courseCount ≤ course.toNat → ∃ t, exec (.hold n course) s = .next t ∧ EndsWith s s t n .badField 0)
      ∧ (course.toNat = c.val → c.val < s.plan.courseCount → (s.courses[c]).state ≠ .fired →
          ∃ t, exec (.hold n course) s = .next t ∧ EndsWith s s t n .badState 0)
      ∧ (course.toNat = c.val → c.val < s.plan.courseCount → (s.courses[c]).state = .fired →
          ∃ t, exec (.hold n course) s = .next t
            ∧ EndsWith s { s with courses := s.courses.set c { (s.courses[c]) with state := .held } } t n .done 0
            ∧ WritesCourseMirror s t c))
    ∧ (s.EntryReturns n (.resume course.toNat) →
      (s.plan.courseCount ≤ course.toNat → ∃ t, exec (.resume n course) s = .next t ∧ EndsWith s s t n .badField 0)
      ∧ (course.toNat = c.val → c.val < s.plan.courseCount → (s.courses[c]).state ≠ .held →
          ∃ t, exec (.resume n course) s = .next t ∧ EndsWith s s t n .badState 0)
      ∧ (course.toNat = c.val → c.val < s.plan.courseCount → (s.courses[c]).state = .held →
          ∃ t, exec (.resume n course) s = .next t
            ∧ EndsWith s { s with courses := s.courses.set c { (s.courses[c]) with state := .fired } } t n .done 0
            ∧ WritesCourseMirror s t c))

/-- SERVICE: a list of 1 to 8 planned courses is applied when the service is NONE or ENDED: position 0, RUNNING, its
IDLE and CLEARED courses STAGED, its first course called; a first course that is FIRED, HELD or PASSED stalls it.
While the service runs the list is held as pending. BAD FIELD otherwise (R60 to R64). -/
def Obligations.ServiceListIsAppliedOrHeld : Prop :=
  ∀ (s : State) (n : Bool) (count cycle : Byte) (courses : Vector Byte 8) (bad : Prop) (l : List CourseId),
    s.part = .ready →
    s.EntryReturns n (.service count.toNat cycle.toNat (courses.toList.map (fun c => c.toNat))) →
    (bad ↔ count.toNat = 0 ∨ 8 < count.toNat ∨ 1 < cycle.toNat
      ∨ ∃ i < count.toNat, ∃ x, courses.toList[i]? = some x ∧ s.plan.courseCount ≤ x.toNat) →
    s.plan.courseCount ≤ 16 →
    (bad → ∃ t, exec (.service n count cycle courses) s = .next t ∧ EndsWith s s t n .badField 0)
    ∧ (¬bad → l.map (fun c => c.val) = (courses.toList.take count.toNat).map (fun c => c.toNat) →
      (s.service.state = .running ∨ s.service.state = .stalled →
        ∃ t, exec (.service n count cycle courses) s = .next t
          ∧ EndsWith s { s with service := { s.service with
              pending := some { courses := l, cycle := cycle.toNat == 1 } } } t n .doneReplaced
              (if s.service.pending.isSome then 1 else 0)
          ∧ WritesServiceMirror s t)
      ∧ (s.service.state = .none ∨ s.service.state = .ended → ∀ first, l.head? = some first →
        ((s.courses[first]).state = .idle ∨ (s.courses[first]).state = .staged
            ∨ (s.courses[first]).state = .cleared → (s.courses[first]).plan.autoFire = false →
          ∃ t, exec (.service n count cycle courses) s = .next t
            ∧ EndsWith s { s with
                service := { s.service with
                  state := .running, list := { courses := l, cycle := cycle.toNat == 1 }, position := 0 }
                courses := t.courses } t n .done 0
            ∧ WritesServiceMirror s t
            ∧ ∀ c : CourseId, t.courses[c] =
                if c ∈ l ∧ ((s.courses[c]).state = .idle ∨ (s.courses[c]).state = .cleared) then
                  { (s.courses[c]) with state := .staged }
                else s.courses[c])
        ∧ ((s.courses[first]).state = .fired ∨ (s.courses[first]).state = .held ∨ (s.courses[first]).state = .passed →
          ∃ t, exec (.service n count cycle courses) s = .next t ∧ Completes s t n .done 0
            ∧ t.service.state = .stalled ∧ t.service.position = 0 ∧ t.service.list.courses = l
            ∧ t.conditions.stall = true ∧ WritesServiceMirror s t)))

/-- The calling of a course: an IDLE, STAGED or CLEARED one is STAGED and, with auto-fire, fired with its planned
countdown where fewer than four courses are live, else fault LIVE LIMIT is recorded; a FIRED, HELD or PASSED one
stalls the service. A boundary: the pending list comes into force, else the position moves on, else a cyclic list
begins again, else the service has ENDED. A PASSED course with no open batch becomes CLEARED, and a stall at it ends.
So does SERVICE, for a first course with auto-fire, and VOID, for the last open batch of a PASSED course (R58, R63 to
R66; the pass and the boundary at a tick are in the statement of TICK). -/
def Obligations.CallingBoundaryAndClearing : Prop :=
  (∀ (s : State) (c : CourseId),
    ((s.courses[c]).state = .idle ∨ (s.courses[c]).state = .staged ∨ (s.courses[c]).state = .cleared →
      ((s.courses[c]).plan.autoFire = false → (s.call c).courses[c] = { (s.courses[c]) with state := .staged })
      ∧ ((s.courses[c]).plan.autoFire = true → s.liveCount < 4 → ((s.call c).courses[c]).state = .fired
          ∧ ((s.call c).courses[c]).countdown = (s.courses[c]).plan.countdown)
      ∧ ((s.courses[c]).plan.autoFire = true → 4 ≤ s.liveCount →
          (s.call c).courses[c] = { (s.courses[c]) with state := .staged }
            ∧ Logs s (s.call c) { reason := .liveLimit, source := 63, course := c.val }))
    ∧ ((s.courses[c]).state = .fired ∨ (s.courses[c]).state = .held ∨ (s.courses[c]).state = .passed →
      (s.call c).courses = s.courses ∧ (s.call c).service.state = .stalled ∧ (s.call c).conditions.stall = true))
  ∧ ((∀ s : State, s.service.pending = none →
    (s.service.position + 1 < s.service.list.courses.length →
      s.boundary.service.position = s.service.position + 1 ∧ s.boundary.service.list = s.service.list)
    ∧ (s.service.list.courses.length ≤ s.service.position + 1 → s.service.list.cycle = true →
      s.boundary.service.position = 0 ∧ s.boundary.service.list = s.service.list)
    ∧ (s.service.list.courses.length ≤ s.service.position + 1 → s.service.list.cycle = false →
      s.boundary.service.state = .ended ∧ s.boundary.conditions.ended = true ∧ s.boundary.courses = s.courses))
  ∧ (∀ (s : State) (l : CourseList), s.service.pending = some l →
      s.boundary.service.position = 0 ∧ s.boundary.service.list = l ∧ s.boundary.service.pending = none)
  ∧ (∀ (s : State) (c : CourseId),
      ((s.courses[c]).state = .passed → (s.courses[c]).openCount = 0 →
        s.service.calling? ≠ some c ∨ s.service.state ≠ .stalled →
        ((s.clearIfDone c).courses[c]).state = .cleared ∧ (s.clearIfDone c).conditions.cleared = true)
      ∧ ((s.courses[c]).state = .passed → (s.courses[c]).openCount = 0 → s.service.state = .stalled →
        s.service.calling? = some c →
        (s.clearIfDone c).service.state = .running ∧ (s.clearIfDone c).conditions.cleared = true
          ∧ ((s.courses[c]).plan.autoFire = false → ((s.clearIfDone c).courses[c]).state = .staged))
      ∧ ((s.courses[c]).state ≠ .passed ∨ (s.courses[c]).openCount ≠ 0 → s.clearIfDone c = s)))
  ∧ (∀ (s : State) (n : Bool) (count cycle : Byte) (courses : Vector Byte 8) (l : List CourseId) (c : CourseId),
    s.part = .ready →
    s.EntryReturns n (.service count.toNat cycle.toNat (courses.toList.map (fun x => x.toNat))) →
    1 ≤ count.toNat → count.toNat ≤ 8 → cycle.toNat ≤ 1 →
    l.map (fun x => x.val) = (courses.toList.take count.toNat).map (fun x => x.toNat) →
    (∀ x ∈ l, x.val < s.plan.courseCount) → l.head? = some c → s.service.state = .none ∨ s.service.state = .ended →
    (s.courses[c]).state = .idle ∨ (s.courses[c]).state = .staged ∨ (s.courses[c]).state = .cleared →
    (s.courses[c]).plan.autoFire = true →
    ∃ t, exec (.service n count cycle courses) s = .next t ∧ Completes s t n .done 0
      ∧ t.service.state = .running ∧ t.service.position = 0 ∧ t.service.list.courses = l
      ∧ (s.liveCount < 4 → (t.courses[c]).state = .fired
          ∧ (t.courses[c]).countdown = (s.courses[c]).plan.countdown)
      ∧ (4 ≤ s.liveCount → (t.courses[c]).state = .staged
          ∧ Logs s t { reason := .liveLimit, source := 63, course := c.val }))
  ∧ (∀ (s : State) (n : Bool) (line : BitVec 16) (e r : Nat) (k : Ticket) (b : Batch) (c : Course),
    s.part = .ready → s.EntryReturns n (.void line.toNat) → line.toNat < s.lineCount →
    s.entryOfLine? line.toNat = some (e, k) → k.voided = false → Table.get? e s.tickets = some k → k.batches = [r] →
    k.finished = 0 → s.batch? r = some b → b.owner = e → b.state = .due ∨ b.state = .stranded →
    c = s.courses[k.course] → c.state = .passed → c.openCount = 1 →
    ∃ t, exec (.void n line) s = .next t ∧ Completes s t n .done 0 ∧ t.conditions.cleared = true
      ∧ t.tickets = Table.erase e s.tickets
      ∧ (s.service.state ≠ .stalled ∨ s.service.calling? ≠ some k.course →
          (t.courses[k.course]).state = .cleared ∧ t.service = s.service)
      ∧ (s.service.state = .stalled → s.service.calling? = some k.course →
          t.service = { s.service with state := .running } ∧ WritesServiceMirror s t
            ∧ (c.plan.autoFire = false → (t.courses[k.course]).state = .staged)
            ∧ (c.plan.autoFire = true → s.liveCount < 4 → (t.courses[k.course]).state = .fired
                ∧ (t.courses[k.course]).countdown = c.plan.countdown)
            ∧ (c.plan.autoFire = true → 4 ≤ s.liveCount → (t.courses[k.course]).state = .staged
                ∧ Logs s t { reason := .liveLimit, source := 63, course := k.course.val })))

-- ## The STATION command

/-- The refusals of STATION, which change nothing: BAD FIELD for a station above 31, a capacity above 16, a backup
that is the station itself or above 32, a release target above 31; BAD STATE for a station that the action finds in
another state, and for a release to a CLOSED station (R89 to R95). -/
def Obligations.StationRefusals : Prop :=
  ∀ (s : State) (a : StationAction) (n : Bool) (station value : Byte), s.part = .ready →
    s.EntryReturns n (stationEntry a station value) →
    (31 < station.toNat → ∃ t, exec (stationRow a n station value) s = .next t ∧ EndsWith s s t n .badField 0)
    ∧ (station.toNat ≤ 31 →
        (a = .capacity ∧ 16 < value.toNat) ∨ (a = .backup ∧ (32 < value.toNat ∨ value = station))
          ∨ (a = .releaseStranded ∧ 31 < value.toNat) →
        ∃ t, exec (stationRow a n station value) s = .next t ∧ EndsWith s s t n .badField 0)
    ∧ (∀ st : StationId, station.toNat = st.val →
        (a = .opening ∧ ((s.stations[st]).state = .opened ∨ (s.stations[st]).state = .paused))
          ∨ (a = .close ∧ ((s.stations[st]).state = .closed ∨ (s.stations[st]).state = .down
              ∨ (s.stations[st]).occupied ≠ 0))
          ∨ (a = .pause ∧ (s.stations[st]).state ≠ .opened)
          ∨ (a = .unpause ∧ (s.stations[st]).state ≠ .paused)
          ∨ (a = .releaseStranded ∧ ∃ x : StationId, value.toNat = x.val ∧ (s.stations[x]).state = .closed) →
        ∃ t, exec (stationRow a n station value) s = .next t ∧ EndsWith s s t n .badState 0)

/-- PAUSE of an OPEN station, UNPAUSE of a PAUSED and OPEN of a CLOSED or DOWN one; BACKUP replaces the backup, 32 for
NONE; CAPACITY replaces the capacity. After an opening and after a CAPACITY the station shows while it can (R90, R92,
R93, R94, R113). -/
def Obligations.StationOpensPausesAndIsSet : Prop :=
  (∀ (s : State) (n : Bool) (station : Byte) (st : StationId), station.toNat = st.val → s.part = .ready →
    (s.EntryReturns n (stationEntry .pause station 0) → (s.stations[st]).state = .opened →
      ∃ t, exec (.stationPause n station) s = .next t
        ∧ EndsWith s { s with stations := s.stations.set st { (s.stations[st]) with state := .paused } } t n .done 0
        ∧ WritesStationMirror s t st)
    ∧ (s.EntryReturns n (stationEntry .unpause station 0) → (s.stations[st]).state = .paused →
      ∃ t, exec (.stationUnpause n station) s = .next t ∧ Completes s t n .done 0 ∧ WritesStationMirror s t st
        ∧ (t.stations[st]).state = .opened ∧ t.showing st = false
        ∧ ((s.stations[st]).queue = [] → CompletedFrom
            { s with stations := s.stations.set st { (s.stations[st]) with state := .opened } } t n))
    ∧ (s.EntryReturns n (stationEntry .opening station 0) →
        (s.stations[st]).state = .closed ∨ (s.stations[st]).state = .down →
      ∃ t, exec (.stationOpen n station) s = .next t ∧ Completes s t n .done 0 ∧ WritesStationMirror s t st
        ∧ (t.stations[st]).state = .opened ∧ t.showing st = false
        ∧ ((s.stations[st]).state = .closed → (s.stations[st]).queue = [] → CompletedFrom
            { s with stations := s.stations.set st { (s.stations[st]) with state := .opened } } t n)
        ∧ ((s.stations[st]).state = .down → (s.stations[st]).queue = [] → CompletedFrom
            { s with
              stations := s.stations.set st
                { (s.stations[st]) with state := .opened, retry := 0, progress := 0 } } t n)))
  ∧ (∀ (s : State) (n : Bool) (station value : Byte) (st : StationId), station.toNat = st.val → s.part = .ready →
    (s.EntryReturns n (stationEntry .backup station value) → value.toNat ≤ 32 → value ≠ station →
      ∃ t x, exec (.stationBackup n station value) s = .next t
        ∧ EndsWith s { s with
            stations := s.stations.set st
              { (s.stations[st]) with plan := { (s.stations[st]).plan with backup := x } } } t n .done 0
        ∧ (value.toNat = 32 → x = none) ∧ (∀ b : StationId, value.toNat = b.val → x = some b))
    ∧ (s.EntryReturns n (stationEntry .capacity station value) → value.toNat ≤ 16 →
      ∃ t, exec (.stationCapacity n station value) s = .next t ∧ Completes s t n .done 0
        ∧ (t.stations[st]).plan = { (s.stations[st]).plan with capacity := value.toNat } ∧ t.showing st = false
        ∧ ((s.stations[st]).state ≠ .opened ∨ (s.stations[st]).queue = [] ∨ value.toNat ≤ (s.stations[st]).tokens →
            CompletedFrom { s with stations := s.stations.set st { (s.stations[st]) with
              plan := { (s.stations[st]).plan with capacity := value.toNat } } } t n)))

/-- CLOSE of an OPEN or PAUSED station with no batch in a slot: it is CLOSED with retry and return progress 0 and an
empty queue; the batches of its queue go, in queue order, to its usable backup with MOVED, which shows them at once
while it is OPEN and has room, or into its stranded set with fault STRANDED (R76 to R79, R87, R91, R166). -/
def Obligations.CloseEmptiesTheQueue : Prop :=
  ∀ (s : State) (n : Bool) (station : Byte) (st : StationId), station.toNat = st.val → s.part = .ready →
    s.EntryReturns n (stationEntry .close station 0) →
    (s.stations[st]).state = .opened ∨ (s.stations[st]).state = .paused → (s.stations[st]).occupied = 0 →
    (∀ r ∈ (s.stations[st]).queue, ∃ b, s.batch? r = some b) →
    (s.usableBackup st = none → ∃ t, exec (.stationClose n station) s = .next t ∧ Completes s t n .done 0
        ∧ WritesStationMirror s t st
        ∧ t.stations = s.stations.set st { (s.stations[st]) with
            state := .closed, retry := 0, progress := 0, prio := [], ordinary := []
            stranded := (s.stations[st]).stranded ++ (s.stations[st]).queue }
        ∧ (∀ r ∈ (s.stations[st]).queue, ∃ b, t.batch? r = some b ∧ b.state = .stranded ∧ b.target = st)
        ∧ ((s.stations[st]).queue ≠ [] → Recorded t .stranded (linkTag st))
        ∧ (∀ r b k, (s.stations[st]).queue = [r] → s.batch? r = some b → s.ticketOf? b = some k →
            Logs s t { reason := .stranded, source := linkTag st, sub := 3, station := st.val
                       course := k.course.val, line := k.line })
        ∧ ((s.stations[st]).queue = [] → t.faults = s.faults))
    ∧ (∀ backup, s.usableBackup st = some backup →
        ∃ t, exec (.stationClose n station) s = .next t ∧ Completes s t n .done 0 ∧ WritesStationMirror s t st
          ∧ t.stations[st] = { (s.stations[st]) with
              state := .closed, retry := 0, progress := 0, prio := [], ordinary := [] }
          ∧ t.faults = s.faults
          ∧ ((s.stations[backup]).state = .paused →
              t.stations[backup] = { (s.stations[backup]) with
                  prio := (s.stations[backup]).prio ++ (s.stations[st]).queue }
                ∧ (∀ r ∈ (s.stations[st]).queue, ∃ b, t.batch? r = some b ∧ b.state = .due ∧ b.target = backup
                    ∧ b.moved = true))
          ∧ ((s.stations[st]).queue = [] → ∀ x : StationId, x ≠ st → t.stations[x] = s.stations[x])
          ∧ ((s.stations[backup]).state = .opened → (s.stations[st]).queue ≠ [] → (s.stations[st]).queue.Nodup →
              (∀ r ∈ (s.stations[st]).queue, r ∉ (s.stations[backup]).queue) →
              ShowsFirst s t backup (s.stations[st]).queue
                ∧ (∀ r ∈ (s.stations[st]).queue, ∀ b, s.batch? r = some b → QueuedOrShown t backup r b
                    ∧ ∃ b', t.batch? r = some b' ∧ b'.moved = true)))

/-- RELEASE STRANDED: every batch of the station's stranded set becomes DUE with MOVED for the named station and joins
the priority part of its queue, in the order of the set; an OPEN station shows them at once while it has room (R74,
R77 to R79, R95). -/
def Obligations.ReleaseMovesTheStranded : Prop :=
  ∀ (s : State) (n : Bool) (station value : Byte) (st x : StationId), station.toNat = st.val → value.toNat = x.val →
    s.part = .ready → s.EntryReturns n (stationEntry .releaseStranded station value) →
    (∀ r ∈ (s.stations[st]).stranded, ∃ b, s.batch? r = some b) →
    (s.stations[x]).state ≠ .closed →
    ∃ t, exec (.releaseStranded n station value) s = .next t ∧ Completes s t n .done 0
      ∧ (t.stations[st]).stranded = []
      ∧ ((s.stations[x]).state ≠ .opened →
          (t.stations[x]).prio = (s.stations[x]).prio ++ (s.stations[st]).stranded
            ∧ (t.stations[x]).ordinary = (s.stations[x]).ordinary
            ∧ (∀ r ∈ (s.stations[st]).stranded, ∃ b, t.batch? r = some b ∧ b.state = .due ∧ b.target = x
                ∧ b.moved = true))
      ∧ ((s.stations[x]).state = .opened → (s.stations[st]).stranded.Nodup → (s.stations[st]).stranded ≠ [] →
          (∀ r ∈ (s.stations[st]).stranded, r ∉ (s.stations[x]).queue) →
          ShowsFirst s t x (s.stations[st]).stranded
            ∧ (∀ r ∈ (s.stations[st]).stranded, ∀ b, s.batch? r = some b → QueuedOrShown t x r b
                ∧ ∃ b', t.batch? r = some b' ∧ b'.moved = true))
      ∧ (∀ y : StationId, y ≠ st → y ≠ x → t.stations[y] = s.stations[y])

-- ## Acknowledgement, retry and backup

/-- The expiry of a station's ack timer, at the tick that the station owes or takes early (log 16), with the timer at
1, or at 0 where R114 or R115 has left it at a timeout of 1 (the model's inference, log 26): a retry, with the timer
reloaded; at the retry limit the station goes DOWN, and without a usable backup its work stays and NO BACKUP is
recorded after STATION DOWN; a DOWN station loses its return progress. When a read or a bump has acted on the timer
first, the owed tick only lowers it, and nothing expires (R105 to R110, R114, R115, R117; down to 0 at a timeout of 1:
log 26). -/
def Obligations.ExpiryRetriesThenGoesDown : Prop :=
  (∀ (s : State) (st : StationId) (x : Station) (mark : TickMark), s.rstLow = false → s.part = .ready →
    x = s.stations[st] →
    (x.tick = .owed ∧ mark = .clear) ∨ (x.tick = .clear ∧ 0 < s.ticksDue ∧ mark = .early) →
    x.timer = some 1 ∨ x.timer = some 0 →
    ((x.state = .opened ∨ x.state = .paused) → x.plan.retryLimit = 0 ∨ min 255 (x.retry + 1) < x.plan.retryLimit →
      ∃ t, exec (.ackTimerExpiry st) s = .next t
        ∧ ReportedFrom { s with
            responses := []
            stations := s.stations.set st
              { x with tick := mark, retry := min 255 (x.retry + 1), timer := some x.plan.timeout } } t
        ∧ (x.retry < 255 → WritesStationMirror s t st) ∧ t.alertPattern st = .fast)
    ∧ ((x.state = .opened ∨ x.state = .paused) → x.plan.retryLimit ≠ 0 →
        x.plan.retryLimit ≤ min 255 (x.retry + 1) → s.usableBackup st = none →
      ∃ t, exec (.ackTimerExpiry st) s = .next t
        ∧ t.stations = s.stations.set st
            { x with tick := mark, retry := min 255 (x.retry + 1), timer := some x.plan.timeout, state := .down
                     progress := 0 }
        ∧ (∃ u : State,
            Logs s u { reason := .stationDown, source := linkTag st, sub := x.plan.retryLimit, station := st.val }
            ∧ Logs u t { reason := .noBackup, source := linkTag st, station := st.val
                         sub := match x.plan.backup with
                           | none => 0
                           | some y => if (s.stations[y]).state = .closed then 1 else 2 })
        ∧ t.conditions.down = true ∧ t.pool = s.pool ∧ WritesStationMirror s t st)
    ∧ (x.state = .down → ∃ t, exec (.ackTimerExpiry st) s = .next t
        ∧ ReportedFrom { s with
            responses := []
            stations := s.stations.set st
              { x with tick := mark, progress := 0, timer := some x.plan.timeout } } t))
  ∧ (∀ (s : State) (st : StationId) (x : Station), s.rstLow = false → s.part = .ready → x = s.stations[st] →
    x.tick = .owedSpared →
    ∃ t, exec (.ackTimerExpiry st) s = .next t
      ∧ ReportedFrom { s with
          responses := []
          stations := s.stations.set st { x with tick := .clear, timer := x.timer.map (fun k => k - 1) } } t)

/-- A station that goes DOWN with a usable backup gives it its unread batches in slot order and then its due queue,
and an OPEN backup shows them at once while it has room; the batches that cook stay, the timer stops, and STATION DOWN
is logged. The reads of a DOWN station's own link count toward its return, and at its return count it is OPEN again
with retry and return progress 0. The expiry of the ack timer at the retry limit is such a DOWN transition (R104,
R108, R109, R112, R113, R117; the tick that the station owes is log 16's). -/
def Obligations.DownMovesTheWorkAndReturns : Prop :=
  (∀ (s : State) (st backup : StationId), s.usableBackup st = some backup →
    ((s.goDown st).stations[st]).state = .down ∧ ((s.goDown st).stations[st]).queue = []
      ∧ ((s.goDown st).stations[st]).timer = none ∧ (s.goDown st).conditions.down = true
      ∧ Logs s (s.goDown st)
          { reason := .stationDown, source := linkTag st, sub := (s.stations[st]).plan.retryLimit, station := st.val }
      ∧ (∀ k : SlotId, ((s.goDown st).stations[st]).slots[k] =
          if s.slotUnread st k = true then none else (s.stations[st]).slots[k])
      ∧ ((s.stations[backup]).state = .paused → (∀ r ∈ (s.stations[st]).queue, ∃ b, s.batch? r = some b) →
          ((s.goDown st).stations[backup]).prio = (s.stations[backup]).prio
            ++ ((List.finRange 16).filter (fun k => s.slotUnread st k)).filterMap
                (fun k => (s.stations[st]).slots[k])
            ++ (s.stations[st]).queue)
      ∧ (∀ y : StationId, y ≠ st → y ≠ backup → (s.goDown st).stations[y] = s.stations[y]))
  ∧ (∀ (s : State) (st : StationId), (s.stations[st]).state = .down →
    ((s.stations[st]).progress + 1 < (s.stations[st]).plan.returnCount →
      (s.countReturn st).stations[st] = { (s.stations[st]) with progress := (s.stations[st]).progress + 1 })
    ∧ ((s.stations[st]).plan.returnCount ≤ (s.stations[st]).progress + 1 →
      ((s.countReturn st).stations[st]).state = .opened ∧ ((s.countReturn st).stations[st]).retry = 0
        ∧ ((s.countReturn st).stations[st]).progress = 0 ∧ (s.countReturn st).showing st = false))
  ∧ (∀ (s : State) (st backup : StationId) (x y : Station) (work : List Nat), s.rstLow = false → s.part = .ready →
    x = s.stations[st] → y = s.stations[backup] → x.tick = .owed → x.timer = some 1 →
    (x.state = .opened ∨ x.state = .paused) → x.plan.retryLimit ≠ 0 → x.plan.retryLimit ≤ min 255 (x.retry + 1) →
    s.usableBackup st = some backup →
    work = ((List.finRange 16).filter (fun k => s.slotUnread st k)).filterMap (fun k => x.slots[k]) ++ x.queue →
    (∀ r ∈ work, ∃ b, s.batch? r = some b) →
    ∃ t, exec (.ackTimerExpiry st) s = .next t
      ∧ (t.stations[st]).state = .down ∧ (t.stations[st]).retry = min 255 (x.retry + 1)
      ∧ (t.stations[st]).queue = [] ∧ (t.stations[st]).timer = none ∧ (t.stations[st]).progress = 0
      ∧ (∀ k : SlotId, (t.stations[st]).slots[k] = if s.slotUnread st k = true then none else x.slots[k])
      ∧ t.conditions.down = true
      ∧ Logs s t { reason := .stationDown, source := linkTag st, sub := x.plan.retryLimit, station := st.val }
      ∧ WritesStationMirror s t st
      ∧ (y.state = .paused → (t.stations[backup]).prio = y.prio ++ work ∧ (t.stations[backup]).slots = y.slots
          ∧ (∀ r ∈ work, ∃ b, t.batch? r = some b ∧ b.state = .due ∧ b.target = backup ∧ b.moved = true))
      ∧ (work = [] → t.stations[backup] = y)
      ∧ (y.state = .opened → work ≠ [] → work.Nodup → (∀ r ∈ work, r ∉ y.queue) →
          ShowsFirst s t backup work
            ∧ (∀ r ∈ work, ∀ b, s.batch? r = some b → QueuedOrShown t backup r b
                ∧ ∃ b', t.batch? r = some b' ∧ b'.moved = true))
      ∧ (∀ z : StationId, z ≠ st → z ≠ backup → t.stations[z] = s.stations[z]))

/-- The alert line: low when CLOSED; else FAST while the retry count is above 0; else high while a slot holds a SHOWN
batch; else SLOW while a COOKING batch carries LATE or VOIDED or the station is PAUSED; else low. FAST and SLOW follow
the blink phases, which every TREF period moves on in every part state, whatever the divider code: the fast phase is
on for 128 periods and off for 128, the slow phase for 512 and 512, and both begin in their on half at the end of RST
and of a restart (R68, R98, R99). -/
def Obligations.AlertLineAndBlinkPhases : Prop :=
  (∀ (s : State) (st : StationId) (reading late : Prop), s.rstLow = false →
    (reading ↔ ∃ (k : SlotId) (r : Nat) (b : Batch), s.slotBatch st k = some (r, b) ∧ ∃ j, b.state = .shown j) →
    (late ↔ ∃ (k : SlotId) (r : Nat) (b : Batch), s.slotBatch st k = some (r, b) ∧ (∃ j, b.state = .cooking j)
      ∧ (b.late = true ∨ b.voided = true)) →
    ((s.stations[st]).state = .closed → s.alertLevel st = false)
    ∧ ((s.stations[st]).state ≠ .closed → 0 < (s.stations[st]).retry → s.alertLevel st = s.fastOn)
    ∧ ((s.stations[st]).state ≠ .closed → (s.stations[st]).retry = 0 → reading → s.alertLevel st = true)
    ∧ ((s.stations[st]).state ≠ .closed → (s.stations[st]).retry = 0 → ¬reading →
        late ∨ (s.stations[st]).state = .paused → s.alertLevel st = s.slowOn)
    ∧ ((s.stations[st]).state ≠ .closed → (s.stations[st]).retry = 0 → ¬reading → ¬late →
        (s.stations[st]).state ≠ .paused → s.alertLevel st = false))
  ∧ (∀ s : State, (s.fastOn = true ↔ s.blink % 256 < 128) ∧ (s.slowOn = true ↔ s.blink % 1024 < 512))
  ∧ (∀ s : State, s.rstLow = false → ∃ t, exec .trefPeriod s = .next t ∧ t.blink = (s.blink + 1) % 1024)
  ∧ (∀ (s : State) (straps : BitVec 8), s.rstLow = true →
      ∃ t, exec (.rstRise straps) s = .next t ∧ t.blink = 0 ∧ t.fastOn = true ∧ t.slowOn = true)
  ∧ (∀ (s : State) (w : WordWrite), s.rstLow = false → s.part ≠ .start → s.hasRoom 0 = true →
      w.enable = 15#4 → w.data ≠ 0#32 →
      ∃ t, exec (.restartWord w) s = .next t ∧ t.blink = 0 ∧ t.fastOn = true ∧ t.slowOn = true)

-- ## Time

/-- A TREF period: the blink phases go on, and the divider's phase rises or, where it would reach 2 to the k, returns
to 0 and a tick is produced, which waits for TICK (R67; the waiting is log 16's). -/
def Obligations.TrefPeriodDivides : Prop :=
  ∀ s : State, s.rstLow = false →
    (s.setup = none → ∃ t, exec .trefPeriod s = .next t
        ∧ ReportedFrom { s with responses := [], blink := (s.blink + 1) % 1024 } t)
    ∧ (∀ u, s.setup = some u → s.tickPhase + 1 < 2 ^ u.divider → ∃ t, exec .trefPeriod s = .next t
        ∧ ReportedFrom { s with
            responses := [], blink := (s.blink + 1) % 1024, tickPhase := s.tickPhase + 1 } t)
    ∧ (∀ u, s.setup = some u → 2 ^ u.divider ≤ s.tickPhase + 1 → ∃ t, exec .trefPeriod s = .next t
        ∧ ReportedFrom { s with
            responses := [], blink := (s.blink + 1) % 1024, tickPhase := 0, ticksDue := s.ticksDue + 1 } t)

/-- A tick (that all courses of one tick pass before the boundary calls a course is the model's choice, log 18):
nothing while no tick is due (log 16) or the part is not READY; every FIRED course counts down by 1, its batches that
are due at the lowered countdown are released, and at 0 it is PASSED, or CLEARED with no open batch; a course in
another state keeps its countdown. The pass of the calling course of a RUNNING service is the boundary: the pending
list comes into force, else the next position is called, else a repeating list begins again, else the service has
ENDED. While the service is STALLED a pass is no boundary, and the clearing of the calling course ends the stall (R48,
R50, R53, R54, R58, R63 to R66). -/
def Obligations.TickCountsCoursesDown : Prop :=
  (∀ (s : State) (order : TickOrder), s.rstLow = false →
    (s.ticksDue = 0 → ∃ t, exec (.tick order) s = .next t ∧ ReportedFrom { s with responses := [] } t)
    ∧ (s.ticksDue ≠ 0 → s.part ≠ .ready → ∃ t, exec (.tick order) s = .next t
        ∧ ReportedFrom { s with responses := [], ticksDue := s.ticksDue - 1 } t))
  ∧ (∀ (s : State) (order : TickOrder), s.rstLow = false → s.ticksDue ≠ 0 → s.part = .ready →
    ∃ t, exec (.tick order) s = .next t ∧ t.ticksDue = s.ticksDue - 1 ∧ t.tickets = s.tickets ∧ t.dram = s.dram
      -- the due batches of every FIRED course
      ∧ (∀ e k r b, (e, k) ∈ s.tickets → Table.get? e s.tickets = some k → (s.courses[k.course]).state = .fired →
          r ∈ k.batches → s.batch? r = some b → b.owner = e → b.state = .planned →
          (s.courses[k.course]).countdown - 1 ≤ b.threshold →
          ∃ b', t.batch? r = some b' ∧ b'.state ≠ .planned
            ∧ (s.NotQueued r → (s.courses[k.course]).countdown - 1 + (s.courses[k.course]).plan.grace < b.threshold →
                b'.late = true))
      -- no boundary and no stall that ends: NONE, ENDED, or no course that passes
      ∧ (s.service.state = .none ∨ s.service.state = .ended
            ∨ (∀ c : CourseId, (s.courses[c]).state = .fired → 1 < (s.courses[c]).countdown) →
          t.service = s.service
          ∧ (∀ r b, s.batch? r = some b → s.NotQueued r → b.state = .planned →
              (∀ e k, (e, k) ∈ s.tickets → r ∈ k.batches → (s.courses[k.course]).state ≠ .fired
                ∨ b.threshold < (s.courses[k.course]).countdown - 1) → t.batch? r = some b)
          ∧ ∀ c : CourseId,
              ((s.courses[c]).state ≠ .fired → (t.courses[c]).state = (s.courses[c]).state
                ∧ (t.courses[c]).countdown = (s.courses[c]).countdown)
              ∧ ((s.courses[c]).state = .fired → (t.courses[c]).countdown = (s.courses[c]).countdown - 1
                ∧ WritesCourseMirror s t c
                ∧ (t.courses[c]).state = (if 1 < (s.courses[c]).countdown then .fired
                    else if (s.courses[c]).openCount = 0 then .cleared else .passed)
                ∧ ((s.courses[c]).countdown ≤ 1 → (s.courses[c]).openCount = 0 → t.conditions.cleared = true)))
      -- the boundary of a RUNNING service
      ∧ (∀ c : CourseId, s.service.state = .running → s.service.calling? = some c → (s.courses[c]).state = .fired →
          (s.courses[c]).countdown ≤ 1 →
          WritesServiceMirror s t
          ∧ (∀ l, s.service.pending = some l →
              t.service.list = l ∧ t.service.position = 0 ∧ t.service.pending = none)
          ∧ (s.service.pending = none → s.service.position + 1 < s.service.list.courses.length →
              t.service.list = s.service.list ∧ t.service.position = s.service.position + 1)
          ∧ (s.service.pending = none → s.service.list.courses.length ≤ s.service.position + 1 →
              s.service.list.cycle = true → t.service.list = s.service.list ∧ t.service.position = 0)
          ∧ (s.service.pending = none → s.service.list.courses.length ≤ s.service.position + 1 →
              s.service.list.cycle = false →
              t.service = { s.service with state := .ended } ∧ t.conditions.ended = true
                ∧ (t.courses[c]).state = (if (s.courses[c]).openCount = 0 then .cleared else .passed))
          ∧ (t.service.state ≠ .ended → ∀ d, t.service.list.courses[t.service.position]? = some d →
              ((s.courses[d]).state = .idle ∨ (s.courses[d]).state = .staged ∨ (s.courses[d]).state = .cleared
                  ∨ ((s.courses[d]).state = .fired ∧ (s.courses[d]).countdown ≤ 1 ∧ (s.courses[d]).openCount = 0) →
                t.service.state = .running
                  ∧ ((s.courses[d]).plan.autoFire = false → (t.courses[d]).state = .staged)
                  ∧ ((s.courses[d]).plan.autoFire = true → s.FourLive → (t.courses[d]).state = .fired
                      ∧ (t.courses[d]).countdown = (s.courses[d]).plan.countdown))
              ∧ ((s.courses[d]).state = .held ∨ (s.courses[d]).state = .passed
                  ∨ ((s.courses[d]).state = .fired
                    ∧ (1 < (s.courses[d]).countdown ∨ (s.courses[d]).openCount ≠ 0)) →
                (s.courses[d]).state ≠ .passed ∨ (s.courses[d]).openCount ≠ 0 →
                t.service.state = .stalled ∧ t.conditions.stall = true)))
      -- a STALLED service: the calling course clears, or the stall goes on
      ∧ (∀ c : CourseId, s.service.state = .stalled → s.service.calling? = some c →
          ((s.courses[c]).state = .fired → (s.courses[c]).countdown ≤ 1 → (s.courses[c]).openCount = 0 →
            t.service = { s.service with state := .running } ∧ t.conditions.cleared = true
              ∧ WritesServiceMirror s t
              ∧ ((s.courses[c]).plan.autoFire = false → (t.courses[c]).state = .staged)
              ∧ ((s.courses[c]).plan.autoFire = true → s.FourLive → (t.courses[c]).state = .fired
                  ∧ (t.courses[c]).countdown = (s.courses[c]).plan.countdown))
          ∧ ((s.courses[c]).state ≠ .fired ∨ 1 < (s.courses[c]).countdown ∨ (s.courses[c]).openCount ≠ 0 →
            t.service = s.service)))

/-- A tick at the ack timers, with no course FIRED: a running timer falls by 1, one that would reach 0 leaves its
expiry to that station, a station that took the tick early takes it no more, and a timer that a read or a bump has
reloaded first falls without an expiry (R105, R114, R115; the marks are log 16's, and a timer that falls to 0 so, and
that expires at the next tick, is log 26's). -/
def Obligations.TickLowersTimers : Prop :=
  ∀ (s : State) (order : TickOrder), s.rstLow = false → s.ticksDue ≠ 0 → s.part = .ready →
    (∀ c : CourseId, (s.courses[c]).state ≠ .fired) →
    (∀ st : StationId, (s.stations[st]).tick ≠ .owed ∧ (s.stations[st]).tick ≠ .owedSpared) →
    ∃ t, exec (.tick order) s = .next t
      ∧ ReportedFrom { s with responses := [], ticksDue := s.ticksDue - 1, stations := t.stations } t
      ∧ ∀ st : StationId, t.stations[st] =
          if (s.stations[st]).tick = .early then { (s.stations[st]) with tick := .clear }
          else if (s.stations[st]).tick = .spared then { (s.stations[st]) with
            tick := .clear, timer := (s.stations[st]).timer.map (fun k => k - 1) }
          else match (s.stations[st]).timer with
            | none => s.stations[st]
            | some k => if k ≤ 1 then { (s.stations[st]) with tick := .owed }
                else { (s.stations[st]) with timer := some (k - 1) }

-- ## Start-up and plans

/-- The setup reads: the first leads to the second; a failed one records OWN READ FAILED and leads to TRANSPARENT; a
setup block that fails one of the ten checks records SETUP INVALID with the number of the first that fails, and leads
to TRANSPARENT; a valid one is put in force and the plan it names is loaded, or found invalid by its address (R138,
R166, R178 to R180). -/
def Obligations.SetupIsReadAndChecked : Prop :=
  (∀ (s : State) (id : Nat) (m : MemRequest) (low bs : List Byte), s.part = .start →
    s.ReadInFlight id Owner.isSetupRead m → bs = low ++ s.bytesAt m →
    (s.loader = .setupLow → ∃ t, exec (.setupReadDone id .okay) s = .next t
        ∧ t.loader = .setupHigh (s.bytesAt m) ∧ t.part = .start ∧ t.setup = s.setup
        ∧ Issues s t (ownRequest .setupRead .read (s.anchor + 64) 64 []))
    ∧ (∀ a, a ≠ .okay → s.loader = .setupLow ∨ s.loader = .setupHigh low →
        ∃ t, exec (.setupReadDone id a) s = .next t
          ∧ t.part = .transparent ∧ t.loader = .idle ∧ t.setup = s.setup
          ∧ Logs s t { reason := .ownReadFailed, source := 63, sub := 1, addr := m.addr })
    ∧ (∀ check, s.loader = .setupHigh low → setupCheck s.straps bs (parseSetup bs) = some check →
        ∃ t, exec (.setupReadDone id .okay) s = .next t
          ∧ t.part = .transparent ∧ t.loader = .idle ∧ t.setup = s.setup
          ∧ Logs s t { reason := .setupInvalid, source := 63, sub := check, addr := s.anchor })
    ∧ (∀ u, s.loader = .setupHigh low → u = parseSetup bs → setupCheck s.straps bs u = none →
        ∃ t, exec (.setupReadDone id .okay) s = .next t ∧ t.setup = some u ∧ t.tickPhase = 0
          ∧ (badPlanAddr s.straps u u.planAddr = false → t.part = .start
              ∧ t.loader = .planning { origin := .startUp, addr := u.planAddr, pass := .check, line := 0
                                       header := noPlan }
              ∧ Issues s t (ownRequest .planRead .read u.planAddr 64 []))
          ∧ (badPlanAddr s.straps u u.planAddr = true → t.part = .idle ∧ t.loader = .idle
              ∧ Logs s t { reason := .planInvalid, source := 63, sub := 1, addr := u.planAddr })))
  ∧ (∀ (straps : BitVec 8) (bs : List Byte) (u : Setup) (fails : Nat → Prop), u = parseSetup bs →
    (fails 1 ↔ bs.take 4 ≠ [0x53#8, 0x51#8, 0x50#8, 0x4C#8]) →
    (fails 2 ↔ 12 < byteAt bs 40) →
    (fails 3 ↔ leNat bs 24 5 % 4096 ≠ 0 ∨ leNat bs 30 2 < 64 ∨ 4096 < leNat bs 30 2) →
    (fails 4 ↔ leNat bs 16 5 % 4096 ≠ 0 ∨ 6 < byteAt bs 21) →
    (fails 5 ↔ u.ps < 6 ∨ u.pt < 6 ∨ 19 < u.ps + 3 ∨ 19 < u.pt + 4 ∨ (u.ps ≤ u.pt + 4 ∧ u.pt ≤ u.ps + 3)) →
    (fails 6 ↔ leNat bs 32 5 % 2 ^ max (byteAt bs 37 + 4) (byteAt bs 38 + 5) ≠ 0) →
    (fails 7 ↔ u.guard0.enabled = true ∧ u.guard0.limit < u.guard0.base) →
    (fails 8 ↔ u.guard1.enabled = true ∧ u.guard1.limit < u.guard1.base) →
    (fails 9 ↔ ∃ r ∈ u.spans, 2 ^ 40 < r.base + r.size) →
    (fails 10 ↔ ¬Disjoint (anchorSpan straps :: u.spans)) →
    ∀ check, setupCheck straps bs u = some check ↔
      1 ≤ check ∧ check ≤ 10 ∧ fails check ∧ ∀ i, 1 ≤ i → i < check → ¬fails i)

/-- PLAN is taken: BAD STATE while a ticket is LIVE, the service runs or a course is live; BAD PLAN for its address;
else the load begins with line 0 (R180 to R182). -/
def Obligations.PlanIsTaken : Prop :=
  ∀ (s : State) (n : Bool) (addr : Address) (u : Setup), s.takesEntries = true → s.setup = some u →
    s.EntryReturns n (.plan addr.toNat) →
    (s.tickets ≠ [] ∨ s.service.state = .running ∨ s.service.state = .stalled ∨ 0 < s.liveCount →
        ∃ t, exec (.plan n addr) s = .next t ∧ EndsWith s s t n .badState 0)
    ∧ (s.tickets = [] → s.service.state = .none ∨ s.service.state = .ended → s.liveCount = 0 →
        (addr.toNat % 64 ≠ 0 ∨ inPlainOrGuard s.straps u { base := addr.toNat, size := 1088 } = false →
          ∃ t, exec (.plan n addr) s = .next t ∧ EndsWith s s t n .badPlan 0)
        ∧ (addr.toNat % 64 = 0 → inPlainOrGuard s.straps u { base := addr.toNat, size := 1088 } = true →
          ∃ t, exec (.plan n addr) s = .next t ∧ Runs s t n .plan
            ∧ t.loader = .planning { origin := .command, addr := addr.toNat, pass := .check, line := 0
                                     header := noPlan }
            ∧ Issues s t (ownRequest .planRead .read addr.toNat 64 [])
            ∧ t.plan = s.plan ∧ t.courses = s.courses ∧ t.stations = s.stations ∧ t.service = s.service))

/-- The lines of a plan: the check pass reads all seventeen without changing a table; the load pass puts each in
force; after its last line the service is empty, every mirror is written and the part is READY, and a PLAN command is
DONE. A failed check of the check pass is BAD PLAN for PLAN, which changes nothing, and PLAN INVALID with IDLE at
start-up. A failed read, and a line that fails its check in the load pass, is OWN READ FAILED with the line's address
and ends a PLAN with MEMORY ERROR: before anything has been replaced the plan in force stands, after it, and at
start-up, the part is IDLE with no plan; with stop-on-fatal the PLAN stays in progress in STOPPED. That no plan stands
as a dish table of base 0 and count 0 with course count 0 is the model's inference (log 10). The checks are 2 to 4 of
line 0, 5 to 7 of the planned courses of a course line, 8 to 13 of the stations of a station line, each by its bytes,
in table order; that of two records of one line which fail one check the lower-numbered one is named is the model's
choice (log 28) (R44, R71, R166, R174, R175, R177, R180 to R182). -/
def Obligations.PlanLinesLoad : Prop :=
  (∀ (s : State) (u : Setup) (l : PlanLoad) (id : Nat) (m : MemRequest) (bs : List Byte) (h : PlanHeader) (n : Bool),
    s.loader = .planning l → s.setup = some u → s.ReadInFlight id Owner.isPlanRead m → bs = s.bytesAt m →
    h = (if l.line = 0 then parseHeader bs else l.header) →
    (l.origin = .startUp ∧ s.part = .start)
      ∨ (l.origin = .command ∧ s.takesEntries = true ∧ s.intake.progress = some (.running n .plan)) →
    (l.pass = .check → firstFailing (planLineChecks s.straps u h l.line bs) = none →
      ∃ t l', exec (.planLineReadDone id .okay) s = .next t ∧ t.loader = .planning l'
        ∧ l' = (if l.line < 16 then { l with line := l.line + 1, header := h } else { l with pass := .load, line := 0 })
        ∧ Issues s t (ownRequest .planRead .read (l.addr + 64 * l'.line) 64 [])
        ∧ t.part = s.part ∧ t.plan = s.plan ∧ t.courses = s.courses ∧ t.stations = s.stations
        ∧ t.service = s.service ∧ t.intake = s.intake)
    ∧ (l.pass = .load → firstFailing (planLineChecks s.straps u h l.line bs) = none → l.line < 16 →
      ∃ t, exec (.planLineReadDone id .okay) s = .next t
        ∧ t.loader = .planning { l with line := l.line + 1, header := h }
        ∧ Issues s t (ownRequest .planRead .read (l.addr + 64 * (l.line + 1)) 64 [])
        ∧ (l.line = 0 → t.plan = parseHeader bs ∧ t.cache = [] ∧ t.courses = s.courses ∧ t.stations = s.stations)
        ∧ (∀ (c : CourseId), 1 ≤ l.line → l.line ≤ 8 → c.val / 2 + 1 = l.line →
            t.courses[c] = Course.fresh (if c.val < l.header.courseCount then parseCourse bs (32 * (c.val % 2))
              else unplannedCourse))
        ∧ (∀ (st : StationId), 9 ≤ l.line → st.val / 4 + 9 = l.line →
            t.stations[st] = Station.fresh (parseStation bs (16 * (st.val % 4))).toPlan))
    ∧ (l.pass = .load → firstFailing (planLineChecks s.straps u h l.line bs) = none → l.line = 16 →
      ∃ t, exec (.planLineReadDone id .okay) s = .next t ∧ t.part = .ready ∧ t.loader = .idle
        ∧ t.service.state = .none ∧ t.service.pending = none
        ∧ (∀ c : CourseId, WritesCourseMirror s t c) ∧ (∀ st : StationId, WritesStationMirror s t st)
        ∧ WritesServiceMirror s t
        ∧ (∀ st : StationId, st.val / 4 + 9 = l.line →
            t.stations[st] = Station.fresh (parseStation bs (16 * (st.val % 4))).toPlan)
        ∧ (l.origin = .command → Completes s t n .done 0))
    ∧ (∀ f, l.pass = .check → firstFailing (planLineChecks s.straps u h l.line bs) = some f →
      ∃ t, exec (.planLineReadDone id .okay) s = .next t ∧ t.loader = .idle
        ∧ (l.origin = .command → EndsWith s { s with loader := .idle } t n .badPlan 0)
        ∧ (l.origin = .startUp → t.part = .idle
            ∧ Logs s t { reason := .planInvalid, source := 63, sub := f.check, station := f.station
                         course := f.course, addr := l.addr + 64 * l.line }))
    ∧ (∀ a, a ≠ .okay ∨ (l.pass = .load ∧ ∃ f, firstFailing (planLineChecks s.straps u h l.line bs) = some f) →
      ∃ t, exec (.planLineReadDone id a) s = .next t
        ∧ Logs s t { reason := .ownReadFailed, source := 63, sub := 2, addr := l.addr + 64 * l.line }
        ∧ (l.origin = .startUp ∨ s.GoesOn → t.loader = .idle)
        ∧ (l.origin = .command → s.GoesOn → Completes s t n .memoryError 0)
        ∧ (l.origin = .command → s.GoesOn → l.pass = .check ∨ l.line = 0 →
            t.part = s.part ∧ t.plan = s.plan ∧ t.courses = s.courses ∧ t.stations = s.stations
              ∧ t.service = s.service ∧ t.cache = s.cache)
        ∧ (l.origin = .startUp ∨ (s.GoesOn ∧ l.pass = .load ∧ l.line ≠ 0) →
            t.part = .idle ∧ t.plan = { dishBase := 0, dishCount := 0, courseCount := 0 } ∧ t.cache = []
              ∧ t.service.state = .none
              ∧ (∀ c : CourseId, (t.courses[c]).state = .idle ∧ WritesCourseMirror s t c)
              ∧ (∀ st : StationId, (t.stations[st]).state = .closed ∧ (t.stations[st]).plan.capacity = 0
                  ∧ WritesStationMirror s t st))
        ∧ (l.origin = .command → s.stopsOnFatal = true → t.part = .stopped ∧ t.intake = s.intake
            ∧ t.plan = s.plan ∧ t.courses = s.courses ∧ t.stations = s.stations ∧ t.service = s.service)))
  ∧ (∀ (straps : BitVec 8) (u : Setup) (bs : List Byte) (fails : Nat → Prop),
    (fails 2 ↔ leNat bs 8 2 = 0 ∨ 1024 < leNat bs 8 2) →
    (fails 3 ↔ leNat bs 0 5 % 32 ≠ 0 ∨ ∃ a, leNat bs 0 5 ≤ a ∧ a < leNat bs 0 5 + leNat bs 8 2 * 32
      ∧ (2 ^ 40 ≤ a ∨ (anchorSpan straps).holds a = true ∨ u.poolSpan.holds a = true ∨ u.ringSpan.holds a = true
        ∨ u.windowSpan.holds a = true)) →
    (fails 4 ↔ byteAt bs 10 = 0 ∨ 16 < byteAt bs 10) →
    ∀ f, firstFailing (planLineChecks straps u (parseHeader bs) 0 bs) = some f ↔
      f.course = 0 ∧ f.station = 0 ∧ 2 ≤ f.check ∧ f.check ≤ 4 ∧ fails f.check
        ∧ ∀ i, 2 ≤ i → i < f.check → ¬fails i)
  ∧ (∀ (straps : BitVec 8) (u : Setup) (h : PlanHeader) (line : Nat) (bs : List Byte) (fails : Nat → Nat → Prop)
      (planned : Nat → Nat → Prop), 1 ≤ line → line ≤ 8 →
    (∀ c j, planned c j ↔ j < 2 ∧ c = 2 * (line - 1) + j ∧ c < h.courseCount) →
    (∀ c, fails 5 c ↔ ∃ j, planned c j ∧ leNat bs (32 * j) 2 = 0) →
    (∀ c, fails 6 c ↔ ∃ j, planned c j ∧ (byteAt bs (32 * j + 3) = 0 ∨ 4 < byteAt bs (32 * j + 3))) →
    (∀ c, fails 7 c ↔ ∃ j, planned c j ∧ ∃ w, w < 4 ∧ w < byteAt bs (32 * j + 3)
      ∧ 4095 < leNat bs (32 * j + 4 + 2 * w) 2) →
    ∀ f, firstFailing (planLineChecks straps u h line bs) = some f ↔
      f.station = 0 ∧ 5 ≤ f.check ∧ f.check ≤ 7 ∧ fails f.check f.course
        ∧ ∀ i c, 5 ≤ i → i < f.check ∨ (i = f.check ∧ c < f.course) → ¬fails i c)
  ∧ (∀ (straps : BitVec 8) (u : Setup) (h : PlanHeader) (line : Nat) (bs : List Byte) (fails : Nat → Nat → Prop)
      (place : Nat → Nat → Prop), 9 ≤ line → line ≤ 16 →
    (∀ st i, place st i ↔ 4 * (line - 9) ≤ st ∧ st < 4 * (line - 9) + 4 ∧ i = 16 * (st - 4 * (line - 9))) →
    (∀ st, fails 8 st ↔ ∃ i, place st i ∧ byteAt bs i ≠ 0 ∧ byteAt bs i ≠ 1) →
    (∀ st, fails 9 st ↔ ∃ i, place st i ∧ 16 < byteAt bs (i + 1)) →
    (∀ st, fails 10 st ↔ ∃ i, place st i ∧ (32 < byteAt bs (i + 2) ∨ byteAt bs (i + 2) = st)) →
    (∀ st, fails 11 st ↔ ∃ i, place st i ∧ byteAt bs (i + 3) = 0) →
    (∀ st, fails 12 st ↔ ∃ i, place st i ∧ 7 < byteAt bs (i + 4)) →
    (∀ st, fails 13 st ↔ ∃ i, place st i ∧ (byteAt bs (i + 5) = 0 ∨ 15 < byteAt bs (i + 5))) →
    ∀ f, firstFailing (planLineChecks straps u h line bs) = some f ↔
      f.course = 0 ∧ 8 ≤ f.check ∧ f.check ≤ 13 ∧ fails f.check f.station
        ∧ ∀ i st, 8 ≤ i → i < f.check ∨ (i = f.check ∧ st < f.station) → ¬fails i st)

-- ## Faults of the part's own requests

/-- An own write that is answered: DRAM takes it; a failed one records OWN WRITE FAILED with its sub-code, and the
address, course or station that its owner's rule names, but for a fault-log mirror or the notice word, which record
none (R69, R70, R80, R100, R134, R159, R166, R168, R170, R178). -/
def Obligations.OwnWriteIsAnswered : Prop :=
  ∀ (s : State) (id : Nat) (m : MemRequest) (o : OwnRequest) (a : Answer),
    s.port.issued.find? (fun x => x.id == id && x.owner.isOwnWrite) = some m → m.discard = false →
    m.owner = .own o → (∀ n ws k, s.intake.progress ≠ some (.running n (.fence ws k))) →
    (a = .okay → ∃ t, exec (.ownWriteDone id a) s = .next t
        ∧ ReportedFrom { s with responses := [], dram := serve m .okay s.dram } t)
    ∧ (a ≠ .okay → (∀ i, o ≠ .faultMirror i) → o ≠ .noticeWord → ∃ t f, exec (.ownWriteDone id a) s = .next t
        ∧ Logs s t f ∧ f.reason = .ownWriteFailed ∧ f.source = 63 ∧ f.line = 0
        ∧ (o = .identityWord ∨ o = .startHead ∨ o = .startTail → f.sub = 1 ∧ f.addr = m.addr)
        ∧ (o = .entryStatus → f.sub = 2 ∧ f.addr = m.addr - 2) ∧ (o = .headWord → f.sub = 3 ∧ f.addr = m.addr)
        ∧ (o = .finishedLog → f.sub = 4) ∧ (∀ c : CourseId, o = .courseMirror c → f.sub = 5 ∧ f.course = c.val)
        ∧ (o = .serviceMirror → f.sub = 6)
        ∧ (∀ st : StationId, o = .stationMirror st → f.sub = 7 ∧ f.station = st.val)
        ∧ (∀ st : StationId, o = .bumpClear st → f.sub = 8 ∧ f.station = st.val ∧ f.addr = m.addr)
        ∧ t.intake = s.intake ∧ t.tickets = s.tickets ∧ t.courses = s.courses ∧ t.stations = s.stations)
    ∧ (a ≠ .okay → (∃ i, o = .faultMirror i) ∨ o = .noticeWord → ∃ t, exec (.ownWriteDone id a) s = .next t
        ∧ ReportedFrom { s with responses := [], dram := serve m a s.dram } t)

-- ## Laws of the part

/-- DRAM, the Ticket Table and the Batch Pool keep their canonical form at every step. -/
def Obligations.StepKeepsCanonicalForm : Prop :=
  ∀ s t : State, s.DramCanonical → s.TablesRising → step s = .next t → t.DramCanonical ∧ t.TablesRising

/-- At most four courses are FIRED or HELD, at every step (R48). -/
def Obligations.StepKeepsFourLive : Prop :=
  ∀ s t : State, s.FourLive → step s = .next t → t.FourLive

/-- The setup in force passes checks 2 to 10 of the setup block and the intake head is a place of its ring, at every
step (R138, R152, R179). -/
def Obligations.StepKeepsSetupSound : Prop :=
  ∀ s t : State, s.SetupSound → step s = .next t → t.SetupSound

/-- A station's tokens in use are its occupied slots, at every step (R79). -/
def Obligations.StepKeepsTokensAreSlots : Prop :=
  ∀ s t : State, s.TokensAreSlots → step s = .next t → t.TokensAreSlots

/-- No two issued and unanswered requests touch one line, and no two unanswered requests have one name, at every step
(R125). -/
def Obligations.StepKeepsOneRequestPerLine : Prop :=
  ∀ s t : State, s.OneRequestPerLine → s.NamesDistinct → step s = .next t → t.OneRequestPerLine ∧ t.NamesDistinct

/-- No requester has more than 16 requests in flight, the Dish Cache holds at most 64 entries and no dish twice, and
no two valid fault records have the same reason and source, at every step (R35, R120, R165). -/
def Obligations.StepKeepsTablesBounded : Prop :=
  (∀ s t : State, s.ListsBounded → step s = .next t → t.ListsBounded)
    ∧ (∀ s t : State, s.CacheSound → step s = .next t → t.CacheSound)
    ∧ (∀ s t : State, s.FaultsDistinct → step s = .next t → t.FaultsDistinct)

/-- A byte of DRAM that no write in flight at the memory port covers is left as it is by every command; the writes in
flight are those issued and unanswered and those that RST has left over (log 12). A write that is answered OKAY leaves
its data in its enabled bytes, and every other byte as it was (R124, R134). -/
def Obligations.DramChangesOnlyUnderWrites : Prop :=
  (∀ (c : Instr) (s t : State) (a : Nat), exec c s = .next t →
    (∀ m ∈ s.port.issued ++ s.port.orphans, m.kind = .write → a < m.addr ∨ m.addr + m.enables.length ≤ a) →
    Memory.read a t.dram = Memory.read a s.dram)
  ∧ (∀ (s : State) (id : Nat) (c : Instr) (owns : Owner → Bool) (m : MemRequest),
    (c = .forwardedResponse id .okay ∧ owns = Owner.isForwarded)
      ∨ (c = .redirectedBumpDone id .okay ∧ owns = Owner.isBump)
      ∨ (c = .ownWriteDone id .okay ∧ owns = Owner.isOwnWrite) →
    s.port.issued.find? (fun x => x.id == id && owns x.owner) = some m → m.kind = .write → s.DramCanonical →
    ∃ t, exec c s = .next t
      ∧ (∀ (i : Nat) (d : Byte), m.enables[i]? = some true → m.data[i]? = some d →
          Memory.read (m.addr + i) t.dram = d)
      ∧ (∀ a, (∀ i, m.addr + i = a → m.enables[i]? = some true → m.data[i]? = none) →
          Memory.read a t.dram = Memory.read a s.dram))
end

