-- ==== Sys2Proof/Laws/Checks.lean ====
section
/-! SUPPORT. The checks of what software writes: the first that fails (R32, R179, R180), when ranges share an address,
and what a setup block that passes its check gives (R179). -/

namespace Sys2Proof.Machine

-- ## The first failing check

theorem firstFailing_none {α : Type} {l : List (α × Bool)} : firstFailing l = none ↔ ∀ e ∈ l, e.2 = false := by
  induction l with
  | nil => simp [firstFailing]
  | cons e rest ih =>
    obtain ⟨a, fails⟩ := e
    cases fails <;> simp [firstFailing, ih]

/-- The check that is reported is the first of the list whose condition holds. -/
theorem firstFailing_some {α : Type} {l : List (α × Bool)} {a : α} :
    firstFailing l = some a ↔ ∃ before rest, l = before ++ (a, true) :: rest ∧ ∀ e ∈ before, e.2 = false := by
  induction l with
  | nil => simp [firstFailing]
  | cons e l ih =>
    obtain ⟨x, fails⟩ := e
    cases fails
    · simp only [firstFailing, Bool.false_eq_true, if_false, ih]
      constructor
      · rintro ⟨before, rest, rfl, h⟩
        exact ⟨(x, false) :: before, rest, rfl, by simpa using h⟩
      · rintro ⟨before, rest, h, k⟩
        cases before with
        | nil => simp at h
        | cons y before =>
          obtain ⟨rfl, rfl⟩ := List.cons.inj h
          exact ⟨before, rest, rfl, fun e m => k e (List.mem_cons_of_mem _ m)⟩
    · simp only [firstFailing, if_true]
      constructor
      · rintro h
        cases h
        exact ⟨[], l, rfl, by simp⟩
      · rintro ⟨before, rest, h, k⟩
        cases before with
        | nil => simp_all
        | cons y before =>
          obtain ⟨rfl, -⟩ := List.cons.inj h
          exact absurd (k (x, true) List.mem_cons_self) (by simp)

-- ## Ranges

/-- Two ranges meet when they share an address. -/
theorem Span.meets_iff (r q : Span) : r.meets q = true ↔ ∃ a, r.holds a = true ∧ q.holds a = true := by
  simp only [Span.meets, Span.holds, Bool.and_eq_true, decide_eq_true_eq]
  constructor
  · rintro ⟨⟨⟨h1, h2⟩, h3⟩, h4⟩
    exact ⟨max r.base q.base, ⟨by omega, by omega⟩, by omega, by omega⟩
  · rintro ⟨a, ⟨h1, h2⟩, h3, h4⟩
    refine ⟨⟨⟨?_, ?_⟩, ?_⟩, ?_⟩ <;> omega

/-- Check 10 fails when two of the ranges share an address. -/
theorem anyMeet_iff (rs : List Span) : anyMeet rs = false ↔ Disjoint rs := by
  unfold Disjoint
  induction rs with
  | nil => simp [anyMeet]
  | cons r rs ih =>
    simp only [anyMeet, Bool.or_eq_false_iff, List.pairwise_cons, ih]
    refine and_congr ?_ Iff.rfl
    rw [List.any_eq_false]
    refine forall₂_congr fun q _ => ?_
    rw [Span.meets_iff]
    exact not_exists

-- ## The setup block

/-- A setup block that passes its check: checks 2 to 10 of R179, in the words of the law. -/
theorem setupCheck_none {straps : BitVec 8} {bs : List Byte} {u : Setup} (h : setupCheck straps bs u = none) :
    u.divider ≤ 12 ∧ u.ringCode ≤ 6 ∧ u.poolBase % 4096 = 0 ∧ 64 ≤ u.lineCount ∧ u.lineCount ≤ 4096
      ∧ u.ringBase % 4096 = 0 ∧ u.badFields = false ∧ u.windowBase % u.windowSize = 0
      ∧ (u.guard0.enabled = true → u.guard0.base ≤ u.guard0.limit)
      ∧ (u.guard1.enabled = true → u.guard1.base ≤ u.guard1.limit)
      ∧ (∀ r ∈ u.spans, r.base + r.size ≤ 2 ^ 40)
      ∧ Disjoint (anchorSpan straps :: u.spans) := by
  have h := firstFailing_none.1 h
  simp only [List.forall_mem_cons, Bool.or_eq_false_iff, Bool.and_eq_false_imp, bne_eq_false_iff_eq,
    decide_eq_false_iff_not, List.any_eq_false, Bool.not_eq_true', Span.inAddresses, anyMeet_iff, not_lt] at h
  obtain ⟨-, divider, ⟨⟨pool, lines⟩, most⟩, ⟨ring, code⟩, fields, window, low, high, inside, apart, -⟩ := h
  exact ⟨divider, code, pool, lines, most, ring, fields, window, low, high,
    fun r m => by simpa using inside r m, apart⟩

end Sys2Proof.Machine
end

