-- ==== Sys2Proof/Laws/State.lean ====
section
/-! SUPPORT. What each update of State does to each field, so that no proof unfolds a record update. -/

namespace Sys2Proof.Machine

-- ## issue

@[simp] theorem State.issue_pending (m : MemRequest) (s : State) :
    (s.issue m).pending = s.pending := rfl
@[simp] theorem State.issue_part (m : MemRequest) (s : State) :
    (s.issue m).part = s.part := rfl
@[simp] theorem State.issue_rstLow (m : MemRequest) (s : State) :
    (s.issue m).rstLow = s.rstLow := rfl
@[simp] theorem State.issue_straps (m : MemRequest) (s : State) :
    (s.issue m).straps = s.straps := rfl
@[simp] theorem State.issue_setup (m : MemRequest) (s : State) :
    (s.issue m).setup = s.setup := rfl
@[simp] theorem State.issue_plan (m : MemRequest) (s : State) :
    (s.issue m).plan = s.plan := rfl
@[simp] theorem State.issue_loader (m : MemRequest) (s : State) :
    (s.issue m).loader = s.loader := rfl
@[simp] theorem State.issue_latched (m : MemRequest) (s : State) :
    (s.issue m).latched = s.latched := rfl
@[simp] theorem State.issue_faults (m : MemRequest) (s : State) :
    (s.issue m).faults = s.faults := rfl
@[simp] theorem State.issue_overflow (m : MemRequest) (s : State) :
    (s.issue m).overflow = s.overflow := rfl
@[simp] theorem State.issue_conditions (m : MemRequest) (s : State) :
    (s.issue m).conditions = s.conditions := rfl
@[simp] theorem State.issue_noticeShown (m : MemRequest) (s : State) :
    (s.issue m).noticeShown = s.noticeShown := rfl
@[simp] theorem State.issue_flights (m : MemRequest) (s : State) :
    (s.issue m).flights = s.flights := rfl
@[simp] theorem State.issue_portWaiting (m : MemRequest) (s : State) :
    (s.issue m).portWaiting = s.portWaiting := rfl
@[simp] theorem State.issue_responses (m : MemRequest) (s : State) :
    (s.issue m).responses = s.responses := rfl
@[simp] theorem State.issue_arrivals (m : MemRequest) (s : State) :
    (s.issue m).arrivals = s.arrivals := rfl
@[simp] theorem State.issue_port (m : MemRequest) (s : State) :
    (s.issue m).port = s.port.enqueue m := rfl
@[simp] theorem State.issue_assemblies (m : MemRequest) (s : State) :
    (s.issue m).assemblies = s.assemblies := rfl
@[simp] theorem State.issue_dram (m : MemRequest) (s : State) :
    (s.issue m).dram = s.dram := rfl
@[simp] theorem State.issue_tickets (m : MemRequest) (s : State) :
    (s.issue m).tickets = s.tickets := rfl
@[simp] theorem State.issue_locks (m : MemRequest) (s : State) :
    (s.issue m).locks = s.locks := rfl
@[simp] theorem State.issue_pool (m : MemRequest) (s : State) :
    (s.issue m).pool = s.pool := rfl
@[simp] theorem State.issue_logIndex (m : MemRequest) (s : State) :
    (s.issue m).logIndex = s.logIndex := rfl
@[simp] theorem State.issue_cache (m : MemRequest) (s : State) :
    (s.issue m).cache = s.cache := rfl
@[simp] theorem State.issue_courses (m : MemRequest) (s : State) :
    (s.issue m).courses = s.courses := rfl
@[simp] theorem State.issue_service (m : MemRequest) (s : State) :
    (s.issue m).service = s.service := rfl
@[simp] theorem State.issue_tickPhase (m : MemRequest) (s : State) :
    (s.issue m).tickPhase = s.tickPhase := rfl
@[simp] theorem State.issue_blink (m : MemRequest) (s : State) :
    (s.issue m).blink = s.blink := rfl
@[simp] theorem State.issue_ticksDue (m : MemRequest) (s : State) :
    (s.issue m).ticksDue = s.ticksDue := rfl
@[simp] theorem State.issue_stations (m : MemRequest) (s : State) :
    (s.issue m).stations = s.stations := rfl
@[simp] theorem State.issue_intake (m : MemRequest) (s : State) :
    (s.issue m).intake = s.intake := rfl
@[simp] theorem State.issue_marks (m : MemRequest) (s : State) :
    (s.issue m).marks = s.marks := rfl

-- ## updCourse

@[simp] theorem State.updCourse_pending (c : CourseId) (f : Course → Course) (s : State) :
    (s.updCourse c f).pending = s.pending := rfl
@[simp] theorem State.updCourse_part (c : CourseId) (f : Course → Course) (s : State) :
    (s.updCourse c f).part = s.part := rfl
@[simp] theorem State.updCourse_rstLow (c : CourseId) (f : Course → Course) (s : State) :
    (s.updCourse c f).rstLow = s.rstLow := rfl
@[simp] theorem State.updCourse_straps (c : CourseId) (f : Course → Course) (s : State) :
    (s.updCourse c f).straps = s.straps := rfl
@[simp] theorem State.updCourse_setup (c : CourseId) (f : Course → Course) (s : State) :
    (s.updCourse c f).setup = s.setup := rfl
@[simp] theorem State.updCourse_plan (c : CourseId) (f : Course → Course) (s : State) :
    (s.updCourse c f).plan = s.plan := rfl
@[simp] theorem State.updCourse_loader (c : CourseId) (f : Course → Course) (s : State) :
    (s.updCourse c f).loader = s.loader := rfl
@[simp] theorem State.updCourse_latched (c : CourseId) (f : Course → Course) (s : State) :
    (s.updCourse c f).latched = s.latched := rfl
@[simp] theorem State.updCourse_faults (c : CourseId) (f : Course → Course) (s : State) :
    (s.updCourse c f).faults = s.faults := rfl
@[simp] theorem State.updCourse_overflow (c : CourseId) (f : Course → Course) (s : State) :
    (s.updCourse c f).overflow = s.overflow := rfl
@[simp] theorem State.updCourse_conditions (c : CourseId) (f : Course → Course) (s : State) :
    (s.updCourse c f).conditions = s.conditions := rfl
@[simp] theorem State.updCourse_noticeShown (c : CourseId) (f : Course → Course) (s : State) :
    (s.updCourse c f).noticeShown = s.noticeShown := rfl
@[simp] theorem State.updCourse_flights (c : CourseId) (f : Course → Course) (s : State) :
    (s.updCourse c f).flights = s.flights := rfl
@[simp] theorem State.updCourse_portWaiting (c : CourseId) (f : Course → Course) (s : State) :
    (s.updCourse c f).portWaiting = s.portWaiting := rfl
@[simp] theorem State.updCourse_responses (c : CourseId) (f : Course → Course) (s : State) :
    (s.updCourse c f).responses = s.responses := rfl
@[simp] theorem State.updCourse_arrivals (c : CourseId) (f : Course → Course) (s : State) :
    (s.updCourse c f).arrivals = s.arrivals := rfl
@[simp] theorem State.updCourse_port (c : CourseId) (f : Course → Course) (s : State) :
    (s.updCourse c f).port = s.port := rfl
@[simp] theorem State.updCourse_assemblies (c : CourseId) (f : Course → Course) (s : State) :
    (s.updCourse c f).assemblies = s.assemblies := rfl
@[simp] theorem State.updCourse_dram (c : CourseId) (f : Course → Course) (s : State) :
    (s.updCourse c f).dram = s.dram := rfl
@[simp] theorem State.updCourse_tickets (c : CourseId) (f : Course → Course) (s : State) :
    (s.updCourse c f).tickets = s.tickets := rfl
@[simp] theorem State.updCourse_locks (c : CourseId) (f : Course → Course) (s : State) :
    (s.updCourse c f).locks = s.locks := rfl
@[simp] theorem State.updCourse_pool (c : CourseId) (f : Course → Course) (s : State) :
    (s.updCourse c f).pool = s.pool := rfl
@[simp] theorem State.updCourse_logIndex (c : CourseId) (f : Course → Course) (s : State) :
    (s.updCourse c f).logIndex = s.logIndex := rfl
@[simp] theorem State.updCourse_cache (c : CourseId) (f : Course → Course) (s : State) :
    (s.updCourse c f).cache = s.cache := rfl
@[simp] theorem State.updCourse_courses (c : CourseId) (f : Course → Course) (s : State) :
    (s.updCourse c f).courses = s.courses.set c (f s.courses[c]) := rfl
@[simp] theorem State.updCourse_service (c : CourseId) (f : Course → Course) (s : State) :
    (s.updCourse c f).service = s.service := rfl
@[simp] theorem State.updCourse_tickPhase (c : CourseId) (f : Course → Course) (s : State) :
    (s.updCourse c f).tickPhase = s.tickPhase := rfl
@[simp] theorem State.updCourse_blink (c : CourseId) (f : Course → Course) (s : State) :
    (s.updCourse c f).blink = s.blink := rfl
@[simp] theorem State.updCourse_ticksDue (c : CourseId) (f : Course → Course) (s : State) :
    (s.updCourse c f).ticksDue = s.ticksDue := rfl
@[simp] theorem State.updCourse_stations (c : CourseId) (f : Course → Course) (s : State) :
    (s.updCourse c f).stations = s.stations := rfl
@[simp] theorem State.updCourse_intake (c : CourseId) (f : Course → Course) (s : State) :
    (s.updCourse c f).intake = s.intake := rfl

-- ## updStation

@[simp] theorem State.updStation_pending (st : StationId) (f : Station → Station) (s : State) :
    (s.updStation st f).pending = s.pending := rfl
@[simp] theorem State.updStation_part (st : StationId) (f : Station → Station) (s : State) :
    (s.updStation st f).part = s.part := rfl
@[simp] theorem State.updStation_rstLow (st : StationId) (f : Station → Station) (s : State) :
    (s.updStation st f).rstLow = s.rstLow := rfl
@[simp] theorem State.updStation_straps (st : StationId) (f : Station → Station) (s : State) :
    (s.updStation st f).straps = s.straps := rfl
@[simp] theorem State.updStation_setup (st : StationId) (f : Station → Station) (s : State) :
    (s.updStation st f).setup = s.setup := rfl
@[simp] theorem State.updStation_plan (st : StationId) (f : Station → Station) (s : State) :
    (s.updStation st f).plan = s.plan := rfl
@[simp] theorem State.updStation_loader (st : StationId) (f : Station → Station) (s : State) :
    (s.updStation st f).loader = s.loader := rfl
@[simp] theorem State.updStation_latched (st : StationId) (f : Station → Station) (s : State) :
    (s.updStation st f).latched = s.latched := rfl
@[simp] theorem State.updStation_faults (st : StationId) (f : Station → Station) (s : State) :
    (s.updStation st f).faults = s.faults := rfl
@[simp] theorem State.updStation_overflow (st : StationId) (f : Station → Station) (s : State) :
    (s.updStation st f).overflow = s.overflow := rfl
@[simp] theorem State.updStation_conditions (st : StationId) (f : Station → Station) (s : State) :
    (s.updStation st f).conditions = s.conditions := rfl
@[simp] theorem State.updStation_noticeShown (st : StationId) (f : Station → Station) (s : State) :
    (s.updStation st f).noticeShown = s.noticeShown := rfl
@[simp] theorem State.updStation_flights (st : StationId) (f : Station → Station) (s : State) :
    (s.updStation st f).flights = s.flights := rfl
@[simp] theorem State.updStation_portWaiting (st : StationId) (f : Station → Station) (s : State) :
    (s.updStation st f).portWaiting = s.portWaiting := rfl
@[simp] theorem State.updStation_responses (st : StationId) (f : Station → Station) (s : State) :
    (s.updStation st f).responses = s.responses := rfl
@[simp] theorem State.updStation_arrivals (st : StationId) (f : Station → Station) (s : State) :
    (s.updStation st f).arrivals = s.arrivals := rfl
@[simp] theorem State.updStation_port (st : StationId) (f : Station → Station) (s : State) :
    (s.updStation st f).port = s.port := rfl
@[simp] theorem State.updStation_assemblies (st : StationId) (f : Station → Station) (s : State) :
    (s.updStation st f).assemblies = s.assemblies := rfl
@[simp] theorem State.updStation_dram (st : StationId) (f : Station → Station) (s : State) :
    (s.updStation st f).dram = s.dram := rfl
@[simp] theorem State.updStation_tickets (st : StationId) (f : Station → Station) (s : State) :
    (s.updStation st f).tickets = s.tickets := rfl
@[simp] theorem State.updStation_locks (st : StationId) (f : Station → Station) (s : State) :
    (s.updStation st f).locks = s.locks := rfl
@[simp] theorem State.updStation_pool (st : StationId) (f : Station → Station) (s : State) :
    (s.updStation st f).pool = s.pool := rfl
@[simp] theorem State.updStation_logIndex (st : StationId) (f : Station → Station) (s : State) :
    (s.updStation st f).logIndex = s.logIndex := rfl
@[simp] theorem State.updStation_cache (st : StationId) (f : Station → Station) (s : State) :
    (s.updStation st f).cache = s.cache := rfl
@[simp] theorem State.updStation_courses (st : StationId) (f : Station → Station) (s : State) :
    (s.updStation st f).courses = s.courses := rfl
@[simp] theorem State.updStation_service (st : StationId) (f : Station → Station) (s : State) :
    (s.updStation st f).service = s.service := rfl
@[simp] theorem State.updStation_tickPhase (st : StationId) (f : Station → Station) (s : State) :
    (s.updStation st f).tickPhase = s.tickPhase := rfl
@[simp] theorem State.updStation_blink (st : StationId) (f : Station → Station) (s : State) :
    (s.updStation st f).blink = s.blink := rfl
@[simp] theorem State.updStation_ticksDue (st : StationId) (f : Station → Station) (s : State) :
    (s.updStation st f).ticksDue = s.ticksDue := rfl
@[simp] theorem State.updStation_stations (st : StationId) (f : Station → Station) (s : State) :
    (s.updStation st f).stations = s.stations.set st (f s.stations[st]) := rfl
@[simp] theorem State.updStation_intake (st : StationId) (f : Station → Station) (s : State) :
    (s.updStation st f).intake = s.intake := rfl

-- ## updService

@[simp] theorem State.updService_pending (f : Service → Service) (s : State) :
    (s.updService f).pending = s.pending := rfl
@[simp] theorem State.updService_part (f : Service → Service) (s : State) :
    (s.updService f).part = s.part := rfl
@[simp] theorem State.updService_rstLow (f : Service → Service) (s : State) :
    (s.updService f).rstLow = s.rstLow := rfl
@[simp] theorem State.updService_straps (f : Service → Service) (s : State) :
    (s.updService f).straps = s.straps := rfl
@[simp] theorem State.updService_setup (f : Service → Service) (s : State) :
    (s.updService f).setup = s.setup := rfl
@[simp] theorem State.updService_plan (f : Service → Service) (s : State) :
    (s.updService f).plan = s.plan := rfl
@[simp] theorem State.updService_loader (f : Service → Service) (s : State) :
    (s.updService f).loader = s.loader := rfl
@[simp] theorem State.updService_latched (f : Service → Service) (s : State) :
    (s.updService f).latched = s.latched := rfl
@[simp] theorem State.updService_faults (f : Service → Service) (s : State) :
    (s.updService f).faults = s.faults := rfl
@[simp] theorem State.updService_overflow (f : Service → Service) (s : State) :
    (s.updService f).overflow = s.overflow := rfl
@[simp] theorem State.updService_conditions (f : Service → Service) (s : State) :
    (s.updService f).conditions = s.conditions := rfl
@[simp] theorem State.updService_noticeShown (f : Service → Service) (s : State) :
    (s.updService f).noticeShown = s.noticeShown := rfl
@[simp] theorem State.updService_flights (f : Service → Service) (s : State) :
    (s.updService f).flights = s.flights := rfl
@[simp] theorem State.updService_portWaiting (f : Service → Service) (s : State) :
    (s.updService f).portWaiting = s.portWaiting := rfl
@[simp] theorem State.updService_responses (f : Service → Service) (s : State) :
    (s.updService f).responses = s.responses := rfl
@[simp] theorem State.updService_arrivals (f : Service → Service) (s : State) :
    (s.updService f).arrivals = s.arrivals := rfl
@[simp] theorem State.updService_port (f : Service → Service) (s : State) :
    (s.updService f).port = s.port := rfl
@[simp] theorem State.updService_assemblies (f : Service → Service) (s : State) :
    (s.updService f).assemblies = s.assemblies := rfl
@[simp] theorem State.updService_dram (f : Service → Service) (s : State) :
    (s.updService f).dram = s.dram := rfl
@[simp] theorem State.updService_tickets (f : Service → Service) (s : State) :
    (s.updService f).tickets = s.tickets := rfl
@[simp] theorem State.updService_locks (f : Service → Service) (s : State) :
    (s.updService f).locks = s.locks := rfl
@[simp] theorem State.updService_pool (f : Service → Service) (s : State) :
    (s.updService f).pool = s.pool := rfl
@[simp] theorem State.updService_logIndex (f : Service → Service) (s : State) :
    (s.updService f).logIndex = s.logIndex := rfl
@[simp] theorem State.updService_cache (f : Service → Service) (s : State) :
    (s.updService f).cache = s.cache := rfl
@[simp] theorem State.updService_courses (f : Service → Service) (s : State) :
    (s.updService f).courses = s.courses := rfl
@[simp] theorem State.updService_service (f : Service → Service) (s : State) :
    (s.updService f).service = f s.service := rfl
@[simp] theorem State.updService_tickPhase (f : Service → Service) (s : State) :
    (s.updService f).tickPhase = s.tickPhase := rfl
@[simp] theorem State.updService_blink (f : Service → Service) (s : State) :
    (s.updService f).blink = s.blink := rfl
@[simp] theorem State.updService_ticksDue (f : Service → Service) (s : State) :
    (s.updService f).ticksDue = s.ticksDue := rfl
@[simp] theorem State.updService_stations (f : Service → Service) (s : State) :
    (s.updService f).stations = s.stations := rfl
@[simp] theorem State.updService_intake (f : Service → Service) (s : State) :
    (s.updService f).intake = s.intake := rfl
@[simp] theorem State.updService_marks (f : Service → Service) (s : State) :
    (s.updService f).marks = { s.marks with service := true } := rfl

-- ## updBatch

@[simp] theorem State.updBatch_pending (r : Nat) (f : Batch → Batch) (s : State) :
    (s.updBatch r f).pending = s.pending := rfl
@[simp] theorem State.updBatch_part (r : Nat) (f : Batch → Batch) (s : State) :
    (s.updBatch r f).part = s.part := rfl
@[simp] theorem State.updBatch_rstLow (r : Nat) (f : Batch → Batch) (s : State) :
    (s.updBatch r f).rstLow = s.rstLow := rfl
@[simp] theorem State.updBatch_straps (r : Nat) (f : Batch → Batch) (s : State) :
    (s.updBatch r f).straps = s.straps := rfl
@[simp] theorem State.updBatch_setup (r : Nat) (f : Batch → Batch) (s : State) :
    (s.updBatch r f).setup = s.setup := rfl
@[simp] theorem State.updBatch_plan (r : Nat) (f : Batch → Batch) (s : State) :
    (s.updBatch r f).plan = s.plan := rfl
@[simp] theorem State.updBatch_loader (r : Nat) (f : Batch → Batch) (s : State) :
    (s.updBatch r f).loader = s.loader := rfl
@[simp] theorem State.updBatch_latched (r : Nat) (f : Batch → Batch) (s : State) :
    (s.updBatch r f).latched = s.latched := rfl
@[simp] theorem State.updBatch_faults (r : Nat) (f : Batch → Batch) (s : State) :
    (s.updBatch r f).faults = s.faults := rfl
@[simp] theorem State.updBatch_overflow (r : Nat) (f : Batch → Batch) (s : State) :
    (s.updBatch r f).overflow = s.overflow := rfl
@[simp] theorem State.updBatch_conditions (r : Nat) (f : Batch → Batch) (s : State) :
    (s.updBatch r f).conditions = s.conditions := rfl
@[simp] theorem State.updBatch_noticeShown (r : Nat) (f : Batch → Batch) (s : State) :
    (s.updBatch r f).noticeShown = s.noticeShown := rfl
@[simp] theorem State.updBatch_flights (r : Nat) (f : Batch → Batch) (s : State) :
    (s.updBatch r f).flights = s.flights := rfl
@[simp] theorem State.updBatch_portWaiting (r : Nat) (f : Batch → Batch) (s : State) :
    (s.updBatch r f).portWaiting = s.portWaiting := rfl
@[simp] theorem State.updBatch_responses (r : Nat) (f : Batch → Batch) (s : State) :
    (s.updBatch r f).responses = s.responses := rfl
@[simp] theorem State.updBatch_arrivals (r : Nat) (f : Batch → Batch) (s : State) :
    (s.updBatch r f).arrivals = s.arrivals := rfl
@[simp] theorem State.updBatch_port (r : Nat) (f : Batch → Batch) (s : State) :
    (s.updBatch r f).port = s.port := rfl
@[simp] theorem State.updBatch_assemblies (r : Nat) (f : Batch → Batch) (s : State) :
    (s.updBatch r f).assemblies = s.assemblies := rfl
@[simp] theorem State.updBatch_dram (r : Nat) (f : Batch → Batch) (s : State) :
    (s.updBatch r f).dram = s.dram := rfl
@[simp] theorem State.updBatch_tickets (r : Nat) (f : Batch → Batch) (s : State) :
    (s.updBatch r f).tickets = s.tickets := rfl
@[simp] theorem State.updBatch_locks (r : Nat) (f : Batch → Batch) (s : State) :
    (s.updBatch r f).locks = s.locks := rfl
@[simp] theorem State.updBatch_pool (r : Nat) (f : Batch → Batch) (s : State) :
    (s.updBatch r f).pool = Table.update r f s.pool := rfl
@[simp] theorem State.updBatch_logIndex (r : Nat) (f : Batch → Batch) (s : State) :
    (s.updBatch r f).logIndex = s.logIndex := rfl
@[simp] theorem State.updBatch_cache (r : Nat) (f : Batch → Batch) (s : State) :
    (s.updBatch r f).cache = s.cache := rfl
@[simp] theorem State.updBatch_courses (r : Nat) (f : Batch → Batch) (s : State) :
    (s.updBatch r f).courses = s.courses := rfl
@[simp] theorem State.updBatch_service (r : Nat) (f : Batch → Batch) (s : State) :
    (s.updBatch r f).service = s.service := rfl
@[simp] theorem State.updBatch_tickPhase (r : Nat) (f : Batch → Batch) (s : State) :
    (s.updBatch r f).tickPhase = s.tickPhase := rfl
@[simp] theorem State.updBatch_blink (r : Nat) (f : Batch → Batch) (s : State) :
    (s.updBatch r f).blink = s.blink := rfl
@[simp] theorem State.updBatch_ticksDue (r : Nat) (f : Batch → Batch) (s : State) :
    (s.updBatch r f).ticksDue = s.ticksDue := rfl
@[simp] theorem State.updBatch_stations (r : Nat) (f : Batch → Batch) (s : State) :
    (s.updBatch r f).stations = s.stations := rfl
@[simp] theorem State.updBatch_intake (r : Nat) (f : Batch → Batch) (s : State) :
    (s.updBatch r f).intake = s.intake := rfl
@[simp] theorem State.updBatch_marks (r : Nat) (f : Batch → Batch) (s : State) :
    (s.updBatch r f).marks = s.marks := rfl

-- ## updTicket

@[simp] theorem State.updTicket_pending (e : Nat) (f : Ticket → Ticket) (s : State) :
    (s.updTicket e f).pending = s.pending := rfl
@[simp] theorem State.updTicket_part (e : Nat) (f : Ticket → Ticket) (s : State) :
    (s.updTicket e f).part = s.part := rfl
@[simp] theorem State.updTicket_rstLow (e : Nat) (f : Ticket → Ticket) (s : State) :
    (s.updTicket e f).rstLow = s.rstLow := rfl
@[simp] theorem State.updTicket_straps (e : Nat) (f : Ticket → Ticket) (s : State) :
    (s.updTicket e f).straps = s.straps := rfl
@[simp] theorem State.updTicket_setup (e : Nat) (f : Ticket → Ticket) (s : State) :
    (s.updTicket e f).setup = s.setup := rfl
@[simp] theorem State.updTicket_plan (e : Nat) (f : Ticket → Ticket) (s : State) :
    (s.updTicket e f).plan = s.plan := rfl
@[simp] theorem State.updTicket_loader (e : Nat) (f : Ticket → Ticket) (s : State) :
    (s.updTicket e f).loader = s.loader := rfl
@[simp] theorem State.updTicket_latched (e : Nat) (f : Ticket → Ticket) (s : State) :
    (s.updTicket e f).latched = s.latched := rfl
@[simp] theorem State.updTicket_faults (e : Nat) (f : Ticket → Ticket) (s : State) :
    (s.updTicket e f).faults = s.faults := rfl
@[simp] theorem State.updTicket_overflow (e : Nat) (f : Ticket → Ticket) (s : State) :
    (s.updTicket e f).overflow = s.overflow := rfl
@[simp] theorem State.updTicket_conditions (e : Nat) (f : Ticket → Ticket) (s : State) :
    (s.updTicket e f).conditions = s.conditions := rfl
@[simp] theorem State.updTicket_noticeShown (e : Nat) (f : Ticket → Ticket) (s : State) :
    (s.updTicket e f).noticeShown = s.noticeShown := rfl
@[simp] theorem State.updTicket_flights (e : Nat) (f : Ticket → Ticket) (s : State) :
    (s.updTicket e f).flights = s.flights := rfl
@[simp] theorem State.updTicket_portWaiting (e : Nat) (f : Ticket → Ticket) (s : State) :
    (s.updTicket e f).portWaiting = s.portWaiting := rfl
@[simp] theorem State.updTicket_responses (e : Nat) (f : Ticket → Ticket) (s : State) :
    (s.updTicket e f).responses = s.responses := rfl
@[simp] theorem State.updTicket_arrivals (e : Nat) (f : Ticket → Ticket) (s : State) :
    (s.updTicket e f).arrivals = s.arrivals := rfl
@[simp] theorem State.updTicket_port (e : Nat) (f : Ticket → Ticket) (s : State) :
    (s.updTicket e f).port = s.port := rfl
@[simp] theorem State.updTicket_assemblies (e : Nat) (f : Ticket → Ticket) (s : State) :
    (s.updTicket e f).assemblies = s.assemblies := rfl
@[simp] theorem State.updTicket_dram (e : Nat) (f : Ticket → Ticket) (s : State) :
    (s.updTicket e f).dram = s.dram := rfl
@[simp] theorem State.updTicket_tickets (e : Nat) (f : Ticket → Ticket) (s : State) :
    (s.updTicket e f).tickets = Table.update e f s.tickets := rfl
@[simp] theorem State.updTicket_locks (e : Nat) (f : Ticket → Ticket) (s : State) :
    (s.updTicket e f).locks = s.locks := rfl
@[simp] theorem State.updTicket_pool (e : Nat) (f : Ticket → Ticket) (s : State) :
    (s.updTicket e f).pool = s.pool := rfl
@[simp] theorem State.updTicket_logIndex (e : Nat) (f : Ticket → Ticket) (s : State) :
    (s.updTicket e f).logIndex = s.logIndex := rfl
@[simp] theorem State.updTicket_cache (e : Nat) (f : Ticket → Ticket) (s : State) :
    (s.updTicket e f).cache = s.cache := rfl
@[simp] theorem State.updTicket_courses (e : Nat) (f : Ticket → Ticket) (s : State) :
    (s.updTicket e f).courses = s.courses := rfl
@[simp] theorem State.updTicket_service (e : Nat) (f : Ticket → Ticket) (s : State) :
    (s.updTicket e f).service = s.service := rfl
@[simp] theorem State.updTicket_tickPhase (e : Nat) (f : Ticket → Ticket) (s : State) :
    (s.updTicket e f).tickPhase = s.tickPhase := rfl
@[simp] theorem State.updTicket_blink (e : Nat) (f : Ticket → Ticket) (s : State) :
    (s.updTicket e f).blink = s.blink := rfl
@[simp] theorem State.updTicket_ticksDue (e : Nat) (f : Ticket → Ticket) (s : State) :
    (s.updTicket e f).ticksDue = s.ticksDue := rfl
@[simp] theorem State.updTicket_stations (e : Nat) (f : Ticket → Ticket) (s : State) :
    (s.updTicket e f).stations = s.stations := rfl
@[simp] theorem State.updTicket_intake (e : Nat) (f : Ticket → Ticket) (s : State) :
    (s.updTicket e f).intake = s.intake := rfl
@[simp] theorem State.updTicket_marks (e : Nat) (f : Ticket → Ticket) (s : State) :
    (s.updTicket e f).marks = s.marks := rfl

-- ## setFault

@[simp] theorem State.setFault_pending (i : RecordId) (r : Option FaultRecord) (s : State) :
    (s.setFault i r).pending = s.pending := rfl
@[simp] theorem State.setFault_part (i : RecordId) (r : Option FaultRecord) (s : State) :
    (s.setFault i r).part = s.part := rfl
@[simp] theorem State.setFault_rstLow (i : RecordId) (r : Option FaultRecord) (s : State) :
    (s.setFault i r).rstLow = s.rstLow := rfl
@[simp] theorem State.setFault_straps (i : RecordId) (r : Option FaultRecord) (s : State) :
    (s.setFault i r).straps = s.straps := rfl
@[simp] theorem State.setFault_setup (i : RecordId) (r : Option FaultRecord) (s : State) :
    (s.setFault i r).setup = s.setup := rfl
@[simp] theorem State.setFault_plan (i : RecordId) (r : Option FaultRecord) (s : State) :
    (s.setFault i r).plan = s.plan := rfl
@[simp] theorem State.setFault_loader (i : RecordId) (r : Option FaultRecord) (s : State) :
    (s.setFault i r).loader = s.loader := rfl
@[simp] theorem State.setFault_latched (i : RecordId) (r : Option FaultRecord) (s : State) :
    (s.setFault i r).latched = s.latched := rfl
@[simp] theorem State.setFault_faults (i : RecordId) (r : Option FaultRecord) (s : State) :
    (s.setFault i r).faults = s.faults.set i r := rfl
@[simp] theorem State.setFault_overflow (i : RecordId) (r : Option FaultRecord) (s : State) :
    (s.setFault i r).overflow = s.overflow := rfl
@[simp] theorem State.setFault_conditions (i : RecordId) (r : Option FaultRecord) (s : State) :
    (s.setFault i r).conditions = s.conditions := rfl
@[simp] theorem State.setFault_noticeShown (i : RecordId) (r : Option FaultRecord) (s : State) :
    (s.setFault i r).noticeShown = s.noticeShown := rfl
@[simp] theorem State.setFault_flights (i : RecordId) (r : Option FaultRecord) (s : State) :
    (s.setFault i r).flights = s.flights := rfl
@[simp] theorem State.setFault_portWaiting (i : RecordId) (r : Option FaultRecord) (s : State) :
    (s.setFault i r).portWaiting = s.portWaiting := rfl
@[simp] theorem State.setFault_responses (i : RecordId) (r : Option FaultRecord) (s : State) :
    (s.setFault i r).responses = s.responses := rfl
@[simp] theorem State.setFault_arrivals (i : RecordId) (r : Option FaultRecord) (s : State) :
    (s.setFault i r).arrivals = s.arrivals := rfl
@[simp] theorem State.setFault_port (i : RecordId) (r : Option FaultRecord) (s : State) :
    (s.setFault i r).port = s.port := rfl
@[simp] theorem State.setFault_assemblies (i : RecordId) (r : Option FaultRecord) (s : State) :
    (s.setFault i r).assemblies = s.assemblies := rfl
@[simp] theorem State.setFault_dram (i : RecordId) (r : Option FaultRecord) (s : State) :
    (s.setFault i r).dram = s.dram := rfl
@[simp] theorem State.setFault_tickets (i : RecordId) (r : Option FaultRecord) (s : State) :
    (s.setFault i r).tickets = s.tickets := rfl
@[simp] theorem State.setFault_locks (i : RecordId) (r : Option FaultRecord) (s : State) :
    (s.setFault i r).locks = s.locks := rfl
@[simp] theorem State.setFault_pool (i : RecordId) (r : Option FaultRecord) (s : State) :
    (s.setFault i r).pool = s.pool := rfl
@[simp] theorem State.setFault_logIndex (i : RecordId) (r : Option FaultRecord) (s : State) :
    (s.setFault i r).logIndex = s.logIndex := rfl
@[simp] theorem State.setFault_cache (i : RecordId) (r : Option FaultRecord) (s : State) :
    (s.setFault i r).cache = s.cache := rfl
@[simp] theorem State.setFault_courses (i : RecordId) (r : Option FaultRecord) (s : State) :
    (s.setFault i r).courses = s.courses := rfl
@[simp] theorem State.setFault_service (i : RecordId) (r : Option FaultRecord) (s : State) :
    (s.setFault i r).service = s.service := rfl
@[simp] theorem State.setFault_tickPhase (i : RecordId) (r : Option FaultRecord) (s : State) :
    (s.setFault i r).tickPhase = s.tickPhase := rfl
@[simp] theorem State.setFault_blink (i : RecordId) (r : Option FaultRecord) (s : State) :
    (s.setFault i r).blink = s.blink := rfl
@[simp] theorem State.setFault_ticksDue (i : RecordId) (r : Option FaultRecord) (s : State) :
    (s.setFault i r).ticksDue = s.ticksDue := rfl
@[simp] theorem State.setFault_stations (i : RecordId) (r : Option FaultRecord) (s : State) :
    (s.setFault i r).stations = s.stations := rfl
@[simp] theorem State.setFault_intake (i : RecordId) (r : Option FaultRecord) (s : State) :
    (s.setFault i r).intake = s.intake := rfl
@[simp] theorem State.setFault_marks (i : RecordId) (r : Option FaultRecord) (s : State) :
    (s.setFault i r).marks = { s.marks with faults := addTo i s.marks.faults } := rfl

-- ## setCondition

@[simp] theorem State.setCondition_pending (f : Conditions → Conditions) (s : State) :
    (s.setCondition f).pending = s.pending := rfl
@[simp] theorem State.setCondition_part (f : Conditions → Conditions) (s : State) :
    (s.setCondition f).part = s.part := rfl
@[simp] theorem State.setCondition_rstLow (f : Conditions → Conditions) (s : State) :
    (s.setCondition f).rstLow = s.rstLow := rfl
@[simp] theorem State.setCondition_straps (f : Conditions → Conditions) (s : State) :
    (s.setCondition f).straps = s.straps := rfl
@[simp] theorem State.setCondition_setup (f : Conditions → Conditions) (s : State) :
    (s.setCondition f).setup = s.setup := rfl
@[simp] theorem State.setCondition_plan (f : Conditions → Conditions) (s : State) :
    (s.setCondition f).plan = s.plan := rfl
@[simp] theorem State.setCondition_loader (f : Conditions → Conditions) (s : State) :
    (s.setCondition f).loader = s.loader := rfl
@[simp] theorem State.setCondition_latched (f : Conditions → Conditions) (s : State) :
    (s.setCondition f).latched = s.latched := rfl
@[simp] theorem State.setCondition_faults (f : Conditions → Conditions) (s : State) :
    (s.setCondition f).faults = s.faults := rfl
@[simp] theorem State.setCondition_overflow (f : Conditions → Conditions) (s : State) :
    (s.setCondition f).overflow = s.overflow := rfl
@[simp] theorem State.setCondition_conditions (f : Conditions → Conditions) (s : State) :
    (s.setCondition f).conditions = f s.conditions := rfl
@[simp] theorem State.setCondition_noticeShown (f : Conditions → Conditions) (s : State) :
    (s.setCondition f).noticeShown = s.noticeShown := rfl
@[simp] theorem State.setCondition_flights (f : Conditions → Conditions) (s : State) :
    (s.setCondition f).flights = s.flights := rfl
@[simp] theorem State.setCondition_portWaiting (f : Conditions → Conditions) (s : State) :
    (s.setCondition f).portWaiting = s.portWaiting := rfl
@[simp] theorem State.setCondition_responses (f : Conditions → Conditions) (s : State) :
    (s.setCondition f).responses = s.responses := rfl
@[simp] theorem State.setCondition_arrivals (f : Conditions → Conditions) (s : State) :
    (s.setCondition f).arrivals = s.arrivals := rfl
@[simp] theorem State.setCondition_port (f : Conditions → Conditions) (s : State) :
    (s.setCondition f).port = s.port := rfl
@[simp] theorem State.setCondition_assemblies (f : Conditions → Conditions) (s : State) :
    (s.setCondition f).assemblies = s.assemblies := rfl
@[simp] theorem State.setCondition_dram (f : Conditions → Conditions) (s : State) :
    (s.setCondition f).dram = s.dram := rfl
@[simp] theorem State.setCondition_tickets (f : Conditions → Conditions) (s : State) :
    (s.setCondition f).tickets = s.tickets := rfl
@[simp] theorem State.setCondition_locks (f : Conditions → Conditions) (s : State) :
    (s.setCondition f).locks = s.locks := rfl
@[simp] theorem State.setCondition_pool (f : Conditions → Conditions) (s : State) :
    (s.setCondition f).pool = s.pool := rfl
@[simp] theorem State.setCondition_logIndex (f : Conditions → Conditions) (s : State) :
    (s.setCondition f).logIndex = s.logIndex := rfl
@[simp] theorem State.setCondition_cache (f : Conditions → Conditions) (s : State) :
    (s.setCondition f).cache = s.cache := rfl
@[simp] theorem State.setCondition_courses (f : Conditions → Conditions) (s : State) :
    (s.setCondition f).courses = s.courses := rfl
@[simp] theorem State.setCondition_service (f : Conditions → Conditions) (s : State) :
    (s.setCondition f).service = s.service := rfl
@[simp] theorem State.setCondition_tickPhase (f : Conditions → Conditions) (s : State) :
    (s.setCondition f).tickPhase = s.tickPhase := rfl
@[simp] theorem State.setCondition_blink (f : Conditions → Conditions) (s : State) :
    (s.setCondition f).blink = s.blink := rfl
@[simp] theorem State.setCondition_ticksDue (f : Conditions → Conditions) (s : State) :
    (s.setCondition f).ticksDue = s.ticksDue := rfl
@[simp] theorem State.setCondition_stations (f : Conditions → Conditions) (s : State) :
    (s.setCondition f).stations = s.stations := rfl
@[simp] theorem State.setCondition_intake (f : Conditions → Conditions) (s : State) :
    (s.setCondition f).intake = s.intake := rfl
@[simp] theorem State.setCondition_marks (f : Conditions → Conditions) (s : State) :
    (s.setCondition f).marks = s.marks := rfl

-- ## respond

@[simp] theorem State.respond_pending (tag : Tag) (id : Nat) (r : Response) (s : State) :
    (s.respond tag id r).pending = s.pending := rfl
@[simp] theorem State.respond_part (tag : Tag) (id : Nat) (r : Response) (s : State) :
    (s.respond tag id r).part = s.part := rfl
@[simp] theorem State.respond_rstLow (tag : Tag) (id : Nat) (r : Response) (s : State) :
    (s.respond tag id r).rstLow = s.rstLow := rfl
@[simp] theorem State.respond_straps (tag : Tag) (id : Nat) (r : Response) (s : State) :
    (s.respond tag id r).straps = s.straps := rfl
@[simp] theorem State.respond_setup (tag : Tag) (id : Nat) (r : Response) (s : State) :
    (s.respond tag id r).setup = s.setup := rfl
@[simp] theorem State.respond_plan (tag : Tag) (id : Nat) (r : Response) (s : State) :
    (s.respond tag id r).plan = s.plan := rfl
@[simp] theorem State.respond_loader (tag : Tag) (id : Nat) (r : Response) (s : State) :
    (s.respond tag id r).loader = s.loader := rfl
@[simp] theorem State.respond_latched (tag : Tag) (id : Nat) (r : Response) (s : State) :
    (s.respond tag id r).latched = s.latched := rfl
@[simp] theorem State.respond_faults (tag : Tag) (id : Nat) (r : Response) (s : State) :
    (s.respond tag id r).faults = s.faults := rfl
@[simp] theorem State.respond_overflow (tag : Tag) (id : Nat) (r : Response) (s : State) :
    (s.respond tag id r).overflow = s.overflow := rfl
@[simp] theorem State.respond_conditions (tag : Tag) (id : Nat) (r : Response) (s : State) :
    (s.respond tag id r).conditions = s.conditions := rfl
@[simp] theorem State.respond_noticeShown (tag : Tag) (id : Nat) (r : Response) (s : State) :
    (s.respond tag id r).noticeShown = s.noticeShown := rfl
@[simp] theorem State.respond_portWaiting (tag : Tag) (id : Nat) (r : Response) (s : State) :
    (s.respond tag id r).portWaiting = s.portWaiting := rfl
@[simp] theorem State.respond_arrivals (tag : Tag) (id : Nat) (r : Response) (s : State) :
    (s.respond tag id r).arrivals = s.arrivals := rfl
@[simp] theorem State.respond_port (tag : Tag) (id : Nat) (r : Response) (s : State) :
    (s.respond tag id r).port = s.port := rfl
@[simp] theorem State.respond_assemblies (tag : Tag) (id : Nat) (r : Response) (s : State) :
    (s.respond tag id r).assemblies = s.assemblies := rfl
@[simp] theorem State.respond_dram (tag : Tag) (id : Nat) (r : Response) (s : State) :
    (s.respond tag id r).dram = s.dram := rfl
@[simp] theorem State.respond_tickets (tag : Tag) (id : Nat) (r : Response) (s : State) :
    (s.respond tag id r).tickets = s.tickets := rfl
@[simp] theorem State.respond_locks (tag : Tag) (id : Nat) (r : Response) (s : State) :
    (s.respond tag id r).locks = s.locks := rfl
@[simp] theorem State.respond_pool (tag : Tag) (id : Nat) (r : Response) (s : State) :
    (s.respond tag id r).pool = s.pool := rfl
@[simp] theorem State.respond_logIndex (tag : Tag) (id : Nat) (r : Response) (s : State) :
    (s.respond tag id r).logIndex = s.logIndex := rfl
@[simp] theorem State.respond_cache (tag : Tag) (id : Nat) (r : Response) (s : State) :
    (s.respond tag id r).cache = s.cache := rfl
@[simp] theorem State.respond_courses (tag : Tag) (id : Nat) (r : Response) (s : State) :
    (s.respond tag id r).courses = s.courses := rfl
@[simp] theorem State.respond_service (tag : Tag) (id : Nat) (r : Response) (s : State) :
    (s.respond tag id r).service = s.service := rfl
@[simp] theorem State.respond_tickPhase (tag : Tag) (id : Nat) (r : Response) (s : State) :
    (s.respond tag id r).tickPhase = s.tickPhase := rfl
@[simp] theorem State.respond_blink (tag : Tag) (id : Nat) (r : Response) (s : State) :
    (s.respond tag id r).blink = s.blink := rfl
@[simp] theorem State.respond_ticksDue (tag : Tag) (id : Nat) (r : Response) (s : State) :
    (s.respond tag id r).ticksDue = s.ticksDue := rfl
@[simp] theorem State.respond_stations (tag : Tag) (id : Nat) (r : Response) (s : State) :
    (s.respond tag id r).stations = s.stations := rfl
@[simp] theorem State.respond_intake (tag : Tag) (id : Nat) (r : Response) (s : State) :
    (s.respond tag id r).intake = s.intake := rfl
@[simp] theorem State.respond_marks (tag : Tag) (id : Nat) (r : Response) (s : State) :
    (s.respond tag id r).marks = s.marks := rfl

-- ## joinList

@[simp] theorem State.joinList_pending (r : Request) (s : State) :
    (s.joinList r).pending = s.pending := rfl
@[simp] theorem State.joinList_part (r : Request) (s : State) :
    (s.joinList r).part = s.part := rfl
@[simp] theorem State.joinList_rstLow (r : Request) (s : State) :
    (s.joinList r).rstLow = s.rstLow := rfl
@[simp] theorem State.joinList_straps (r : Request) (s : State) :
    (s.joinList r).straps = s.straps := rfl
@[simp] theorem State.joinList_setup (r : Request) (s : State) :
    (s.joinList r).setup = s.setup := rfl
@[simp] theorem State.joinList_plan (r : Request) (s : State) :
    (s.joinList r).plan = s.plan := rfl
@[simp] theorem State.joinList_loader (r : Request) (s : State) :
    (s.joinList r).loader = s.loader := rfl
@[simp] theorem State.joinList_latched (r : Request) (s : State) :
    (s.joinList r).latched = s.latched := rfl
@[simp] theorem State.joinList_faults (r : Request) (s : State) :
    (s.joinList r).faults = s.faults := rfl
@[simp] theorem State.joinList_overflow (r : Request) (s : State) :
    (s.joinList r).overflow = s.overflow := rfl
@[simp] theorem State.joinList_conditions (r : Request) (s : State) :
    (s.joinList r).conditions = s.conditions := rfl
@[simp] theorem State.joinList_noticeShown (r : Request) (s : State) :
    (s.joinList r).noticeShown = s.noticeShown := rfl
@[simp] theorem State.joinList_portWaiting (r : Request) (s : State) :
    (s.joinList r).portWaiting = s.portWaiting := rfl
@[simp] theorem State.joinList_responses (r : Request) (s : State) :
    (s.joinList r).responses = s.responses := rfl
@[simp] theorem State.joinList_arrivals (r : Request) (s : State) :
    (s.joinList r).arrivals = s.arrivals + 1 := rfl
@[simp] theorem State.joinList_port (r : Request) (s : State) :
    (s.joinList r).port = s.port := rfl
@[simp] theorem State.joinList_assemblies (r : Request) (s : State) :
    (s.joinList r).assemblies = s.assemblies := rfl
@[simp] theorem State.joinList_dram (r : Request) (s : State) :
    (s.joinList r).dram = s.dram := rfl
@[simp] theorem State.joinList_tickets (r : Request) (s : State) :
    (s.joinList r).tickets = s.tickets := rfl
@[simp] theorem State.joinList_locks (r : Request) (s : State) :
    (s.joinList r).locks = s.locks := rfl
@[simp] theorem State.joinList_pool (r : Request) (s : State) :
    (s.joinList r).pool = s.pool := rfl
@[simp] theorem State.joinList_logIndex (r : Request) (s : State) :
    (s.joinList r).logIndex = s.logIndex := rfl
@[simp] theorem State.joinList_cache (r : Request) (s : State) :
    (s.joinList r).cache = s.cache := rfl
@[simp] theorem State.joinList_courses (r : Request) (s : State) :
    (s.joinList r).courses = s.courses := rfl
@[simp] theorem State.joinList_service (r : Request) (s : State) :
    (s.joinList r).service = s.service := rfl
@[simp] theorem State.joinList_tickPhase (r : Request) (s : State) :
    (s.joinList r).tickPhase = s.tickPhase := rfl
@[simp] theorem State.joinList_blink (r : Request) (s : State) :
    (s.joinList r).blink = s.blink := rfl
@[simp] theorem State.joinList_ticksDue (r : Request) (s : State) :
    (s.joinList r).ticksDue = s.ticksDue := rfl
@[simp] theorem State.joinList_stations (r : Request) (s : State) :
    (s.joinList r).stations = s.stations := rfl
@[simp] theorem State.joinList_intake (r : Request) (s : State) :
    (s.joinList r).intake = s.intake := rfl
@[simp] theorem State.joinList_marks (r : Request) (s : State) :
    (s.joinList r).marks = s.marks := rfl

-- ## lock

@[simp] theorem State.lock_pending (line : Nat) (s : State) :
    (s.lock line).pending = s.pending := rfl
@[simp] theorem State.lock_part (line : Nat) (s : State) :
    (s.lock line).part = s.part := rfl
@[simp] theorem State.lock_rstLow (line : Nat) (s : State) :
    (s.lock line).rstLow = s.rstLow := rfl
@[simp] theorem State.lock_straps (line : Nat) (s : State) :
    (s.lock line).straps = s.straps := rfl
@[simp] theorem State.lock_setup (line : Nat) (s : State) :
    (s.lock line).setup = s.setup := rfl
@[simp] theorem State.lock_plan (line : Nat) (s : State) :
    (s.lock line).plan = s.plan := rfl
@[simp] theorem State.lock_loader (line : Nat) (s : State) :
    (s.lock line).loader = s.loader := rfl
@[simp] theorem State.lock_latched (line : Nat) (s : State) :
    (s.lock line).latched = s.latched := rfl
@[simp] theorem State.lock_faults (line : Nat) (s : State) :
    (s.lock line).faults = s.faults := rfl
@[simp] theorem State.lock_overflow (line : Nat) (s : State) :
    (s.lock line).overflow = s.overflow := rfl
@[simp] theorem State.lock_conditions (line : Nat) (s : State) :
    (s.lock line).conditions = s.conditions := rfl
@[simp] theorem State.lock_noticeShown (line : Nat) (s : State) :
    (s.lock line).noticeShown = s.noticeShown := rfl
@[simp] theorem State.lock_flights (line : Nat) (s : State) :
    (s.lock line).flights = s.flights := rfl
@[simp] theorem State.lock_portWaiting (line : Nat) (s : State) :
    (s.lock line).portWaiting = s.portWaiting := rfl
@[simp] theorem State.lock_responses (line : Nat) (s : State) :
    (s.lock line).responses = s.responses := rfl
@[simp] theorem State.lock_arrivals (line : Nat) (s : State) :
    (s.lock line).arrivals = s.arrivals := rfl
@[simp] theorem State.lock_port (line : Nat) (s : State) :
    (s.lock line).port = s.port := rfl
@[simp] theorem State.lock_assemblies (line : Nat) (s : State) :
    (s.lock line).assemblies = s.assemblies := rfl
@[simp] theorem State.lock_dram (line : Nat) (s : State) :
    (s.lock line).dram = s.dram := rfl
@[simp] theorem State.lock_tickets (line : Nat) (s : State) :
    (s.lock line).tickets = s.tickets := rfl
@[simp] theorem State.lock_locks (line : Nat) (s : State) :
    (s.lock line).locks = addTo line s.locks := rfl
@[simp] theorem State.lock_pool (line : Nat) (s : State) :
    (s.lock line).pool = s.pool := rfl
@[simp] theorem State.lock_logIndex (line : Nat) (s : State) :
    (s.lock line).logIndex = s.logIndex := rfl
@[simp] theorem State.lock_cache (line : Nat) (s : State) :
    (s.lock line).cache = s.cache := rfl
@[simp] theorem State.lock_courses (line : Nat) (s : State) :
    (s.lock line).courses = s.courses := rfl
@[simp] theorem State.lock_service (line : Nat) (s : State) :
    (s.lock line).service = s.service := rfl
@[simp] theorem State.lock_tickPhase (line : Nat) (s : State) :
    (s.lock line).tickPhase = s.tickPhase := rfl
@[simp] theorem State.lock_blink (line : Nat) (s : State) :
    (s.lock line).blink = s.blink := rfl
@[simp] theorem State.lock_ticksDue (line : Nat) (s : State) :
    (s.lock line).ticksDue = s.ticksDue := rfl
@[simp] theorem State.lock_stations (line : Nat) (s : State) :
    (s.lock line).stations = s.stations := rfl
@[simp] theorem State.lock_intake (line : Nat) (s : State) :
    (s.lock line).intake = s.intake := rfl
@[simp] theorem State.lock_marks (line : Nat) (s : State) :
    (s.lock line).marks = s.marks := rfl

-- ## unlock

@[simp] theorem State.unlock_pending (line : Nat) (s : State) :
    (s.unlock line).pending = s.pending := rfl
@[simp] theorem State.unlock_part (line : Nat) (s : State) :
    (s.unlock line).part = s.part := rfl
@[simp] theorem State.unlock_rstLow (line : Nat) (s : State) :
    (s.unlock line).rstLow = s.rstLow := rfl
@[simp] theorem State.unlock_straps (line : Nat) (s : State) :
    (s.unlock line).straps = s.straps := rfl
@[simp] theorem State.unlock_setup (line : Nat) (s : State) :
    (s.unlock line).setup = s.setup := rfl
@[simp] theorem State.unlock_plan (line : Nat) (s : State) :
    (s.unlock line).plan = s.plan := rfl
@[simp] theorem State.unlock_loader (line : Nat) (s : State) :
    (s.unlock line).loader = s.loader := rfl
@[simp] theorem State.unlock_latched (line : Nat) (s : State) :
    (s.unlock line).latched = s.latched := rfl
@[simp] theorem State.unlock_faults (line : Nat) (s : State) :
    (s.unlock line).faults = s.faults := rfl
@[simp] theorem State.unlock_overflow (line : Nat) (s : State) :
    (s.unlock line).overflow = s.overflow := rfl
@[simp] theorem State.unlock_conditions (line : Nat) (s : State) :
    (s.unlock line).conditions = s.conditions := rfl
@[simp] theorem State.unlock_noticeShown (line : Nat) (s : State) :
    (s.unlock line).noticeShown = s.noticeShown := rfl
@[simp] theorem State.unlock_flights (line : Nat) (s : State) :
    (s.unlock line).flights = s.flights := rfl
@[simp] theorem State.unlock_portWaiting (line : Nat) (s : State) :
    (s.unlock line).portWaiting = s.portWaiting := rfl
@[simp] theorem State.unlock_responses (line : Nat) (s : State) :
    (s.unlock line).responses = s.responses := rfl
@[simp] theorem State.unlock_arrivals (line : Nat) (s : State) :
    (s.unlock line).arrivals = s.arrivals := rfl
@[simp] theorem State.unlock_port (line : Nat) (s : State) :
    (s.unlock line).port = s.port := rfl
@[simp] theorem State.unlock_assemblies (line : Nat) (s : State) :
    (s.unlock line).assemblies = s.assemblies := rfl
@[simp] theorem State.unlock_dram (line : Nat) (s : State) :
    (s.unlock line).dram = s.dram := rfl
@[simp] theorem State.unlock_tickets (line : Nat) (s : State) :
    (s.unlock line).tickets = s.tickets := rfl
@[simp] theorem State.unlock_locks (line : Nat) (s : State) :
    (s.unlock line).locks = s.locks.filter (fun l => l != line) := rfl
@[simp] theorem State.unlock_pool (line : Nat) (s : State) :
    (s.unlock line).pool = s.pool := rfl
@[simp] theorem State.unlock_logIndex (line : Nat) (s : State) :
    (s.unlock line).logIndex = s.logIndex := rfl
@[simp] theorem State.unlock_cache (line : Nat) (s : State) :
    (s.unlock line).cache = s.cache := rfl
@[simp] theorem State.unlock_courses (line : Nat) (s : State) :
    (s.unlock line).courses = s.courses := rfl
@[simp] theorem State.unlock_service (line : Nat) (s : State) :
    (s.unlock line).service = s.service := rfl
@[simp] theorem State.unlock_tickPhase (line : Nat) (s : State) :
    (s.unlock line).tickPhase = s.tickPhase := rfl
@[simp] theorem State.unlock_blink (line : Nat) (s : State) :
    (s.unlock line).blink = s.blink := rfl
@[simp] theorem State.unlock_ticksDue (line : Nat) (s : State) :
    (s.unlock line).ticksDue = s.ticksDue := rfl
@[simp] theorem State.unlock_stations (line : Nat) (s : State) :
    (s.unlock line).stations = s.stations := rfl
@[simp] theorem State.unlock_intake (line : Nat) (s : State) :
    (s.unlock line).intake = s.intake := rfl
@[simp] theorem State.unlock_marks (line : Nat) (s : State) :
    (s.unlock line).marks = s.marks := rfl

-- ## touchDish

@[simp] theorem State.touchDish_pending (dish : Nat) (d : DishRecord) (s : State) :
    (s.touchDish dish d).pending = s.pending := rfl
@[simp] theorem State.touchDish_part (dish : Nat) (d : DishRecord) (s : State) :
    (s.touchDish dish d).part = s.part := rfl
@[simp] theorem State.touchDish_rstLow (dish : Nat) (d : DishRecord) (s : State) :
    (s.touchDish dish d).rstLow = s.rstLow := rfl
@[simp] theorem State.touchDish_straps (dish : Nat) (d : DishRecord) (s : State) :
    (s.touchDish dish d).straps = s.straps := rfl
@[simp] theorem State.touchDish_setup (dish : Nat) (d : DishRecord) (s : State) :
    (s.touchDish dish d).setup = s.setup := rfl
@[simp] theorem State.touchDish_plan (dish : Nat) (d : DishRecord) (s : State) :
    (s.touchDish dish d).plan = s.plan := rfl
@[simp] theorem State.touchDish_loader (dish : Nat) (d : DishRecord) (s : State) :
    (s.touchDish dish d).loader = s.loader := rfl
@[simp] theorem State.touchDish_latched (dish : Nat) (d : DishRecord) (s : State) :
    (s.touchDish dish d).latched = s.latched := rfl
@[simp] theorem State.touchDish_faults (dish : Nat) (d : DishRecord) (s : State) :
    (s.touchDish dish d).faults = s.faults := rfl
@[simp] theorem State.touchDish_overflow (dish : Nat) (d : DishRecord) (s : State) :
    (s.touchDish dish d).overflow = s.overflow := rfl
@[simp] theorem State.touchDish_conditions (dish : Nat) (d : DishRecord) (s : State) :
    (s.touchDish dish d).conditions = s.conditions := rfl
@[simp] theorem State.touchDish_noticeShown (dish : Nat) (d : DishRecord) (s : State) :
    (s.touchDish dish d).noticeShown = s.noticeShown := rfl
@[simp] theorem State.touchDish_flights (dish : Nat) (d : DishRecord) (s : State) :
    (s.touchDish dish d).flights = s.flights := rfl
@[simp] theorem State.touchDish_portWaiting (dish : Nat) (d : DishRecord) (s : State) :
    (s.touchDish dish d).portWaiting = s.portWaiting := rfl
@[simp] theorem State.touchDish_responses (dish : Nat) (d : DishRecord) (s : State) :
    (s.touchDish dish d).responses = s.responses := rfl
@[simp] theorem State.touchDish_arrivals (dish : Nat) (d : DishRecord) (s : State) :
    (s.touchDish dish d).arrivals = s.arrivals := rfl
@[simp] theorem State.touchDish_port (dish : Nat) (d : DishRecord) (s : State) :
    (s.touchDish dish d).port = s.port := rfl
@[simp] theorem State.touchDish_assemblies (dish : Nat) (d : DishRecord) (s : State) :
    (s.touchDish dish d).assemblies = s.assemblies := rfl
@[simp] theorem State.touchDish_dram (dish : Nat) (d : DishRecord) (s : State) :
    (s.touchDish dish d).dram = s.dram := rfl
@[simp] theorem State.touchDish_tickets (dish : Nat) (d : DishRecord) (s : State) :
    (s.touchDish dish d).tickets = s.tickets := rfl
@[simp] theorem State.touchDish_locks (dish : Nat) (d : DishRecord) (s : State) :
    (s.touchDish dish d).locks = s.locks := rfl
@[simp] theorem State.touchDish_pool (dish : Nat) (d : DishRecord) (s : State) :
    (s.touchDish dish d).pool = s.pool := rfl
@[simp] theorem State.touchDish_logIndex (dish : Nat) (d : DishRecord) (s : State) :
    (s.touchDish dish d).logIndex = s.logIndex := rfl
@[simp] theorem State.touchDish_courses (dish : Nat) (d : DishRecord) (s : State) :
    (s.touchDish dish d).courses = s.courses := rfl
@[simp] theorem State.touchDish_service (dish : Nat) (d : DishRecord) (s : State) :
    (s.touchDish dish d).service = s.service := rfl
@[simp] theorem State.touchDish_tickPhase (dish : Nat) (d : DishRecord) (s : State) :
    (s.touchDish dish d).tickPhase = s.tickPhase := rfl
@[simp] theorem State.touchDish_blink (dish : Nat) (d : DishRecord) (s : State) :
    (s.touchDish dish d).blink = s.blink := rfl
@[simp] theorem State.touchDish_ticksDue (dish : Nat) (d : DishRecord) (s : State) :
    (s.touchDish dish d).ticksDue = s.ticksDue := rfl
@[simp] theorem State.touchDish_stations (dish : Nat) (d : DishRecord) (s : State) :
    (s.touchDish dish d).stations = s.stations := rfl
@[simp] theorem State.touchDish_intake (dish : Nat) (d : DishRecord) (s : State) :
    (s.touchDish dish d).intake = s.intake := rfl
@[simp] theorem State.touchDish_marks (dish : Nat) (d : DishRecord) (s : State) :
    (s.touchDish dish d).marks = s.marks := rfl

-- ## insertRecord

@[simp] theorem State.insertRecord_pending (dish : Nat) (d : DishRecord) (s : State) :
    (s.insertRecord dish d).pending = s.pending := rfl
@[simp] theorem State.insertRecord_part (dish : Nat) (d : DishRecord) (s : State) :
    (s.insertRecord dish d).part = s.part := rfl
@[simp] theorem State.insertRecord_rstLow (dish : Nat) (d : DishRecord) (s : State) :
    (s.insertRecord dish d).rstLow = s.rstLow := rfl
@[simp] theorem State.insertRecord_straps (dish : Nat) (d : DishRecord) (s : State) :
    (s.insertRecord dish d).straps = s.straps := rfl
@[simp] theorem State.insertRecord_setup (dish : Nat) (d : DishRecord) (s : State) :
    (s.insertRecord dish d).setup = s.setup := rfl
@[simp] theorem State.insertRecord_plan (dish : Nat) (d : DishRecord) (s : State) :
    (s.insertRecord dish d).plan = s.plan := rfl
@[simp] theorem State.insertRecord_loader (dish : Nat) (d : DishRecord) (s : State) :
    (s.insertRecord dish d).loader = s.loader := rfl
@[simp] theorem State.insertRecord_latched (dish : Nat) (d : DishRecord) (s : State) :
    (s.insertRecord dish d).latched = s.latched := rfl
@[simp] theorem State.insertRecord_faults (dish : Nat) (d : DishRecord) (s : State) :
    (s.insertRecord dish d).faults = s.faults := rfl
@[simp] theorem State.insertRecord_overflow (dish : Nat) (d : DishRecord) (s : State) :
    (s.insertRecord dish d).overflow = s.overflow := rfl
@[simp] theorem State.insertRecord_conditions (dish : Nat) (d : DishRecord) (s : State) :
    (s.insertRecord dish d).conditions = s.conditions := rfl
@[simp] theorem State.insertRecord_noticeShown (dish : Nat) (d : DishRecord) (s : State) :
    (s.insertRecord dish d).noticeShown = s.noticeShown := rfl
@[simp] theorem State.insertRecord_flights (dish : Nat) (d : DishRecord) (s : State) :
    (s.insertRecord dish d).flights = s.flights := rfl
@[simp] theorem State.insertRecord_portWaiting (dish : Nat) (d : DishRecord) (s : State) :
    (s.insertRecord dish d).portWaiting = s.portWaiting := rfl
@[simp] theorem State.insertRecord_responses (dish : Nat) (d : DishRecord) (s : State) :
    (s.insertRecord dish d).responses = s.responses := rfl
@[simp] theorem State.insertRecord_arrivals (dish : Nat) (d : DishRecord) (s : State) :
    (s.insertRecord dish d).arrivals = s.arrivals := rfl
@[simp] theorem State.insertRecord_port (dish : Nat) (d : DishRecord) (s : State) :
    (s.insertRecord dish d).port = s.port := rfl
@[simp] theorem State.insertRecord_assemblies (dish : Nat) (d : DishRecord) (s : State) :
    (s.insertRecord dish d).assemblies = s.assemblies := rfl
@[simp] theorem State.insertRecord_dram (dish : Nat) (d : DishRecord) (s : State) :
    (s.insertRecord dish d).dram = s.dram := rfl
@[simp] theorem State.insertRecord_tickets (dish : Nat) (d : DishRecord) (s : State) :
    (s.insertRecord dish d).tickets = s.tickets := rfl
@[simp] theorem State.insertRecord_locks (dish : Nat) (d : DishRecord) (s : State) :
    (s.insertRecord dish d).locks = s.locks := rfl
@[simp] theorem State.insertRecord_pool (dish : Nat) (d : DishRecord) (s : State) :
    (s.insertRecord dish d).pool = s.pool := rfl
@[simp] theorem State.insertRecord_logIndex (dish : Nat) (d : DishRecord) (s : State) :
    (s.insertRecord dish d).logIndex = s.logIndex := rfl
@[simp] theorem State.insertRecord_cache (dish : Nat) (d : DishRecord) (s : State) :
    (s.insertRecord dish d).cache = insertDish dish d s.cache := rfl
@[simp] theorem State.insertRecord_courses (dish : Nat) (d : DishRecord) (s : State) :
    (s.insertRecord dish d).courses = s.courses := rfl
@[simp] theorem State.insertRecord_service (dish : Nat) (d : DishRecord) (s : State) :
    (s.insertRecord dish d).service = s.service := rfl
@[simp] theorem State.insertRecord_tickPhase (dish : Nat) (d : DishRecord) (s : State) :
    (s.insertRecord dish d).tickPhase = s.tickPhase := rfl
@[simp] theorem State.insertRecord_blink (dish : Nat) (d : DishRecord) (s : State) :
    (s.insertRecord dish d).blink = s.blink := rfl
@[simp] theorem State.insertRecord_ticksDue (dish : Nat) (d : DishRecord) (s : State) :
    (s.insertRecord dish d).ticksDue = s.ticksDue := rfl
@[simp] theorem State.insertRecord_stations (dish : Nat) (d : DishRecord) (s : State) :
    (s.insertRecord dish d).stations = s.stations := rfl
@[simp] theorem State.insertRecord_intake (dish : Nat) (d : DishRecord) (s : State) :
    (s.insertRecord dish d).intake = s.intake := rfl
@[simp] theorem State.insertRecord_marks (dish : Nat) (d : DishRecord) (s : State) :
    (s.insertRecord dish d).marks = s.marks := rfl

-- ## Requests of the part as updates

@[simp] theorem State.writeAnchor_eq (o : OwnRequest) (off : Nat) (data : List Byte) (s : State) :
    s.writeAnchor o off data = s.issue (anchorWrite s.straps o off data) := rfl
@[simp] theorem State.writeOwn_eq (o : OwnRequest) (addr : Nat) (data : List Byte) (s : State) :
    s.writeOwn o addr data = s.issue (ownRequest o .write addr data.length data) := rfl
@[simp] theorem State.readOwn_eq (o : OwnRequest) (addr len : Nat) (s : State) :
    s.readOwn o addr len = s.issue (ownRequest o .read addr len []) := rfl

end Sys2Proof.Machine
end

