-- ==== Sys2Proof/Laws/Port.lean ====
section
/-! SUPPORT. The memory port: what entering a request, answering one, a restart and RST do to the issue order, and how the
part's own work lets the port grow. -/

namespace Sys2Proof.Machine

/-- The requests of the port that are not yet answered. -/
def MemPort.all (p : MemPort) : List MemRequest := p.issued ++ p.waiting

/-- No two requests touch one line. -/
def DistinctLines (l : List MemRequest) : Prop := l.Pairwise (fun m n => m.lineOf ≠ n.lineOf)

-- ## Entering

@[simp] theorem MemPort.enqueue_nextId (p : MemPort) (m : MemRequest) : (p.enqueue m).nextId = p.nextId + 1 := by
  unfold MemPort.enqueue; split <;> rfl

@[simp] theorem MemPort.enqueue_orphans (p : MemPort) (m : MemRequest) : (p.enqueue m).orphans = p.orphans := by
  unfold MemPort.enqueue; split <;> rfl

/-- A request that enters is in the issue order, and nothing else joins or leaves it. -/
theorem MemPort.mem_enqueue (p : MemPort) (m x : MemRequest) :
    x ∈ (p.enqueue m).all ↔ x ∈ p.all ∨ x = { m with id := p.nextId } := by
  unfold MemPort.enqueue MemPort.all
  split <;> simp only [List.mem_append, List.mem_singleton] <;> tauto

theorem DistinctLines.snoc {l : List MemRequest} {m : MemRequest} (h : DistinctLines l)
    (g : sharesLine l m = false) : DistinctLines (l ++ [m]) := by
  unfold DistinctLines at *
  rw [List.pairwise_append]
  refine ⟨h, List.pairwise_singleton _ _, ?_⟩
  intro a ha b hb
  rw [List.mem_singleton] at hb
  subst hb
  intro e
  unfold sharesLine at g
  rw [List.any_eq_false] at g
  exact g a ha (by simp [e])

/-- Entering keeps issued requests on lines of their own (R125). -/
theorem MemPort.enqueue_lines (p : MemPort) (m : MemRequest) (h : DistinctLines p.issued) :
    DistinctLines (p.enqueue m).issued := by
  unfold MemPort.enqueue
  split
  · rename_i g
    simp only [Bool.and_eq_true, Bool.not_eq_true'] at g
    refine DistinctLines.snoc h ?_
    have := g.2
    unfold sharesLine MemRequest.lineOf at *
    exact this
  · exact h

-- ## Issuing

theorem issueFrom_lines (w i : List MemRequest) (h : DistinctLines i) : DistinctLines (issueFrom w i).2 := by
  induction w generalizing i with
  | nil => exact h
  | cons m w ih =>
    unfold issueFrom
    split
    · exact h
    · rename_i g
      exact ih _ (h.snoc (by simpa using g))

theorem mem_issueFrom (w i : List MemRequest) (x : MemRequest) :
    x ∈ (issueFrom w i).2 ++ (issueFrom w i).1 ↔ x ∈ i ++ w := by
  induction w generalizing i with
  | nil => rfl
  | cons m w ih =>
    unfold issueFrom
    split
    · rfl
    · rw [ih]
      simp only [List.mem_append, List.mem_cons]
      tauto

theorem MemPort.settle_lines (p : MemPort) (h : DistinctLines p.issued) : DistinctLines p.settle.issued :=
  issueFrom_lines _ _ h

theorem MemPort.mem_settle (p : MemPort) (x : MemRequest) : x ∈ p.settle.all ↔ x ∈ p.all :=
  mem_issueFrom _ _ x

@[simp] theorem MemPort.settle_nextId (p : MemPort) : p.settle.nextId = p.nextId := rfl
@[simp] theorem MemPort.settle_orphans (p : MemPort) : p.settle.orphans = p.orphans := rfl

-- ## Answering, restart and RST

@[simp] theorem MemPort.answered_nextId (p : MemPort) (id : Nat) : (p.answered id).nextId = p.nextId := rfl
@[simp] theorem MemPort.answered_orphans (p : MemPort) (id : Nat) : (p.answered id).orphans = p.orphans := rfl

theorem MemPort.answered_lines (p : MemPort) (id : Nat) (h : DistinctLines p.issued) :
    DistinctLines (p.answered id).issued := MemPort.settle_lines _ (List.Pairwise.filter _ h)

/-- An answer takes issued requests of its name away and nothing else. -/
theorem MemPort.mem_answered (p : MemPort) (id : Nat) (x : MemRequest) :
    x ∈ (p.answered id).all ↔ (x ∈ p.issued ∧ x.id ≠ id) ∨ x ∈ p.waiting := by
  unfold MemPort.answered
  rw [MemPort.mem_settle]
  unfold MemPort.all
  simp [List.mem_append, List.mem_filter]

theorem MemPort.restarted_lines (p : MemPort) (h : DistinctLines p.issued) : DistinctLines p.restarted.issued := by
  refine MemPort.settle_lines _ ?_
  unfold DistinctLines at *
  simp only
  rw [List.pairwise_map]
  refine h.imp ?_
  intro a b hab
  split <;> split <;> exact hab

theorem MemPort.fallen_lines (p : MemPort) : DistinctLines p.fallen.issued := List.Pairwise.nil

-- ## Growth

/-- The port after work of the part: nothing has left it, and what has joined it is the part's own. -/
structure PortGrows (p q : MemPort) : Prop where
  nextId : p.nextId ≤ q.nextId
  kept : ∀ x ∈ p.all, x ∈ q.all
  fresh : ∀ x ∈ q.all, x ∈ p.all ∨ p.nextId ≤ x.id ∧ x.id < q.nextId ∧ x.isOwn = true ∧ x.discard = false
  orphans : q.orphans = p.orphans
  lines : DistinctLines p.issued → DistinctLines q.issued

@[refl] theorem PortGrows.refl (p : MemPort) : PortGrows p p := ⟨le_rfl, fun _ h => h, fun _ h => .inl h, rfl, id⟩

theorem PortGrows.trans {p q r : MemPort} (h : PortGrows p q) (g : PortGrows q r) : PortGrows p r where
  nextId := h.nextId.trans g.nextId
  kept := fun x hx => g.kept x (h.kept x hx)
  fresh := by
    intro x hx
    rcases g.fresh x hx with hq | ⟨a, b, c, d⟩
    · rcases h.fresh x hq with hp | ⟨a, b, c, d⟩
      · exact .inl hp
      · exact .inr ⟨a, b.trans_le g.nextId, c, d⟩
    · exact .inr ⟨h.nextId.trans a, b, c, d⟩
  orphans := g.orphans.trans h.orphans
  lines := fun w => g.lines (h.lines w)

/-- An own request that enters. -/
theorem PortGrows.enqueue (p : MemPort) (m : MemRequest) (o : m.isOwn = true) (d : m.discard = false) :
    PortGrows p (p.enqueue m) where
  nextId := by simp
  kept := fun x hx => (p.mem_enqueue m x).2 (.inl hx)
  fresh := by
    intro x hx
    rcases (p.mem_enqueue m x).1 hx with h | h
    · exact .inl h
    · subst h
      exact .inr ⟨le_rfl, by simp, o, d⟩
  orphans := by simp
  lines := p.enqueue_lines m

end Sys2Proof.Machine
end

