-- ==== Sys2Proof/Laws/Frame.lean ====
section
/-! SUPPORT. What each shared operation can change, said once. Five relations, each inside the one before: the work of a
command, of the Ticket Table, of the Course Table, of the Station Table, and of the memory port alone. A law says in
which relation an operation stands, and gives every field that it keeps. -/

namespace Sys2Proof.Machine

-- ## The relations

/-- What a command of the ring keeps. -/
structure CommandWork (s t : State) : Prop where
  pending : t.pending = s.pending
  rstLow : t.rstLow = s.rstLow
  straps : t.straps = s.straps
  setup : t.setup = s.setup
  latched : t.latched = s.latched
  noticeShown : t.noticeShown = s.noticeShown
  flights : t.flights = s.flights
  portWaiting : t.portWaiting = s.portWaiting
  responses : t.responses = s.responses
  arrivals : t.arrivals = s.arrivals
  assemblies : t.assemblies = s.assemblies
  dram : t.dram = s.dram
  tickPhase : t.tickPhase = s.tickPhase
  blink : t.blink = s.blink
  ticksDue : t.ticksDue = s.ticksDue
  port : PortGrows s.port t.port

/-- What the Ticket Table keeps beside. -/
structure TicketWork (s t : State) : Prop extends CommandWork s t where
  part : t.part = s.part
  plan : t.plan = s.plan
  loader : t.loader = s.loader
  cache : t.cache = s.cache
  intake : t.intake = s.intake

/-- What the Course Table keeps beside. -/
structure CourseWork (s t : State) : Prop extends TicketWork s t where
  tickets : t.tickets = s.tickets
  locks : t.locks = s.locks
  logIndex : t.logIndex = s.logIndex

/-- What the Station Table keeps beside. -/
structure StationWork (s t : State) : Prop extends CourseWork s t where
  service : t.service = s.service
  conditions : t.conditions = s.conditions

/-- What a request of the memory port keeps beside: everything but the port. -/
structure PortWork (s t : State) : Prop extends StationWork s t where
  faults : t.faults = s.faults
  overflow : t.overflow = s.overflow
  pool : t.pool = s.pool
  courses : t.courses = s.courses
  stations : t.stations = s.stations
  marks : t.marks = s.marks

theorem CommandWork.refl (s : State) : CommandWork s s := by constructor <;> rfl
theorem TicketWork.refl (s : State) : TicketWork s s := ⟨.refl s, rfl, rfl, rfl, rfl, rfl⟩
theorem CourseWork.refl (s : State) : CourseWork s s := ⟨.refl s, rfl, rfl, rfl⟩
theorem StationWork.refl (s : State) : StationWork s s := ⟨.refl s, rfl, rfl⟩
theorem PortWork.refl (s : State) : PortWork s s := ⟨.refl s, rfl, rfl, rfl, rfl, rfl, rfl⟩

theorem CommandWork.trans {s t u : State} (h : CommandWork s t) (g : CommandWork t u) : CommandWork s u :=
  ⟨g.1.trans h.1, g.2.trans h.2, g.3.trans h.3, g.4.trans h.4, g.5.trans h.5, g.6.trans h.6, g.7.trans h.7,
    g.8.trans h.8, g.9.trans h.9, g.10.trans h.10, g.11.trans h.11, g.12.trans h.12, g.13.trans h.13, g.14.trans h.14,
    g.15.trans h.15, h.16.trans g.16⟩
theorem TicketWork.trans {s t u : State} (h : TicketWork s t) (g : TicketWork t u) : TicketWork s u :=
  ⟨h.1.trans g.1, g.2.trans h.2, g.3.trans h.3, g.4.trans h.4, g.5.trans h.5, g.6.trans h.6⟩
theorem CourseWork.trans {s t u : State} (h : CourseWork s t) (g : CourseWork t u) : CourseWork s u :=
  ⟨h.1.trans g.1, g.2.trans h.2, g.3.trans h.3, g.4.trans h.4⟩
theorem StationWork.trans {s t u : State} (h : StationWork s t) (g : StationWork t u) : StationWork s u :=
  ⟨h.1.trans g.1, g.2.trans h.2, g.3.trans h.3⟩
theorem PortWork.trans {s t u : State} (h : PortWork s t) (g : PortWork t u) : PortWork s u :=
  ⟨h.1.trans g.1, g.2.trans h.2, g.3.trans h.3, g.4.trans h.4, g.5.trans h.5, g.6.trans h.6, g.7.trans h.7⟩

/-- A fold of steps that all stand in a relation stands in it. -/
theorem foldl_rel {α : Type} {R : State → State → Prop} (refl : ∀ s, R s s)
    (trans : ∀ {s t u}, R s t → R t u → R s u) {f : State → α → State} (h : ∀ s a, R s (f s a)) (l : List α)
    (s : State) : R s (l.foldl f s) := by
  induction l generalizing s with
  | nil => exact refl s
  | cons a l ih => exact trans (h s a) (ih (f s a))

theorem CommandWork.foldl {α : Type} {f : State → α → State} (h : ∀ s a, CommandWork s (f s a)) (l : List α)
    (s : State) : CommandWork s (l.foldl f s) := foldl_rel .refl .trans h l s
theorem TicketWork.foldl {α : Type} {f : State → α → State} (h : ∀ s a, TicketWork s (f s a)) (l : List α)
    (s : State) : TicketWork s (l.foldl f s) := foldl_rel .refl .trans h l s
theorem CourseWork.foldl {α : Type} {f : State → α → State} (h : ∀ s a, CourseWork s (f s a)) (l : List α)
    (s : State) : CourseWork s (l.foldl f s) := foldl_rel .refl .trans h l s
theorem StationWork.foldl {α : Type} {f : State → α → State} (h : ∀ s a, StationWork s (f s a)) (l : List α)
    (s : State) : StationWork s (l.foldl f s) := foldl_rel .refl .trans h l s
theorem PortWork.foldl {α : Type} {f : State → α → State} (h : ∀ s a, PortWork s (f s a)) (l : List α)
    (s : State) : PortWork s (l.foldl f s) := foldl_rel .refl .trans h l s

-- ## The memory port

theorem State.issue_work (m : MemRequest) (s : State) (o : m.isOwn = true) (d : m.discard = false) :
    PortWork s (s.issue m) :=
  ⟨⟨⟨⟨⟨rfl, rfl, rfl, rfl, rfl, rfl, rfl, rfl, rfl, rfl, rfl, rfl, rfl, rfl, rfl, .enqueue _ _ o d⟩,
    rfl, rfl, rfl, rfl, rfl⟩, rfl, rfl, rfl⟩, rfl, rfl⟩, rfl, rfl, rfl, rfl, rfl, rfl⟩

theorem State.writeAnchor_work (o : OwnRequest) (off : Nat) (data : List Byte) (s : State) :
    PortWork s (s.writeAnchor o off data) := s.issue_work _ rfl rfl

theorem State.writeOwn_work (o : OwnRequest) (addr : Nat) (data : List Byte) (s : State) :
    PortWork s (s.writeOwn o addr data) := s.issue_work _ rfl rfl

theorem State.readOwn_work (o : OwnRequest) (addr len : Nat) (s : State) : PortWork s (s.readOwn o addr len) :=
  s.issue_work _ rfl rfl

theorem State.clearBump_work (st : StationId) (k : SlotId) (s : State) : PortWork s (s.clearBump st k) :=
  s.writeAnchor_work _ _ _

theorem State.flushCourses_work (s : State) : PortWork s s.flushCourses :=
  PortWork.foldl (fun t _ => t.writeAnchor_work _ _ _) _ _

theorem State.flushStations_work (s : State) : PortWork s s.flushStations :=
  PortWork.foldl (fun t _ => t.writeAnchor_work _ _ _) _ _

theorem State.flushFaults_work (s : State) : PortWork s s.flushFaults :=
  PortWork.foldl (fun t _ => t.writeAnchor_work _ _ _) _ _

theorem State.flushService_work (s : State) : PortWork s s.flushService := by
  unfold State.flushService
  split
  · exact s.writeAnchor_work _ _ _
  · exact .refl s

/-- The mirrors written early keep all but the port and the marks. -/
theorem State.flushTables_work (s : State) : StationWork s s.flushTables := by
  have h := (s.flushCourses_work.trans s.flushCourses.flushStations_work).trans
    s.flushCourses.flushStations.flushService_work
  refine h.toStationWork.trans ?_
  constructor <;> (try constructor) <;> (try constructor) <;> (try constructor) <;> rfl

-- ## Records

theorem State.updCourse_work (c : CourseId) (f : Course → Course) (s : State) : StationWork s (s.updCourse c f) := by
  constructor <;> (try constructor) <;> (try constructor) <;> (try constructor) <;> rfl

theorem State.updStation_work (st : StationId) (f : Station → Station) (s : State) :
    StationWork s (s.updStation st f) := by
  constructor <;> (try constructor) <;> (try constructor) <;> (try constructor) <;> rfl

theorem State.updBatch_work (r : Nat) (f : Batch → Batch) (s : State) : StationWork s (s.updBatch r f) := by
  constructor <;> (try constructor) <;> (try constructor) <;> (try constructor) <;> rfl

theorem State.setFault_work (i : RecordId) (r : Option FaultRecord) (s : State) : StationWork s (s.setFault i r) := by
  constructor <;> (try constructor) <;> (try constructor) <;> (try constructor) <;> rfl

theorem State.updService_work (f : Service → Service) (s : State) : CourseWork s (s.updService f) := by
  constructor <;> (try constructor) <;> (try constructor) <;> rfl

theorem State.setCondition_work (f : Conditions → Conditions) (s : State) : CourseWork s (s.setCondition f) := by
  constructor <;> (try constructor) <;> (try constructor) <;> rfl

theorem State.updTicket_work (e : Nat) (f : Ticket → Ticket) (s : State) : TicketWork s (s.updTicket e f) := by
  constructor <;> (try constructor) <;> rfl

theorem State.lock_work (line : Nat) (s : State) : TicketWork s (s.lock line) := by
  constructor <;> (try constructor) <;> rfl

theorem State.unlock_work (line : Nat) (s : State) : TicketWork s (s.unlock line) := by
  constructor <;> (try constructor) <;> rfl

-- ## Faults

theorem State.foldFault_work (i : RecordId) (s : State) : StationWork s (s.foldFault i) := by
  unfold State.foldFault
  split
  · split
    · exact s.setFault_work _ _
    · exact .refl s
  · exact .refl s

theorem State.logFault_work (f : FaultReport) (s : State) : StationWork s (s.logFault f) := by
  unfold State.logFault
  split
  · exact s.foldFault_work _
  · split
    · exact s.setFault_work _ _
    · constructor <;> (try constructor) <;> (try constructor) <;> (try constructor) <;> rfl

theorem State.stopIfFatal_work (reason : FaultReason) (s : State) : CommandWork s (s.stopIfFatal reason) := by
  unfold State.stopIfFatal
  split
  · constructor <;> rfl
  · exact .refl s

/-- A fault changes the log, its marks, and at most the part state. -/
theorem State.recordFault_work (f : FaultReport) (s : State) : CommandWork s (s.recordFault f) :=
  (s.logFault_work f).toCommandWork.trans ((s.logFault f).stopIfFatal_work _)

/-- A fault of no fatal reason only enters the log. -/
theorem State.recordFault_mild (f : FaultReport) (s : State) (h : f.reason.isFatal = false) :
    s.recordFault f = s.logFault f := by
  unfold State.recordFault State.stopIfFatal
  rw [h]; rfl

theorem State.recordFault_mild_work (f : FaultReport) (s : State) (h : f.reason.isFatal = false) :
    StationWork s (s.recordFault f) := by
  rw [s.recordFault_mild f h]; exact s.logFault_work f

-- ## Stations

theorem State.joinQueue_work (r : Nat) (st : StationId) (s : State) : StationWork s (s.joinQueue r st) := by
  unfold State.joinQueue
  split
  · exact s.updStation_work _ _
  · exact .refl s

theorem State.ackReload_work (st : StationId) (s : State) : StationWork s (s.ackReload st) := s.updStation_work _ _

theorem State.departTimer_work (st : StationId) (s : State) : StationWork s (s.departTimer st) := by
  unfold State.departTimer
  split
  · exact .refl s
  · exact s.updStation_work _ _

theorem State.showTimer_work (st : StationId) (s : State) : StationWork s (s.showTimer st) := by
  unfold State.showTimer
  split
  · exact .refl s
  · exact s.updStation_work _ _

theorem State.markLate_work (r : Nat) (c : CourseId) (s : State) : StationWork s (s.markLate r c) := by
  unfold State.markLate
  split
  · split
    · exact .refl s
    · exact (s.updBatch_work _ _).trans (State.updCourse_work _ _ _)
  · exact .refl s

theorem State.judgeShow_work (r : Nat) (s : State) : StationWork s (s.judgeShow r) := by
  unfold State.judgeShow
  split
  · split
    · split
      · exact s.markLate_work _ _
      · exact .refl s
    · exact .refl s
  · exact .refl s

theorem State.showAt_work (st : StationId) (r : Nat) (k : SlotId) (s : State) : StationWork s (s.showAt st r k) :=
  ((((s.showTimer_work _).trans (State.updStation_work _ _ _)).trans (State.updBatch_work _ _ _)).trans
    (State.judgeShow_work _ _)).trans (State.clearBump_work _ _ _).toStationWork

theorem State.showHead_work (st : StationId) (s : State) : StationWork s (s.showHead st) := by
  unfold State.showHead
  split
  · exact s.showAt_work _ _ _
  · exact .refl s

theorem State.showLoop_work (st : StationId) (n : Nat) (s : State) : StationWork s (s.showLoop st n) := by
  induction n generalizing s with
  | zero => exact .refl s
  | succ n ih =>
    unfold State.showLoop
    split
    · exact (s.showHead_work st).trans (ih _)
    · exact .refl s

theorem State.checkShow_work (st : StationId) (s : State) : StationWork s (s.checkShow st) := s.showLoop_work st 16

theorem State.moveTo_work (r : Nat) (b : StationId) (s : State) : StationWork s (s.moveTo r b) :=
  ((s.updBatch_work _ _).trans (State.joinQueue_work _ _ _)).trans (State.checkShow_work _ _)

theorem State.batchFault_reason (r : Nat) (f : FaultReport) (s : State) : (s.batchFault r f).reason = f.reason := by
  unfold State.batchFault
  split
  · split <;> rfl
  · rfl

theorem State.strand_work (r : Nat) (st : StationId) (sub : Nat) (s : State) : StationWork s (s.strand r st sub) := by
  unfold State.strand
  refine ((s.updBatch_work _ _).trans (State.updStation_work _ _ _)).trans (State.recordFault_mild_work _ _ ?_)
  rw [State.batchFault_reason]; rfl

theorem State.enterStation_work (r : Nat) (st : StationId) (s : State) : StationWork s (s.enterStation r st) := by
  have h : StationWork s ((s.joinQueue r st).checkShow st) := (s.joinQueue_work r st).trans (State.checkShow_work _ _)
  unfold State.enterStation
  split
  · exact h
  · exact h
  · split
    · exact s.moveTo_work _ _
    · exact s.strand_work _ _ _
  · split
    · exact s.moveTo_work _ _
    · exact h

theorem State.enter_work (r : Nat) (s : State) : StationWork s (s.enter r) := by
  unfold State.enter
  split
  · exact s.enterStation_work _ _
  · exact .refl s

theorem State.returnOpen_work (st : StationId) (s : State) : StationWork s (s.returnOpen st) :=
  (s.updStation_work _ _).trans (State.checkShow_work _ _)

theorem State.closeOut_work (st : StationId) (b : Option StationId) (r : Nat) (s : State) :
    StationWork s (s.closeOut st b r) := by
  unfold State.closeOut
  split
  · exact s.moveTo_work _ _
  · exact s.strand_work _ _ _

theorem State.stationOpen_work (st : StationId) (s : State) : StationWork s (s.stationOpen st).2 := by
  unfold State.stationOpen
  split
  · exact (s.updStation_work _ _).trans (State.checkShow_work _ _)
  · exact s.returnOpen_work _
  · exact .refl s
  · exact .refl s

theorem State.stationClose_work (st : StationId) (s : State) : StationWork s (s.stationClose st).2 := by
  unfold State.stationClose
  split
  · exact (s.updStation_work _ _).trans (StationWork.foldl (fun t r => t.closeOut_work _ _ r) _ _)
  · exact .refl s

theorem State.stationPause_work (st : StationId) (s : State) : StationWork s (s.stationPause st).2 := by
  unfold State.stationPause
  split
  · dsimp only
    exact s.updStation_work _ _
  · exact .refl s

theorem State.stationUnpause_work (st : StationId) (s : State) : StationWork s (s.stationUnpause st).2 := by
  unfold State.stationUnpause
  split
  · exact (s.updStation_work _ _).trans (State.checkShow_work _ _)
  · exact .refl s

theorem State.stationBackup_work (st : StationId) (v : Nat) (s : State) : StationWork s (s.stationBackup st v).2 := by
  unfold State.stationBackup
  split
  · exact .refl s
  · dsimp only
    exact s.updStation_work _ _

theorem State.stationCapacity_work (st : StationId) (v : Nat) (s : State) :
    StationWork s (s.stationCapacity st v).2 := by
  unfold State.stationCapacity
  split
  · exact .refl s
  · exact (s.updStation_work _ _).trans (State.checkShow_work _ _)

theorem State.stationRelease_work (st : StationId) (v : Nat) (s : State) : StationWork s (s.stationRelease st v).2 := by
  unfold State.stationRelease
  split
  · exact .refl s
  · split
    · exact .refl s
    · exact (s.updStation_work _ _).trans (StationWork.foldl (fun t r => t.moveTo_work r _) _ _)

/-- A STATION command changes the stations, the batches and late counts, and the fault log. -/
theorem State.stationCommand_work (a : StationAction) (st v : Nat) (s : State) :
    StationWork s (s.stationCommand a st v).2 := by
  unfold State.stationCommand
  split
  · exact .refl s
  · split
    · exact s.stationOpen_work _
    · exact s.stationClose_work _
    · exact s.stationPause_work _
    · exact s.stationUnpause_work _
    · exact s.stationBackup_work _ _
    · exact s.stationCapacity_work _ _
    · exact s.stationRelease_work _ _

-- ## Acknowledgement and expiry

theorem State.acknowledge_work (st : StationId) (k : SlotId) (r : Nat) (s : State) :
    StationWork s (s.acknowledge st k r) :=
  ((s.updBatch_work _ _).trans (State.updStation_work _ _ _)).trans (State.ackReload_work _ _)

theorem State.countReturn_work (st : StationId) (s : State) : StationWork s (s.countReturn st) := by
  unfold State.countReturn
  split
  · split
    · exact s.returnOpen_work _
    · exact s.updStation_work _ _
  · exact .refl s

theorem State.linkRead_work (st : StationId) (k : SlotId) (s : State) : StationWork s (s.linkRead st k) := by
  unfold State.linkRead
  split
  · split
    · exact (s.acknowledge_work _ _ _).trans (State.countReturn_work _ _)
    · exact s.countReturn_work _
  · exact s.countReturn_work _

theorem State.moveSlot_work (st b : StationId) (k : SlotId) (s : State) : StationWork s (s.moveSlot st b k) := by
  unfold State.moveSlot
  split
  · exact (s.updStation_work _ _).trans (State.moveTo_work _ _ _)
  · exact .refl s

theorem State.moveWork_work (st b : StationId) (s : State) : StationWork s (s.moveWork st b) :=
  ((StationWork.foldl (fun t k => t.moveSlot_work st b k) _ s).trans (State.updStation_work _ _ _)).trans
    (StationWork.foldl (fun t r => t.moveTo_work r b) _ _)

theorem State.goDown_work (st : StationId) (s : State) : CourseWork s (s.goDown st) := by
  have h : CourseWork s (((s.updStation st (fun x => { x with state := .down, progress := 0 })).recordFault
      (s.downFault st)).setCondition (fun n => { n with down := true })) :=
    ((s.updStation_work _ _).trans (State.recordFault_mild_work _ _ rfl)).toCourseWork.trans
      (State.setCondition_work _ _)
  unfold State.goDown
  simp only
  split
  · exact h.trans (State.moveWork_work _ _ _).toCourseWork
  · exact h.trans (State.recordFault_mild_work _ _ rfl).toCourseWork

/-- An expiry changes what a DOWN transition changes. -/
theorem State.expire_work (st : StationId) (s : State) : CourseWork s (s.expire st) := by
  have h := s.updStation_work st Station.retried
  have g : ∀ (p : Prop) [Decidable p], CourseWork s
      (if p then (s.updStation st Station.retried).goDown st else s.updStation st Station.retried) := by
    intro p _
    split
    · exact h.toCourseWork.trans (State.goDown_work _ _)
    · exact h.toCourseWork
  unfold State.expire
  split
  · exact g _
  · exact g _
  · exact (s.updStation_work _ _).toCourseWork
  · exact .refl s

theorem State.takeTick_work (st : StationId) (s : State) : CourseWork s (s.takeTick st) := by
  unfold State.takeTick
  split
  · exact .refl s
  · split
    · exact s.expire_work _
    · exact (s.updStation_work _ _).toCourseWork

theorem State.takeSparedTick_work (st : StationId) (s : State) : StationWork s (s.takeSparedTick st) := by
  unfold State.takeSparedTick
  split
  · exact .refl s
  · exact s.updStation_work _ _

theorem State.takeOwed_work (st : StationId) (s : State) : CourseWork s (s.takeOwed st) := by
  have h : StationWork s (s.setTickMark .clear st) := s.updStation_work _ _
  unfold State.takeOwed
  split
  · exact h.toCourseWork.trans (State.takeTick_work _ _)
  · exact (h.trans (State.takeSparedTick_work _ _)).toCourseWork
  all_goals exact .refl s

theorem State.lowerTimer_work (st : StationId) (s : State) : StationWork s (s.lowerTimer st) := by
  have h : StationWork s (s.setTickMark .clear st) := s.updStation_work _ _
  unfold State.lowerTimer
  split
  · exact h
  · exact h.trans (State.takeSparedTick_work _ _)
  all_goals
    split
    · exact .refl s
    · split <;> exact s.updStation_work _ _

theorem State.lowerTimers_work (s : State) : StationWork s s.lowerTimers :=
  StationWork.foldl (fun t st => t.lowerTimer_work st) _ s

theorem State.ackTimerExpiry_work (st : StationId) (s : State) : CourseWork s (s.ackTimerExpiry st) := by
  unfold State.ackTimerExpiry
  split
  · split
    · exact s.takeOwed_work st
    · exact s.takeOwed_work st
    · split
      · exact (s.updStation_work _ _).toCourseWork.trans (State.expire_work _ _)
      · exact .refl s
    all_goals exact .refl s
  · exact .refl s

-- ## Courses

theorem State.makeDue_work (r : Nat) (s : State) : StationWork s (s.makeDue r) := by
  unfold State.makeDue
  split
  · split
    · simp only
      split
      · exact (s.updBatch_work _ _).trans (State.markLate_work _ _ _)
      · exact s.updBatch_work _ _
    · exact .refl s
  · exact .refl s

/-- A release changes the batches, the late counts, the stations and the fault log. -/
theorem State.release_work (rs : List Nat) (s : State) : StationWork s (s.release rs) :=
  (StationWork.foldl (fun t r => t.makeDue_work r) rs s).trans (StationWork.foldl (fun t r => t.enter_work r) rs _)

theorem State.fireCourse_work (c : CourseId) (n : Nat) (s : State) : StationWork s (s.fireCourse c n) :=
  (s.updCourse_work _ _).trans (State.release_work _ _)

theorem State.autoFire_work (c : CourseId) (s : State) : StationWork s (s.autoFire c) := by
  unfold State.autoFire
  split
  · split
    · exact s.fireCourse_work _ _
    · exact s.recordFault_mild_work _ rfl
  · exact .refl s

theorem State.stage_work (c : CourseId) (s : State) : StationWork s (s.stage c) := by
  unfold State.stage
  split
  · exact s.updCourse_work _ _
  · exact .refl s

theorem State.call_work (c : CourseId) (s : State) : CourseWork s (s.call c) := by
  have h : CourseWork s ((s.stage c).autoFire c) := ((s.stage_work c).trans (State.autoFire_work _ _)).toCourseWork
  have g : CourseWork s
      ((s.updService (fun v => { v with state := .stalled })).setCondition (fun n => { n with stall := true })) :=
    (s.updService_work _).trans (State.setCondition_work _ _)
  unfold State.call
  split <;> first | exact h | exact g

theorem State.callCurrent_work (s : State) : CourseWork s s.callCurrent := by
  unfold State.callCurrent
  split
  · exact s.call_work _
  · exact .refl s

theorem State.applyList_work (l : CourseList) (s : State) : CourseWork s (s.applyList l) :=
  ((s.updService_work _).trans (CourseWork.foldl (fun t c => (t.stage_work c).toCourseWork) _ _)).trans
    (State.callCurrent_work _)

theorem State.resolveStall_work (c : CourseId) (s : State) : CourseWork s (s.resolveStall c) := by
  unfold State.resolveStall
  split
  · exact ((s.updCourse_work _ _).toCourseWork.trans (State.updService_work _ _)).trans
      (State.autoFire_work _ _).toCourseWork
  · exact .refl s

theorem State.clearIfDone_work (c : CourseId) (s : State) : CourseWork s (s.clearIfDone c) := by
  unfold State.clearIfDone
  split
  · exact ((s.updCourse_work _ _).toCourseWork.trans (State.setCondition_work _ _)).trans (State.resolveStall_work _ _)
  · exact .refl s

theorem State.boundary_work (s : State) : CourseWork s s.boundary := by
  unfold State.boundary
  split
  · exact (s.updService_work _).trans (State.applyList_work _ _)
  · split
    · exact (s.updService_work _).trans (State.callCurrent_work _)
    · split
      · exact (s.updService_work _).trans (State.callCurrent_work _)
      · exact (s.updService_work _).trans (State.setCondition_work _ _)

theorem State.passAll_work (passing : List CourseId) (s : State) : CourseWork s (s.passAll passing) := by
  have h : CourseWork s (passing.foldl (fun u c => u.clearIfDone c) (passing.foldl State.pass s)) :=
    (CourseWork.foldl (fun t c => (t.updCourse_work c _).toCourseWork) _ s).trans
      (CourseWork.foldl (fun t c => t.clearIfDone_work c) _ _)
  unfold State.passAll
  simp only
  split
  · exact h.trans (State.boundary_work _)
  · exact h

/-- A tick at the Course Table changes courses, service, batches, stations, conditions and the fault log. -/
theorem State.courseTick_work (s : State) : CourseWork s s.courseTick :=
  ((StationWork.foldl (fun t c => t.updCourse_work c _) _ s).trans
    (State.release_work _ _)).toCourseWork.trans (State.passAll_work _ _)

theorem State.takersTick_work (o : TickOrder) (s : State) : CourseWork s (s.takersTick o) := by
  cases o
  · exact s.courseTick_work.trans (State.lowerTimers_work _).toCourseWork
  · exact s.lowerTimers_work.toCourseWork.trans (State.courseTick_work _)

theorem State.fireCommand_work (c n : Nat) (s : State) : StationWork s (s.fireCommand c n).2 := by
  unfold State.fireCommand
  split
  · exact .refl s
  · split
    · exact .refl s
    · split
      · exact .refl s
      · exact s.fireCourse_work _ _

theorem State.holdCommand_work (c : Nat) (s : State) : StationWork s (s.holdCommand c).2 := by
  unfold State.holdCommand
  split
  · exact .refl s
  · split
    · exact .refl s
    · dsimp only
      exact s.updCourse_work _ _

theorem State.resumeCommand_work (c : Nat) (s : State) : StationWork s (s.resumeCommand c).2 := by
  unfold State.resumeCommand
  split
  · exact .refl s
  · split
    · exact .refl s
    · dsimp only
      exact s.updCourse_work _ _

theorem State.serviceCommand_work (count cycle : Nat) (cs : List Nat) (s : State) :
    CourseWork s (s.serviceCommand count cycle cs).2 := by
  have h : ∀ l, CourseWork s (s.serviceList l).2 := by
    intro l
    unfold State.serviceList
    split <;> first | exact s.applyList_work _ | (dsimp only; exact s.updService_work _)
  unfold State.serviceCommand
  split
  · exact .refl s
  · split
    · exact .refl s
    · split
      · exact .refl s
      · exact h _

-- ## Tickets

theorem State.admitTicket_work (t : Ticket) (e : Nat) (bs : List Batch) (s : State) :
    TicketWork s (s.admitTicket t e bs) := by
  constructor <;> (try constructor) <;> rfl

theorem State.replaceBatches_work (t : Ticket) (e : Nat) (bs : List Batch) (s : State) :
    TicketWork s (s.replaceBatches t e bs) := by
  constructor <;> (try constructor) <;> rfl

theorem State.releaseNew_work (c : CourseId) (rs : List Nat) (s : State) : StationWork s (s.releaseNew c rs) := by
  unfold State.releaseNew
  split <;> first | exact s.release_work _ | exact .refl s

theorem State.postCommit_work (t : Ticket) (d : DishRecord) (s : State) : TicketWork s (s.postCommit t d).2 := by
  unfold State.postCommit
  split
  · exact s.unlock_work _
  · split
    · exact s.unlock_work _
    · split
      · exact s.unlock_work _
      · exact (s.admitTicket_work _ _ _).trans (State.releaseNew_work _ _ _).toTicketWork

theorem State.amendCommit_work (line : Nat) (f : AmendField) (v : Nat) (d : DishRecord) (s : State) :
    TicketWork s (s.amendCommit line f v d).2 := by
  unfold State.amendCommit
  split
  · exact .refl s
  · split
    · exact .refl s
    · split
      · exact .refl s
      · split
        · exact .refl s
        · exact (s.replaceBatches_work _ _ _).trans (State.releaseNew_work _ _ _).toTicketWork

theorem State.touchDish_work (dish : Nat) (d : DishRecord) (s : State) : CommandWork s (s.touchDish dish d) := by
  constructor <;> rfl

theorem State.insertRecord_work (dish : Nat) (d : DishRecord) (s : State) : CommandWork s (s.insertRecord dish d) := by
  constructor <;> rfl

theorem State.issueFill_work (dish : Nat) (s : State) : PortWork s (s.issueFill dish) := s.readOwn_work _ _ _

theorem State.lineReturned_work (line : Nat) (bs : List Byte) (s : State) : CommandWork s (s.lineReturned line bs).2 := by
  unfold State.lineReturned
  split
  · exact (s.unlock_work _).toCommandWork
  · unfold State.postLookup
    split
    · exact (s.touchDish_work _ _).trans (State.postCommit_work _ _ _).toCommandWork
    · exact (s.issueFill_work _).toCommandWork

theorem State.postCommand_work (line : Nat) (s : State) : TicketWork s (s.postCommand line).2 := by
  unfold State.postCommand
  split
  · exact .refl s
  · split
    · exact .refl s
    · split
      · exact .refl s
      · exact (s.lock_work _).trans (State.readOwn_work _ _ _ _).toTicketWork

theorem State.rushBatch_work (v : Bool) (r : Nat) (s : State) : StationWork s (s.rushBatch v r) := by
  unfold State.rushBatch
  split
  · split <;> first
      | exact s.updBatch_work _ _
      | exact ((s.updBatch_work _ _).trans (State.updStation_work _ _ _)).trans (State.checkShow_work _ _)
      | exact .refl s
  · exact .refl s

theorem State.retargetBatch_work (st : StationId) (r : Nat) (s : State) : StationWork s (s.retargetBatch st r) := by
  unfold State.retargetBatch
  split
  · split
    · exact .refl s
    · split <;> first
        | exact s.updBatch_work _ _
        | exact ((s.updStation_work _ _).trans (State.updBatch_work _ _ _)).trans (State.enterStation_work _ _ _)
        | exact .refl s
  · exact .refl s

theorem State.amendCommand_work (f : AmendField) (line v : Nat) (s : State) :
    CommandWork s (s.amendCommand f line v).2 := by
  have h : ∀ t g, CommandWork s (s.amendResplit line t g v).2 := by
    intro t g
    unfold State.amendResplit
    split
    · exact .refl s
    · split
      · exact (s.touchDish_work _ _).trans (State.amendCommit_work _ _ _ _ _).toCommandWork
      · exact (s.issueFill_work _).toCommandWork
  unfold State.amendCommand
  split
  · exact .refl s
  · split
    · exact .refl s
    · split
      · exact .refl s
      · split
        · exact .refl s
        · unfold State.amendApply
          split <;> first
            | exact h _ _
            | exact ((s.updTicket_work _ _).trans
                (StationWork.foldl (fun t r => t.rushBatch_work _ r) _ _).toTicketWork).toCommandWork
            | exact ((s.updTicket_work _ _).trans
                (StationWork.foldl (fun t r => t.retargetBatch_work _ r) _ _).toTicketWork).toCommandWork

theorem State.freeEntry_work (e : Nat) (t : Ticket) (s : State) : TicketWork s (s.freeEntry e t) := by
  refine (State.writeAnchor_work .finishedLog (offFinished s.logIndex) (finishedBytes t (s.outcome t))
    s).toTicketWork.trans ?_
  constructor <;> (try constructor) <;> rfl

theorem State.countFinish_work (e : Nat) (c : CourseId) (s : State) : TicketWork s (s.countFinish e c) :=
  (s.updTicket_work _ _).trans (State.updCourse_work _ _ _).toTicketWork

/-- A finish changes what the Ticket Table and the Course Table hold. -/
theorem State.finishBatch_work (r : Nat) (st : BatchState) (s : State) : TicketWork s (s.finishBatch r st) := by
  unfold State.finishBatch
  split
  · exact .refl s
  · split
    · exact .refl s
    · simp only
      refine TicketWork.trans ?_ (State.clearIfDone_work _ _).toTicketWork
      split
      · exact ((s.updBatch_work _ _).toTicketWork.trans (State.countFinish_work _ _ _)).trans
          (State.freeEntry_work _ _ _)
      · exact (s.updBatch_work _ _).toTicketWork.trans (State.countFinish_work _ _ _)

theorem State.voidBatch_work (r : Nat) (s : State) : TicketWork s (s.voidBatch r) := by
  unfold State.voidBatch
  split
  · exact .refl s
  · split
    · exact s.finishBatch_work _ _
    · exact (s.updStation_work _ _).toTicketWork.trans (State.finishBatch_work _ _ _)
    · exact (s.updStation_work _ _).toTicketWork.trans (State.finishBatch_work _ _ _)
    · exact (((((s.updStation_work _ _).trans (State.clearBump_work _ _ _).toStationWork).trans
        (State.departTimer_work _ _)).toTicketWork).trans (State.finishBatch_work _ _ _)).trans
        (State.checkShow_work _ _).toTicketWork
    · exact (s.updBatch_work _ _).toTicketWork
    · exact .refl s
    · exact .refl s

theorem State.voidCommand_work (line : Nat) (s : State) : TicketWork s (s.voidCommand line).2 := by
  unfold State.voidCommand
  split
  · exact .refl s
  · split
    · exact .refl s
    · split
      · exact .refl s
      · exact (s.updTicket_work _ _).trans (TicketWork.foldl (fun t r => t.voidBatch_work r) _ _)

-- ## Bumps

theorem State.doneBump_work (st : StationId) (k : SlotId) (r : Nat) (b : Batch) (s : State) :
    TicketWork s (s.doneBump st k r b) := by
  unfold State.doneBump
  simp only
  refine TicketWork.trans (TicketWork.trans (TicketWork.trans ?_ (State.updStation_work _ _ _).toTicketWork)
    (State.finishBatch_work _ _ _)) (State.checkShow_work _ _).toTicketWork
  split
  · exact (s.acknowledge_work _ _ _).toTicketWork
  · exact .refl s

theorem State.rejectBump_work (st : StationId) (k : SlotId) (r : Nat) (b : Batch) (s : State) :
    TicketWork s (s.rejectBump st k r b) := by
  have p : ∀ t : State, TicketWork t (t.placeRejected st r b) := by
    intro t
    unfold State.placeRejected
    split
    · exact t.finishBatch_work _ _
    · split
      · exact (t.moveTo_work _ _).toTicketWork
      · exact (t.strand_work _ _ _).toTicketWork
  unfold State.rejectBump
  simp only
  refine TicketWork.trans (TicketWork.trans ?_ (p _)) (State.checkShow_work _ _).toTicketWork
  split
  · exact ((s.updStation_work _ _).trans (State.departTimer_work _ _)).toTicketWork
  · exact (s.updStation_work _ _).toTicketWork

theorem State.bumpEffect_work (p : WindowPlace) (code r : Nat) (b : Batch) (s : State) :
    TicketWork s (s.bumpEffect p code r b) := by
  unfold State.bumpEffect
  split
  · exact s.doneBump_work _ _ _ _
  · split
    · exact s.rejectBump_work _ _ _ _
    · exact .refl s

-- ## Completion and the other commands

theorem State.tryFetch_work (s : State) : CommandWork s s.tryFetch := by
  unfold State.tryFetch
  split
  · refine (s.readOwn_work .entryFetch s.headAddr 32).toCommandWork.trans ?_
    constructor <;> rfl
  · exact .refl s

theorem State.writeStatus_work (status : Status) (result : Nat) (s : State) :
    StationWork s (s.writeStatus status result) :=
  s.flushTables_work.trans (State.writeOwn_work _ _ _ _).toStationWork

theorem State.advanceHead_work (s : State) : CommandWork s s.advanceHead := by constructor <;> rfl

theorem State.writeHead_work (s : State) : PortWork s s.writeHead := s.writeAnchor_work _ _ _

theorem State.notifyIf_work (notify : Bool) (s : State) : CourseWork s (s.notifyIf notify) := by
  unfold State.notifyIf
  split
  · exact s.setCondition_work _
  · exact .refl s

/-- A completion changes the intake, the port, the conditions and the marks. -/
theorem State.complete_work (notify : Bool) (status : Status) (result : Nat) (s : State) :
    CommandWork s (s.complete notify status result) :=
  ((((s.writeStatus_work _ _).toCommandWork.trans (State.advanceHead_work _)).trans
    (State.writeHead_work _).toCommandWork).trans (State.notifyIf_work _ _).toCommandWork).trans
    (State.tryFetch_work _)

theorem State.finishCommand_work (notify : Bool) (e : CommandEnd × State) :
    CommandWork e.2 (State.finishCommand notify e) := by
  unfold State.finishCommand
  split
  · exact e.2.complete_work _ _ _
  · constructor <;> rfl

theorem State.flushCommand_work (k : FlushKind) (target : Nat) (s : State) :
    CommandWork s (s.flushCommand k target).2 := by
  unfold State.flushCommand
  split
  · constructor <;> rfl
  · split
    · exact .refl s
    · constructor <;> rfl
  · split
    · exact .refl s
    · constructor <;> rfl

theorem State.readPlanLine_work (l : PlanLoad) (s : State) : CommandWork s (s.readPlanLine l) := by
  refine CommandWork.trans (t := { s with loader := .planning l }) ?_ (State.readOwn_work _ _ _ _).toCommandWork
  constructor <;> rfl

theorem State.planCommand_work (addr : Nat) (s : State) : CommandWork s (s.planCommand addr).2 := by
  unfold State.planCommand
  split
  · exact .refl s
  · split
    · exact .refl s
    · split
      · exact .refl s
      · exact s.readPlanLine_work _

/-- A command handed to its owner. -/
theorem State.perform_work (c : Command) (s : State) : CommandWork s (s.perform c).2 := by
  unfold State.perform
  split
  · exact .refl s
  · exact (s.postCommand_work _).toCommandWork
  · exact s.amendCommand_work _ _ _
  · unfold State.amendOtherCommand
    split
    · exact .refl s
    · split <;> exact .refl s
  · exact (s.voidCommand_work _).toCommandWork
  · exact (s.fireCommand_work _ _).toCommandWork
  · exact (s.holdCommand_work _).toCommandWork
  · exact (s.resumeCommand_work _).toCommandWork
  · exact (s.serviceCommand_work _ _ _).toCommandWork
  · exact (s.stationCommand_work _ _ _).toCommandWork
  · exact .refl s
  · exact s.flushCommand_work _ _
  · exact .refl s
  · unfold State.fenceCommand
    split <;> exact .refl s
  · exact s.planCommand_work _
  · exact .refl s

/-- The taking of an entry keeps what a command keeps. -/
theorem State.takeCommand_work (notify : Bool) (c : Command) (s : State) : CommandWork s (s.takeCommand notify c) := by
  unfold State.takeCommand
  refine CommandWork.trans ?_ (State.finishCommand_work _ _)
  unfold State.judge
  split
  · exact .refl s
  · split
    · exact .refl s
    · exact s.perform_work _

theorem State.entryFetched_work (a : Answer) (m : MemRequest) (bs : List Byte) (s : State) :
    CommandWork s (s.entryFetched a m bs) := by
  unfold State.entryFetched
  split
  · split
    · exact .refl s
    · exact s.takeCommand_work _ _
  · simp only
    split
    · exact s.recordFault_work _
    · exact (s.recordFault_work _).trans (State.complete_work _ _ _ _)

theorem State.lineFetched_work (a : Answer) (m : MemRequest) (bs : List Byte) (s : State) :
    CommandWork s (s.lineFetched a m bs) := by
  unfold State.lineFetched
  split
  · split
    · split
      · exact .refl s
      · exact (s.lineReturned_work _ _).trans (State.finishCommand_work _ _)
    · simp only
      split
      · exact s.recordFault_work _
      · exact ((s.recordFault_work _).trans (State.unlock_work _ _).toCommandWork).trans
          (State.finishCommand_work _ (CommandEnd.ended .memoryError 0, _))
  · exact .refl s

theorem State.dishFilled_work (a : Answer) (m : MemRequest) (bs : List Byte) (s : State) :
    CommandWork s (s.dishFilled a m bs) := by
  have good : ∀ notify dish (fail : State → State) commit, (∀ t, CommandWork t (fail t)) →
      (∀ d t, CommandWork t (commit d t).2) → CommandWork s (s.fillReturned notify dish bs fail commit) := by
    intro notify dish fail commit hf hc
    unfold State.fillReturned
    split
    · split
      · exact .refl s
      · exact (hf s).trans (State.finishCommand_work _ (CommandEnd.ended .badDish _, _))
    · simp only
      split
      · exact s.insertRecord_work _ _
      · exact ((s.insertRecord_work _ _).trans (hc _ _)).trans (State.finishCommand_work _ _)
  have bad : ∀ notify f (fail : State → State), (∀ t, CommandWork t (fail t)) →
      CommandWork s (s.fillFailed notify f fail) := by
    intro notify f fail hf
    unfold State.fillFailed
    simp only
    split
    · exact s.recordFault_work _
    · exact ((s.recordFault_work _).trans (hf _)).trans
        (State.finishCommand_work _ (CommandEnd.ended .memoryError 0, _))
  unfold State.dishFilled
  split
  · split
    · exact good _ _ _ _ (fun t => (t.unlock_work _).toCommandWork) (fun d t => (t.postCommit_work _ _).toCommandWork)
    · exact bad _ _ _ (fun t => (t.unlock_work _).toCommandWork)
  · split
    · exact good _ _ _ _ (fun t => .refl t) (fun d t => (t.amendCommit_work _ _ _ _).toCommandWork)
    · exact bad _ _ _ (fun t => .refl t)
  · exact .refl s

theorem State.fenceAnswered_work (id : Nat) (okay : Bool) (s : State) : CommandWork s (s.fenceAnswered id okay) := by
  unfold State.fenceAnswered
  split
  · split
    · simp only
      split
      · exact s.complete_work _ _ _
      · constructor <;> rfl
    · exact .refl s
  · exact .refl s

theorem State.ownWriteReturned_work (a : Answer) (m : MemRequest) (bs : List Byte) (s : State) :
    CommandWork s (s.ownWriteReturned a m bs) := by
  unfold State.ownWriteReturned
  refine CommandWork.trans ?_ (State.fenceAnswered_work _ _ _)
  split
  · exact .refl s
  · unfold State.ownWriteFailed
    split
    · split
      · exact s.recordFault_work _
      · exact .refl s
    all_goals exact .refl s

theorem State.takeTail_work (v : Nat) (s : State) : CommandWork s (s.takeTail v) := by
  have h : ∀ t : State, CommandWork s (({ s with intake := { s.intake with tail := v } } : State).tryFetch) :=
    fun _ => CommandWork.trans (by constructor <;> rfl) (State.tryFetch_work _)
  unfold State.takeTail State.badTail
  split
  · exact .refl s
  · constructor <;> rfl
  all_goals
    split
    · exact s.recordFault_work _
    · split
      · exact s.recordFault_work _
      · exact h s

-- ## The end of an event

/-- Work of the port alone is a change of the port alone. -/
theorem PortWork.only {s t : State} (h : PortWork s t) : t = { s with port := t.port } := by
  obtain ⟨⟨⟨⟨⟨h1, h2, h3, h4, h5, h6, h7, h8, h9, h10, h11, h12, h13, h14, h15, _⟩, h16, h17, h18, h19, h20⟩,
    h21, h22, h23⟩, h24, h25⟩, h26, h27, h28, h29, h30, h31⟩ := h
  cases s; cases t
  simp_all

/-- The conditions that hold follow the log and the conditions. -/
theorem State.shown_eq {s t : State} (f : t.faults = s.faults) (o : t.overflow = s.overflow)
    (c : t.conditions = s.conditions) (l : t.latched = s.latched) : t.shown = s.shown := by
  unfold State.shown State.holding State.mask State.faultHolds
  rw [f, o, c, l]

theorem State.flushTables_only (s : State) :
    s.flushTables = { s with
      port := s.flushTables.port
      marks := { courses := [], stations := [], service := false, faults := s.marks.faults } } := by
  have h := ((s.flushCourses_work.trans s.flushCourses.flushStations_work).trans
    s.flushCourses.flushStations.flushService_work).only
  unfold State.flushTables
  rw [h]

theorem State.flushNotice_only (s : State) :
    s.flushNotice = { s with port := s.flushNotice.port, noticeShown := s.shown } := by
  unfold State.flushNotice
  split
  · rename_i h; cases s; simp_all
  · rfl

/-- The end of an event changes the port, the marks and the notice word last written. -/
theorem State.closeEvent_only (s : State) :
    s.closeEvent = { s with port := s.closeEvent.port, marks := Marks.empty, noticeShown := s.shown } := by
  have h := s.flushTables.flushFaults_work
  have sh : s.flushTables.flushFaults.shown = s.shown := by
    apply State.shown_eq
    · rw [h.faults, s.flushTables_only]
    · rw [h.overflow, s.flushTables_only]
    · rw [h.conditions, s.flushTables_only]
    · rw [h.latched, s.flushTables_only]
  have g := h.only
  unfold State.closeEvent
  simp only
  rw [State.flushNotice_only, sh]
  simp only
  rw [g]
  simp only
  rw [s.flushTables_only]

/-- The end of an event adds own writes to the port. -/
theorem State.closeEvent_port (s : State) : PortGrows s.port s.closeEvent.port := by
  have h := (s.flushTables_work.toCommandWork).port.trans (s.flushTables.flushFaults_work).port
  refine h.trans ?_
  unfold State.closeEvent State.flushNotice
  simp only
  split
  · exact .refl _
  · exact (State.writeAnchor_work _ _ _ _).port

-- ## Start-up and plans

theorem State.markAllTables_work (s : State) : StationWork s s.markAllTables := by
  constructor <;> (try constructor) <;> (try constructor) <;> (try constructor) <;> rfl

theorem State.enterIdle_work (s : State) : CommandWork s s.enterIdle := by constructor <;> rfl

theorem State.endLoad_work (o : PlanOrigin) (status : Status) (s : State) : CommandWork s (s.endLoad o status) := by
  cases o
  · exact .refl s
  · exact s.complete_work _ _ _

theorem State.planInForce_work (o : PlanOrigin) (s : State) : CommandWork s (s.planInForce o) :=
  CommandWork.trans (by constructor <;> rfl) (State.endLoad_work _ _ _)

theorem State.loadFailed_work (l : PlanLoad) (s : State) : CommandWork s (s.loadFailed l) := by
  have h := s.recordFault_work { reason := .ownReadFailed, source := 63, sub := 2, addr := l.lineAddr }
  unfold State.loadFailed
  simp only
  split
  · exact h
  · split
    · exact (h.trans (State.enterIdle_work _)).trans (State.endLoad_work _ _ _)
    · exact h.trans (CommandWork.trans (by constructor <;> rfl) (State.endLoad_work _ _ _))

theorem State.loadInvalid_work (o : PlanOrigin) (f : PlanFailure) (addr : Nat) (s : State) :
    CommandWork s (s.loadInvalid o f addr) := by
  unfold State.loadInvalid
  split
  · exact (s.recordFault_work _).trans (State.enterIdle_work _)
  · exact CommandWork.trans (by constructor <;> rfl) (State.endLoad_work _ _ _)

theorem State.putPlanLine_work (l : PlanLoad) (bs : List Byte) (s : State) : CommandWork s (s.putPlanLine l bs) := by
  unfold State.putPlanLine
  split
  · constructor <;> rfl
  · split
    · exact (StationWork.foldl (fun t j => t.updCourse_work _ _) _ _).toCommandWork
    · exact (StationWork.foldl (fun t j => t.updStation_work _ _) _ _).toCommandWork

/-- A plan line that returns keeps what a command keeps. -/
theorem State.planLineReturned_work (a : Answer) (m : MemRequest) (bs : List Byte) (s : State) :
    CommandWork s (s.planLineReturned a m bs) := by
  unfold State.planLineReturned
  split
  · split
    · split
      · exact .refl s
      · unfold State.lineChecked
        split
        · split
          · exact s.loadInvalid_work _ _ _
          · exact s.loadFailed_work _
        · unfold State.lineLoaded
          split
          · split
            · exact s.readPlanLine_work _
            · exact s.readPlanLine_work _
          · split
            · exact (s.putPlanLine_work _ _).trans (State.readPlanLine_work _ _)
            · exact (s.putPlanLine_work _ _).trans (State.planInForce_work _ _)
    · split
      · exact s.recordFault_work _
      · exact s.loadFailed_work _
  · exact .refl s

end Sys2Proof.Machine
end

