-- ==== Sys2Proof/Laws/Memory.lean ====
section
/-! SUPPORT. DRAM: every operation keeps the canonical form, and what a read gives after a write; the sparse tables:
what a lookup gives after each change. -/

namespace Sys2Proof.Machine

-- ## The canonical form

theorem Memory.wfFrom_mono {lo hi : Nat} (h : lo ≤ hi) {m : Memory} (w : Memory.wfFrom hi m = true) :
    Memory.wfFrom lo m = true := by
  cases m with
  | nil => rfl
  | cons e m =>
    obtain ⟨k, v⟩ := e
    simp only [Memory.wfFrom, Bool.and_eq_true, decide_eq_true_eq] at w ⊢
    exact ⟨⟨h.trans w.1.1, w.1.2⟩, w.2⟩

theorem Memory.wfFrom_write {lo a : Nat} (b : Byte) {m : Memory} (w : Memory.wfFrom lo m = true) (h : lo ≤ a) :
    Memory.wfFrom lo (Memory.write a b m) = true := by
  induction m generalizing lo with
  | nil =>
    unfold Memory.write
    split
    · rfl
    · rename_i hb
      simp only [Memory.wfFrom, Bool.and_eq_true, decide_eq_true_eq]
      exact ⟨⟨h, hb⟩, trivial⟩
  | cons e m ih =>
    obtain ⟨k, v⟩ := e
    have w' := w
    simp only [Memory.wfFrom, Bool.and_eq_true, decide_eq_true_eq] at w
    unfold Memory.write
    split
    · split
      · exact w'
      · rename_i hk hb
        simp only [Memory.wfFrom, Bool.and_eq_true, decide_eq_true_eq]
        exact ⟨⟨h, hb⟩, ⟨hk, w.1.2⟩, w.2⟩
    · split
      · rename_i hk
        subst hk
        split
        · exact Memory.wfFrom_mono (by omega) w.2
        · rename_i hb
          simp only [Memory.wfFrom, Bool.and_eq_true, decide_eq_true_eq]
          exact ⟨⟨h, hb⟩, w.2⟩
      · rename_i h1 h2
        simp only [Memory.wfFrom, Bool.and_eq_true, decide_eq_true_eq]
        exact ⟨w.1, ih w.2 (by omega)⟩

/-- A write of one byte keeps the canonical form. -/
theorem Memory.wf_write (a : Nat) (b : Byte) {m : Memory} (w : Memory.wf m = true) :
    Memory.wf (Memory.write a b m) = true := Memory.wfFrom_write b w (Nat.zero_le a)

/-- A write of bytes keeps the canonical form. -/
theorem Memory.wf_writeBytes (bs : List (Option Byte)) (a : Nat) {m : Memory} (w : Memory.wf m = true) :
    Memory.wf (Memory.writeBytes m a bs) = true := by
  induction bs generalizing a m with
  | nil => exact w
  | cons b bs ih =>
    cases b with
    | none => exact ih (a + 1) w
    | some b => exact ih (a + 1) (Memory.wf_write a b w)

/-- An answered request keeps the canonical form. -/
theorem serve_wf (m : MemRequest) (a : Answer) {d : Memory} (w : Memory.wf d = true) : Memory.wf (serve m a d) = true := by
  unfold serve
  split
  · exact w
  · split <;> exact Memory.wf_writeBytes _ _ w

/-- DRAM right after reset has the canonical form. -/
theorem reset_dram_wf : Memory.wf State.reset.dram = true := rfl

-- ## Reads after writes

theorem Memory.read_of_wfFrom {lo a : Nat} {m : Memory} (w : Memory.wfFrom lo m = true) (h : a < lo) :
    Memory.read a m = Config.dramFill := by
  induction m generalizing lo with
  | nil => rfl
  | cons e m ih =>
    obtain ⟨k, v⟩ := e
    simp only [Memory.wfFrom, Bool.and_eq_true, decide_eq_true_eq] at w
    unfold Memory.read
    rw [if_neg (by omega)]
    exact ih w.2 (by omega)

theorem Memory.read_write_same_from {lo a : Nat} (b : Byte) {m : Memory} (w : Memory.wfFrom lo m = true) :
    Memory.read a (Memory.write a b m) = b := by
  induction m generalizing lo with
  | nil =>
    unfold Memory.write
    split
    · rename_i h; rw [h]; rfl
    · simp [Memory.read]
  | cons e m ih =>
    obtain ⟨k, v⟩ := e
    have w' := w
    simp only [Memory.wfFrom, Bool.and_eq_true, decide_eq_true_eq] at w
    unfold Memory.write
    split
    · rename_i hk
      split
      · rename_i hb
        rw [hb]
        unfold Memory.read
        rw [if_neg (by omega)]
        exact Memory.read_of_wfFrom w.2 (by omega)
      · simp [Memory.read]
    · split
      · rename_i hk
        subst hk
        split
        · rename_i hb
          rw [hb]
          exact Memory.read_of_wfFrom w.2 (by omega)
        · simp [Memory.read]
      · rename_i h1 h2
        unfold Memory.read
        rw [if_neg (by omega)]
        exact ih w.2

/-- A written byte reads back. -/
theorem Memory.read_write_same (a : Nat) (b : Byte) {m : Memory} (w : Memory.wf m = true) :
    Memory.read a (Memory.write a b m) = b := Memory.read_write_same_from b w

/-- A write of one byte changes no other byte. -/
theorem Memory.read_write_other {a c : Nat} (h : c ≠ a) (b : Byte) (m : Memory) :
    Memory.read c (Memory.write a b m) = Memory.read c m := by
  induction m with
  | nil =>
    unfold Memory.write
    split
    · rfl
    · simp only [Memory.read]
      rw [if_neg (fun e => h e.symm)]
  | cons e m ih =>
    obtain ⟨k, v⟩ := e
    unfold Memory.write
    split
    · split
      · rfl
      · rw [Memory.read, if_neg (fun e => h e.symm)]
    · split
      · rename_i hk
        subst hk
        have : Memory.read c ((a, v) :: m) = Memory.read c m := by rw [Memory.read, if_neg (fun e => h e.symm)]
        split
        · exact this.symm
        · rw [Memory.read, if_neg (fun e => h e.symm), this]
      · simp only [Memory.read, ih]

/-- A write of bytes changes no byte outside them. -/
theorem Memory.read_writeBytes_other (bs : List (Option Byte)) {a c : Nat} (h : c < a ∨ a + bs.length ≤ c) (m : Memory) :
    Memory.read c (Memory.writeBytes m a bs) = Memory.read c m := by
  induction bs generalizing a m with
  | nil => rfl
  | cons b bs ih =>
    simp only [List.length_cons] at h
    cases b with
    | none => exact ih (by omega) m
    | some b =>
      unfold Memory.writeBytes
      rw [ih (by omega), Memory.read_write_other (by omega)]

/-- Each byte of a write of bytes: a given byte reads back, and a `none` leaves its byte. -/
theorem Memory.read_writeBytes (bs : List (Option Byte)) (a i : Nat) (h : i < bs.length) {m : Memory}
    (w : Memory.wf m = true) :
    Memory.read (a + i) (Memory.writeBytes m a bs) = (bs[i]).getD (Memory.read (a + i) m) := by
  induction bs generalizing a i m with
  | nil => simp at h
  | cons b bs ih =>
    cases i with
    | zero =>
      cases b with
      | none =>
        unfold Memory.writeBytes
        rw [Memory.read_writeBytes_other _ (by omega)]; rfl
      | some b =>
        unfold Memory.writeBytes
        rw [Memory.read_writeBytes_other _ (by omega)]
        simpa using Memory.read_write_same a b w
    | succ i =>
      have h' : i < bs.length := by simpa using h
      have e : a + (i + 1) = a + 1 + i := by omega
      cases b with
      | none =>
        unfold Memory.writeBytes
        rw [e, ih (a + 1) i h' w]; simp
      | some b =>
        unfold Memory.writeBytes
        rw [e, ih (a + 1) i h' (Memory.wf_write a b w), Memory.read_write_other (by omega)]; simp

@[simp] theorem Memory.length_readBytes (m : Memory) (a n : Nat) : (Memory.readBytes m a n).length = n := by
  induction n generalizing a with
  | zero => rfl
  | succ n ih => simp [Memory.readBytes, ih]

/-- Each byte of a read. -/
theorem Memory.getElem_readBytes (m : Memory) (a n i : Nat) (h : i < (Memory.readBytes m a n).length) :
    (Memory.readBytes m a n)[i] = Memory.read (a + i) m := by
  induction n generalizing a i with
  | zero => simp [Memory.readBytes] at h
  | succ n ih =>
    cases i with
    | zero => rfl
    | succ i =>
      have e : a + (i + 1) = a + 1 + i := by omega
      simp only [Memory.readBytes, List.getElem_cons_succ, e]
      exact ih (a + 1) i _

/-- A read answered leaves DRAM as it was. -/
@[simp] theorem serve_read (m : MemRequest) (a : Answer) (d : Memory) (h : m.kind = .read) : serve m a d = d := by
  unfold serve; rw [h]

-- ## Bytes

@[simp] theorem length_leBytes (n v : Nat) : (leBytes n v).length = n := by
  induction n generalizing v with
  | zero => rfl
  | succ n ih => simp [leBytes, ih]

@[simp] theorem length_zeros (n : Nat) : (zeros n).length = n := List.length_replicate

-- ## Sparse tables

theorem Table.get?_put_same {α : Type} (k : Nat) (v : α) (t : Table α) : Table.get? k (Table.put k v t) = some v := by
  induction t with
  | nil => simp [Table.put, Table.get?]
  | cons e t ih =>
    obtain ⟨j, w⟩ := e
    unfold Table.put
    split
    · simp [Table.get?]
    · split
      · simp [Table.get?]
      · rename_i h1 h2
        rw [Table.get?, if_neg (by omega)]
        exact ih

theorem Table.get?_put_other {α : Type} {k j : Nat} (h : j ≠ k) (v : α) (t : Table α) :
    Table.get? j (Table.put k v t) = Table.get? j t := by
  induction t with
  | nil => simp [Table.put, Table.get?, Ne.symm h]
  | cons e t ih =>
    obtain ⟨i, w⟩ := e
    unfold Table.put
    split
    · rw [Table.get?, if_neg (Ne.symm h)]
    · split
      · rename_i h1 h2
        subst h2
        simp only [Table.get?]
        rw [if_neg (Ne.symm h), if_neg (Ne.symm h)]
      · simp only [Table.get?, ih]

theorem Table.get?_update_same {α : Type} (k : Nat) (f : α → α) (t : Table α) :
    Table.get? k (Table.update k f t) = (Table.get? k t).map f := by
  induction t with
  | nil => rfl
  | cons e t ih =>
    obtain ⟨j, w⟩ := e
    unfold Table.update
    split
    · rename_i h; simp [Table.get?, h]
    · rename_i h; simp [Table.get?, h, ih]

theorem Table.get?_update_other {α : Type} {k j : Nat} (h : j ≠ k) (f : α → α) (t : Table α) :
    Table.get? j (Table.update k f t) = Table.get? j t := by
  induction t with
  | nil => rfl
  | cons e t ih =>
    obtain ⟨i, w⟩ := e
    unfold Table.update
    split
    · rename_i hk
      subst hk
      simp only [Table.get?]
      rw [if_neg (Ne.symm h), if_neg (Ne.symm h)]
    · simp only [Table.get?, ih]

theorem Table.get?_erase_same {α : Type} (k : Nat) (t : Table α) : Table.get? k (Table.erase k t) = none := by
  induction t with
  | nil => rfl
  | cons e t ih =>
    obtain ⟨i, w⟩ := e
    unfold Table.erase at ih ⊢
    by_cases h : i = k
    · simp [h, ih]
    · simp [h, Table.get?, ih]

theorem Table.get?_erase_other {α : Type} {k j : Nat} (h : j ≠ k) (t : Table α) :
    Table.get? j (Table.erase k t) = Table.get? j t := by
  induction t with
  | nil => rfl
  | cons e t ih =>
    obtain ⟨i, w⟩ := e
    unfold Table.erase at ih ⊢
    by_cases hk : i = k
    · subst hk
      simp [ih, Table.get?, Ne.symm h]
    · simp [hk, Table.get?, ih]

@[simp] theorem Table.length_update {α : Type} (k : Nat) (f : α → α) (t : Table α) :
    (Table.update k f t).length = t.length := by
  induction t with
  | nil => rfl
  | cons e t ih =>
    obtain ⟨i, w⟩ := e
    unfold Table.update
    split <;> simp [ih]

end Sys2Proof.Machine
end

