-- ==== Sys2Proof/Laws/Events.lean ====
section
/-! SUPPORT. What an answer, the taking of an entry and its completion do, each said once. -/

namespace Sys2Proof.Machine

-- ## Requests that stay in the issue order

theorem State.requests_eq (s : State) : s.requests = s.port.all := rfl

/-- The part's own work takes no request out of the issue order. -/
theorem Entered.mono {s t u : State} {m : MemRequest} {id : Nat} (h : Entered s t m id) (g : PortGrows t.port u.port) :
    Entered s u m id := ⟨h.1, g.kept _ h.2⟩

theorem Issues.mono {s t u : State} {m : MemRequest} (h : Issues s t m) (g : PortGrows t.port u.port) :
    Issues s u m := h.elim fun id e => ⟨id, e.mono g⟩

/-- A request that enters now. -/
theorem Entered.issue {s t : State} (h : s.port.nextId ≤ t.port.nextId) (m : MemRequest) :
    Entered s (t.issue m) m t.port.nextId :=
  ⟨h, (t.port.mem_enqueue m _).2 (.inr rfl)⟩

-- ## Answers of the memory port

/-- The answer of a live request: it leaves the port, DRAM serves it, and its owner acts on what DRAM held. -/
theorem State.memAnswer_live {s : State} {id : Nat} {m : MemRequest} {owns : Owner → Bool} (a : Answer)
    (act : MemRequest → List Byte → State → State)
    (h : s.port.issued.find? (fun m => m.id == id && owns m.owner) = some m) (d : m.discard = false) :
    s.memAnswer id a owns act =
      act m (Memory.readBytes s.dram m.addr m.len) { s with port := s.port.answered id, dram := serve m a s.dram } := by
  unfold State.memAnswer
  rw [h]
  simp [d]

/-- The answer of a request of before a restart: it leaves the port and DRAM serves it, and nothing else happens. -/
theorem State.memAnswer_discarded {s : State} {id : Nat} {m : MemRequest} {owns : Owner → Bool} (a : Answer)
    (act : MemRequest → List Byte → State → State)
    (h : s.port.issued.find? (fun m => m.id == id && owns m.owner) = some m) (d : m.discard = true) :
    s.memAnswer id a owns act = { s with port := s.port.answered id, dram := serve m a s.dram } := by
  unfold State.memAnswer
  rw [h]
  simp [d]

/-- The answer of a request of before RST, or of no request, changes at most DRAM and the requests left over by RST. -/
theorem State.memAnswer_dead {s : State} {id : Nat} {owns : Owner → Bool} (a : Answer)
    (act : MemRequest → List Byte → State → State)
    (h : s.port.issued.find? (fun m => m.id == id && owns m.owner) = none) :
    s.memAnswer id a owns act = { s with
      port := { s.port with orphans := (s.memAnswer id a owns act).port.orphans }
      dram := (s.memAnswer id a owns act).dram } := by
  unfold State.memAnswer
  rw [h]
  simp only
  split <;> rfl

/-- An answer keeps DRAM in its canonical form when its owner does. -/
theorem State.memAnswer_canonical {s : State} (id : Nat) (a : Answer) (owns : Owner → Bool)
    (act : MemRequest → List Byte → State → State) (keep : ∀ m bs t, (act m bs t).dram = t.dram)
    (h : s.DramCanonical) : (s.memAnswer id a owns act).DramCanonical := by
  unfold State.DramCanonical at *
  unfold State.memAnswer
  split
  · simp only
    split
    · exact serve_wf _ _ h
    · rw [keep]; exact serve_wf _ _ h
  · split
    · exact serve_wf _ _ h
    · exact h

-- ## Completion

theorem State.advanceHead_only (s : State) : s.advanceHead =
    { s with intake := { head := s.nextHead, tail := s.intake.tail, progress := none } } := rfl

theorem State.notifyIf_only (n : Bool) (s : State) :
    s.notifyIf n = { s with conditions := { s.conditions with notify := s.conditions.notify || n } } := by
  unfold State.notifyIf State.setCondition
  cases n <;> simp

theorem State.tryFetch_only (s : State) :
    s.tryFetch = { s with port := s.tryFetch.port, intake := s.tryFetch.intake } := by
  unfold State.tryFetch
  split <;> rfl

theorem State.writeStatus_only (status : Status) (result : Nat) (s : State) :
    s.writeStatus status result = { s with
      port := (s.writeStatus status result).port
      marks := { courses := [], stations := [], service := false, faults := s.marks.faults } } := by
  have h := s.flushTables_only
  unfold State.writeStatus State.writeOwn State.issue
  rw [h]

/-- A completion changes the port, the intake, NOTIFY and the marks of the table mirrors. -/
theorem State.complete_only (n : Bool) (status : Status) (result : Nat) (s : State) :
    s.complete n status result = { s with
      port := (s.complete n status result).port
      intake := (s.complete n status result).intake
      conditions := { s.conditions with notify := s.conditions.notify || n }
      marks := { courses := [], stations := [], service := false, faults := s.marks.faults } } := by
  have e : s.complete n status result = (((s.writeStatus status result).advanceHead.writeHead).notifyIf n).tryFetch :=
    rfl
  have hx : ((s.writeStatus status result).advanceHead.writeHead).notifyIf n = { s with
      port := (((s.writeStatus status result).advanceHead.writeHead).notifyIf n).port
      intake := (((s.writeStatus status result).advanceHead.writeHead).notifyIf n).intake
      conditions := { s.conditions with notify := s.conditions.notify || n }
      marks := { courses := [], stations := [], service := false, faults := s.marks.faults } } := by
    rw [State.notifyIf_only]
    have h := s.writeStatus_only status result
    generalize s.writeStatus status result = w at h
    generalize hp : w.advanceHead.writeHead.port = p
    have k : w.advanceHead.writeHead = { w.advanceHead with port := p } := by rw [← hp]; rfl
    rw [k, State.advanceHead_only, h]
  rw [e]
  generalize ((s.writeStatus status result).advanceHead.writeHead).notifyIf n = x at hx
  have f := x.tryFetch_only
  generalize x.tryFetch = t at f
  rw [hx] at f
  exact f

/-- A completion and the end of its event. -/
theorem State.complete_closed (n : Bool) (status : Status) (result : Nat) (u : State) (hr : u.responses = []) :
    CompletedFrom u (u.complete n status result).closeEvent n := by
  unfold CompletedFrom
  have h := u.complete_only n status result
  generalize hw : u.complete n status result = w at h
  have g := w.closeEvent_only
  generalize w.closeEvent = t at g
  rw [h] at g
  rw [g]
  simp [hr]

theorem State.tryFetch_idle {s : State} (h : s.intake.head = s.intake.tail) : s.tryFetch = s := by
  unfold State.tryFetch
  simp [h]

theorem State.tryFetch_goes {s : State} (t : s.takesEntries = true) (p : s.intake.progress = none)
    (h : s.intake.head ≠ s.intake.tail) :
    s.tryFetch = { s.readOwn .entryFetch s.headAddr 32 with
      intake := { s.intake with progress := some (.fetching s.port.nextId) } } := by
  unfold State.tryFetch
  simp [t, p, h]

/-- A completion does what R157 lists, in its order. -/
theorem State.completes {s u : State} (hi : u.intake = s.intake) (hs : u.setup = s.setup) (ha : u.straps = s.straps)
    (hp : s.port.nextId ≤ u.port.nextId) (ht : u.takesEntries = true)
    (hc : u.conditions.notify = s.conditions.notify) (n : Bool) (status : Status) (result : Nat) :
    Completes s (u.complete n status result).closeEvent n status result := by
  have hadr : u.headAddr = s.headAddr := by unfold State.headAddr State.ringBase; rw [hi, hs]
  have hnext : u.nextHead = s.nextHead := by unfold State.nextHead State.ringCount; rw [hi, hs]
  have f := u.flushTables_work
  -- the states between
  let w := u.writeStatus status result
  let v := (w.advanceHead.writeHead).notifyIf n
  have hw : StationWork u w := u.writeStatus_work status result
  have hwn : w.nextHead = s.nextHead := by
    rw [← hnext]; unfold State.nextHead State.ringCount; rw [hw.intake, hw.setup]
  have e1 : Entered s w (ownRequest .entryStatus .write (s.headAddr + 2) 2
      (leBytes 1 status.code ++ leBytes 1 result)) u.flushTables.port.nextId := by
    rw [← hadr]
    exact Entered.issue (hp.trans f.port.nextId) _
  have hv : PortGrows w.port v.port :=
    ((State.writeHead_work w.advanceHead).port).trans (State.notifyIf_work n _).port
  have e2 : Entered s v (anchorWrite s.straps .headWord offHead (leBytes 4 s.nextHead)) w.port.nextId := by
    have h : Entered s (w.advanceHead.issue (anchorWrite s.straps .headWord offHead (leBytes 4 s.nextHead)))
        (anchorWrite s.straps .headWord offHead (leBytes 4 s.nextHead)) w.port.nextId :=
      Entered.issue (hp.trans hw.port.nextId) _
    have g : w.advanceHead.writeHead =
        w.advanceHead.issue (anchorWrite s.straps .headWord offHead (leBytes 4 s.nextHead)) := by
      unfold State.writeHead State.writeAnchor
      have a : w.advanceHead.straps = s.straps := by rw [← ha]; exact hw.straps
      have b : w.advanceHead.intake.head = s.nextHead := hwn
      rw [a, b]
    rw [← g] at h
    exact h.mono (State.notifyIf_work n _).port
  have vi : v.intake = { head := s.nextHead, tail := s.intake.tail, progress := none } := by
    have a : v.intake = w.advanceHead.writeHead.intake := (State.notifyIf_work n _).intake
    rw [a, (State.writeHead_work _).intake]
    have b : w.intake.tail = s.intake.tail := by rw [hw.intake, hi]
    show ({ head := w.nextHead, tail := w.intake.tail, progress := none } : Intake) = _
    rw [hwn, b]
  have vt : v.takesEntries = true := by
    have a : v.part = u.part := by
      have := (State.notifyIf_work n w.advanceHead.writeHead).part
      rw [show v.part = w.advanceHead.writeHead.part from this, (State.writeHead_work _).part]
      exact hw.part
    unfold State.takesEntries at *
    rw [a]; exact ht
  have vset : v.setup = s.setup := by
    rw [show v.setup = w.advanceHead.writeHead.setup from (State.notifyIf_work n _).setup,
      (State.writeHead_work _).setup, ← hs]
    exact hw.setup
  have c : u.complete n status result = v.tryFetch := rfl
  have grow : PortGrows v.port (u.complete n status result).closeEvent.port :=
    (State.tryFetch_work v).port.trans (State.closeEvent_port _)
  have hint : (u.complete n status result).closeEvent.intake = v.tryFetch.intake := by
    rw [State.closeEvent_only, c]
  refine ⟨⟨u.flushTables.port.nextId, w.port.nextId, ?_, (e1.mono hv).mono grow, e2.mono grow⟩, ?_, ?_, ?_, ?_, ?_⟩
  · show u.flushTables.port.nextId < (u.flushTables.port.enqueue _).nextId
    simp
  · rw [hint, State.tryFetch]
    split <;> simp [vi]
  · rw [hint, State.tryFetch]
    split <;> simp [vi]
  · intro h
    rw [hint, State.tryFetch_idle (by simp [vi, h])]
    simp [vi]
  · intro h
    have g := State.tryFetch_goes vt (by simp [vi]) (by simp [vi, h])
    refine ⟨v.port.nextId, ?_, ?_⟩
    · rw [hint, g]
    · refine Entered.mono (t := v.tryFetch) ?_ (State.closeEvent_port _)
      rw [g]
      have hd : v.headAddr = s.ringBase + s.nextHead * 32 := by
        unfold State.headAddr State.ringBase; rw [vset, vi]
      rw [← hd]
      exact Entered.issue ((hp.trans hw.port.nextId).trans hv.nextId) _
  · rw [State.closeEvent_only, State.complete_only]
    simp only [hc]

-- ## The rows of the intake ring

/-- A row of the ring whose entry returns is the taking of that command, as one event. -/
theorem State.takeAs_returns {s : State} {n : Bool} {c : Command} (h : s.EntryReturns n c)
    (p : s.part ≠ .stopped) :
    ∃ id, s.takeAs n c =
      (({ s with responses := [], port := s.port.answered id } : State).takeCommand n c).closeEvent := by
  obtain ⟨id, m, hp, hf, hk, ha, hl, hd, hh⟩ := h
  refine ⟨id, ?_⟩
  unfold State.takeAs
  rw [hp]
  simp only [hh, if_true]
  unfold State.entryFetchStep State.run State.event
  rw [State.memAnswer_live (s := { s with responses := [] }) .okay (State.entryFetched .okay) hf hd]
  unfold State.headHolds at hh
  simp only [Bool.and_eq_true, beq_iff_eq] at hh
  have e : Memory.readBytes s.dram m.addr m.len = s.headEntry := by rw [ha, hl]; rfl
  simp only [serve_read _ _ _ hk]
  unfold State.entryFetched
  simp only [Answer.isOkay, if_true, e, hh.1, hh.2, p, if_false]

/-- The state in which the command of an entry is judged: the fetch has left the port. -/
theorem State.takeAs_state {s : State} (id : Nat) :
    (({ s with responses := [], port := s.port.answered id } : State)).port.nextId = s.port.nextId := rfl

end Sys2Proof.Machine
end

