-- ==== Sys2Proof/Laws/Faults.lean ====
section
/-! SUPPORT. What the recording of a fault does to the log, said once in the words of the statements (R165, R167), and
what a tick does at one ack timer (R105, R114, R115). -/

namespace Sys2Proof.Machine

-- ## The fault log

/-- Only the log and its overflow mark speak of a recording. -/
theorem Logs.congr {s s' t t' : State} {f : FaultReport} (h : Logs s t f) (hs : s'.faults = s.faults)
    (ho : s'.overflow = s.overflow) (ht : t'.faults = t.faults) (hp : t'.overflow = t.overflow) : Logs s' t' f := by
  unfold Logs State.NoRecordOf at *
  rw [hs, ho, ht, hp]
  exact h

theorem State.matchingRecord_some {s : State} {f : FaultReport} {i : RecordId} (h : s.matchingRecord? f = some i) :
    ∃ x, s.faults[i] = some x ∧ x.report.reason = f.reason ∧ x.report.source = f.source := by
  have h := List.find?_some h
  split at h
  · rename_i r hr
    simp only [Bool.and_eq_true, beq_iff_eq] at h
    exact ⟨r, hr, h.1, h.2⟩
  · exact absurd h (by simp)

theorem State.matchingRecord_none {s : State} {f : FaultReport} (h : s.matchingRecord? f = none) : s.NoRecordOf f := by
  intro i x hx e
  have h := List.find?_eq_none.1 h i (List.mem_finRange i)
  rw [hx] at h
  simp [e.1, e.2] at h

theorem State.freeRecord_some {s : State} {i : RecordId} (h : s.freeRecord? = some i) :
    s.faults[i] = none ∧ ∀ j : RecordId, j < i → s.faults[j] ≠ none := by
  obtain ⟨hi, as, bs, e, ha⟩ := List.find?_eq_some_iff_append.1 h
  refine ⟨by simpa using hi, fun j hj hn => ?_⟩
  have hs : (as ++ i :: bs).Pairwise (· < ·) := by
    rw [← e]
    exact List.pairwise_lt_finRange 8
  have m : j ∈ as ++ i :: bs := by rw [← e]; exact List.mem_finRange j
  rcases List.mem_append.1 m with m | m
  · exact absurd (ha j m) (by simp [hn])
  · rcases List.mem_cons.1 m with rfl | m
    · exact absurd hj (lt_irrefl _)
    · have := (List.pairwise_cons.1 (List.pairwise_append.1 hs).2.1).1 j m
      exact absurd hj (not_lt.2 this.le)

theorem State.freeRecord_none {s : State} (h : s.freeRecord? = none) (j : RecordId) : s.faults[j] ≠ none := by
  have h := List.find?_eq_none.1 h j (List.mem_finRange j)
  intro e
  simp [e] at h

/-- A record that folds a fault keeps its first report. -/
theorem State.foldFault_logs {s : State} {i : RecordId} {x : FaultRecord} (h : s.faults[i] = some x) :
    (s.foldFault i).faults = s.faults.set i (some { x with count := if x.count < 255 then x.count + 1 else x.count })
      ∧ (s.foldFault i).overflow = s.overflow := by
  unfold State.foldFault
  rw [h]
  simp only [Config.byteMax]
  split
  · exact ⟨rfl, rfl⟩
  · refine ⟨?_, rfl⟩
    apply Vector.ext
    intro j hj
    rw [Vector.getElem_set]
    split
    · rename_i e
      subst e
      exact h
    · rfl

/-- The recording of a fault is what the statements call one. -/
theorem State.logFault_logs (f : FaultReport) (s : State) : Logs s (s.logFault f) f := by
  unfold State.logFault
  split
  · rename_i i hi
    obtain ⟨x, hx, hr, hs⟩ := State.matchingRecord_some hi
    have g := State.foldFault_logs hx
    refine .inl ⟨i, x, hx, hr, hs, ?_, fun j hj => ?_, g.2⟩
    · rw [g.1]; simp
    · rw [g.1]
      exact Vector.getElem_set_ne _ _ (fun e => hj (Fin.ext e.symm))
  · rename_i hn
    split
    · rename_i i hi
      obtain ⟨free, low⟩ := State.freeRecord_some hi
      refine .inr (.inl ⟨State.matchingRecord_none hn, i, free, low, ?_, fun j hj => ?_, rfl⟩)
      · simp [State.setFault]
      · exact Vector.getElem_set_ne i.isLt _ (fun e => hj (Fin.ext e.symm))
    · rename_i hf
      exact .inr (.inr ⟨State.matchingRecord_none hn, State.freeRecord_none hf, rfl, rfl⟩)

theorem State.stopIfFatal_faults (reason : FaultReason) (s : State) : (s.stopIfFatal reason).faults = s.faults := by
  unfold State.stopIfFatal
  split <;> rfl

theorem State.stopIfFatal_overflow (reason : FaultReason) (s : State) :
    (s.stopIfFatal reason).overflow = s.overflow := by
  unfold State.stopIfFatal
  split <;> rfl

theorem State.recordFault_logs (f : FaultReport) (s : State) : Logs s (s.recordFault f) f :=
  (s.logFault_logs f).congr rfl rfl (State.stopIfFatal_faults _ _) (State.stopIfFatal_overflow _ _)

/-- A fault that has been recorded stands in the log, or the log is full and the overflow mark is set. -/
theorem Logs.recorded {s t : State} {f : FaultReport} (h : Logs s t f) : Recorded t f.reason f.source := by
  rcases h with ⟨i, x, _, hr, hs, hi, _⟩ | ⟨_, i, _, _, hi, _⟩ | ⟨_, hf, e, o⟩
  · exact .inl ⟨i, _, hi, hr, hs⟩
  · exact .inl ⟨i, _, hi, rfl, rfl⟩
  · exact .inr ⟨fun j => by rw [e]; exact hf j, o⟩

-- ## A tick at one ack timer

/-- The mark that an acknowledgement leaves is clear when no tick is owed or to come. -/
@[simp] theorem Station.sparedMark_clear (x : Station) (h : x.tick = .clear) : x.sparedMark false = .clear := by
  simp [Station.sparedMark, h]

/-- A tick that the station owes is owed after a show has loaded the timer too; no mark but these two changes. -/
theorem TickMark.loaded_owed (m : TickMark) : m.loaded = .owed ↔ m = .owed ∨ m = .owedSpared := by
  cases m <;> simp [TickMark.loaded]

/-- A show that loads the timer leaves no tick spared (R105). -/
theorem TickMark.loaded_ne_spared (m : TickMark) : m.loaded ≠ .spared ∧ m.loaded ≠ .owedSpared := by
  cases m <;> simp [TickMark.loaded]

/-- The tick that a read or a bump has come before lowers a running timer and finds a stopped one: nothing else of the
station changes, and no expiry occurs (R114, R115). -/
theorem State.takeSparedTick_stations (st : StationId) (s : State) :
    (s.takeSparedTick st).stations[st] =
      { (s.stations[st]) with timer := (s.stations[st]).timer.map (fun k => k - 1) } := by
  unfold State.takeSparedTick
  split
  · rename_i h
    rw [h]
    exact congrArg (fun o => { (s.stations[st]) with timer := o }) h
  · rename_i n h
    rw [h]
    simp

/-- A station that owes no tick takes none. -/
theorem State.takeOwed_idle {st : StationId} {s : State} (h : (s.stations[st]).owes = false) : s.takeOwed st = s := by
  unfold Station.owes at h
  unfold State.takeOwed
  split <;> simp_all

end Sys2Proof.Machine
end

