-- ==== Sys2Proof/WellFormed.lean ====
section
/-! DEFINITION. Which commands are well formed: what R118 says of the parts of a request. A request whose length or
line is wrong is a command like any other (the part refuses it, R118); one whose lists do not fit its own length is
no request at all. -/

namespace Sys2Proof

/-- One enable and one data byte per byte of the length for a WRITE, none for a READ (R118). -/
def Request.wellFormed (r : Request) : Bool :=
  match r.kind with
  | .read => r.enables.isEmpty && r.data.isEmpty
  | .write => r.enables.length == r.len && r.data.length == r.len

/-- A failed write leaves at most the 64 bytes of one request (R118). -/
def Answer.wellFormed : Answer → Bool
  | .okay => true
  | .error left => decide (left.length ≤ 64)

/-- The well-formed commands. -/
def Instr.wellFormed : Instr → Bool
  | .requestArrival r => r.wellFormed
  | .bumpWrite _ _ len enables data => enables.length == len && data.length == len
  | .forwardedResponse _ a | .assemblyReadReturn _ a | .redirectedBumpDone _ a | .entryFetchDone _ a
  | .lineFetchDone _ a | .dishFillDone _ a | .planLineReadDone _ a | .ownWriteDone _ a | .setupReadDone _ a =>
    a.wellFormed
  | .tailWord _ | .noticeMask _ | .clearWord _ | .restartWord _ | .windowRead _ _ _
  | .nop _ | .post _ _ | .amendPortions _ _ _ | .amendSpecial _ _ _ | .amendTags _ _ _ | .amendLead _ _ _
  | .amendWave _ _ _ | .amendRush _ _ _ | .amendStation _ _ _ | .void _ _ | .fire _ _ _ | .hold _ _ | .resume _ _
  | .service _ _ _ _ | .stationOpen _ _ | .stationClose _ _ | .stationPause _ _ | .stationUnpause _ _
  | .stationBackup _ _ _ | .stationCapacity _ _ _ | .releaseStranded _ _ _ | .flushAll _ | .flushDish _ _
  | .flushStation _ _ | .fence _ | .plan _ _ | .trefPeriod | .tick _ | .ackTimerExpiry _ | .rstFall | .rstRise _ =>
    true

end Sys2Proof
end

