-- ==== Sys2Proof/Laws/PerInstr.lean ====
section
/-! SUPPORT. What well-formedness says of each command: the answer that it carries leaves at most 64 bytes, and the lists
of the write that it carries fit the length (R118). -/

namespace Sys2Proof

/-- The answer of the DRAM controller that a command carries. -/
def Instr.answer? : Instr → Option Answer
  | .forwardedResponse _ a => some a
  | .assemblyReadReturn _ a => some a
  | .redirectedBumpDone _ a => some a
  | .entryFetchDone _ a => some a
  | .lineFetchDone _ a => some a
  | .dishFillDone _ a => some a
  | .planLineReadDone _ a => some a
  | .ownWriteDone _ a => some a
  | .setupReadDone _ a => some a
  | _ => none

/-- The write that a command carries: its length, enables and data. -/
def Instr.write? : Instr → Option (Nat × List Bool × List Byte)
  | .requestArrival r =>
    match r.kind with
    | .write => some (r.len, r.enables, r.data)
    | .read => none
  | .bumpWrite _ _ len enables data => some (len, enables, data)
  | _ => none

namespace Laws.WellFormedMeaning

/-- What well-formedness says of a command. A read that a REQUEST_ARRIVAL carries has no lists. -/
def Statement (i : Instr) : Prop :=
  i.wellFormed = true →
    (∀ left, i.answer? = some (.error left) → left.length ≤ 64)
      ∧ (∀ len enables data, i.write? = some (len, enables, data) → enables.length = len ∧ data.length = len)
      ∧ (∀ r, i = .requestArrival r → r.kind = .read → r.enables = [] ∧ r.data = [])

theorem requestArrival (r : Request) : Statement (.requestArrival r) := by
  intro h
  unfold Instr.wellFormed Request.wellFormed at h
  refine ⟨nofun, ?_, ?_⟩
  · intro len enables data e
    unfold Instr.write? at e
    cases k : r.kind <;> simp_all
  · intro x e k
    cases e
    simp_all

theorem forwardedResponse (id : Nat) (a : Answer) : Statement (.forwardedResponse id a) := by
  intro h
  refine ⟨?_, nofun, nofun⟩
  intro left e
  unfold Instr.answer? at e
  cases e
  unfold Instr.wellFormed Answer.wellFormed at h
  simpa using h

theorem tailWord (w : WordWrite) : Statement (.tailWord w) := by
  exact fun _ => ⟨nofun, nofun, nofun⟩

theorem noticeMask (w : WordWrite) : Statement (.noticeMask w) := by
  exact fun _ => ⟨nofun, nofun, nofun⟩

theorem clearWord (w : WordWrite) : Statement (.clearWord w) := by
  exact fun _ => ⟨nofun, nofun, nofun⟩

theorem restartWord (w : WordWrite) : Statement (.restartWord w) := by
  exact fun _ => ⟨nofun, nofun, nofun⟩

theorem windowRead (tag : Tag) (addr : Address) (len : Nat) : Statement (.windowRead tag addr len) := by
  exact fun _ => ⟨nofun, nofun, nofun⟩

theorem assemblyReadReturn (id : Nat) (a : Answer) : Statement (.assemblyReadReturn id a) := by
  intro h
  refine ⟨?_, nofun, nofun⟩
  intro left e
  unfold Instr.answer? at e
  cases e
  unfold Instr.wellFormed Answer.wellFormed at h
  simpa using h

theorem bumpWrite (tag : Tag) (addr : Address) (len : Nat) (enables : List Bool) (data : List Byte) :
    Statement (.bumpWrite tag addr len enables data) := by
  intro h
  unfold Instr.wellFormed at h
  refine ⟨nofun, ?_, nofun⟩
  intro n es ds e
  unfold Instr.write? at e
  simp_all

theorem redirectedBumpDone (id : Nat) (a : Answer) : Statement (.redirectedBumpDone id a) := by
  intro h
  refine ⟨?_, nofun, nofun⟩
  intro left e
  unfold Instr.answer? at e
  cases e
  unfold Instr.wellFormed Answer.wellFormed at h
  simpa using h

theorem entryFetchDone (id : Nat) (a : Answer) : Statement (.entryFetchDone id a) := by
  intro h
  refine ⟨?_, nofun, nofun⟩
  intro left e
  unfold Instr.answer? at e
  cases e
  unfold Instr.wellFormed Answer.wellFormed at h
  simpa using h

theorem nop (notify : Bool) : Statement (.nop notify) := by
  exact fun _ => ⟨nofun, nofun, nofun⟩

theorem post (notify : Bool) (line : BitVec 16) : Statement (.post notify line) := by
  exact fun _ => ⟨nofun, nofun, nofun⟩

theorem lineFetchDone (id : Nat) (a : Answer) : Statement (.lineFetchDone id a) := by
  intro h
  refine ⟨?_, nofun, nofun⟩
  intro left e
  unfold Instr.answer? at e
  cases e
  unfold Instr.wellFormed Answer.wellFormed at h
  simpa using h

theorem dishFillDone (id : Nat) (a : Answer) : Statement (.dishFillDone id a) := by
  intro h
  refine ⟨?_, nofun, nofun⟩
  intro left e
  unfold Instr.answer? at e
  cases e
  unfold Instr.wellFormed Answer.wellFormed at h
  simpa using h

theorem amendPortions (notify : Bool) (line value : BitVec 16) : Statement (.amendPortions notify line value) := by
  exact fun _ => ⟨nofun, nofun, nofun⟩

theorem amendSpecial (notify : Bool) (line value : BitVec 16) : Statement (.amendSpecial notify line value) := by
  exact fun _ => ⟨nofun, nofun, nofun⟩

theorem amendTags (notify : Bool) (line value : BitVec 16) : Statement (.amendTags notify line value) := by
  exact fun _ => ⟨nofun, nofun, nofun⟩

theorem amendLead (notify : Bool) (line value : BitVec 16) : Statement (.amendLead notify line value) := by
  exact fun _ => ⟨nofun, nofun, nofun⟩

theorem amendWave (notify : Bool) (line value : BitVec 16) : Statement (.amendWave notify line value) := by
  exact fun _ => ⟨nofun, nofun, nofun⟩

theorem amendRush (notify : Bool) (line value : BitVec 16) : Statement (.amendRush notify line value) := by
  exact fun _ => ⟨nofun, nofun, nofun⟩

theorem amendStation (notify : Bool) (line value : BitVec 16) : Statement (.amendStation notify line value) := by
  exact fun _ => ⟨nofun, nofun, nofun⟩

theorem void (notify : Bool) (line : BitVec 16) : Statement (.void notify line) := by
  exact fun _ => ⟨nofun, nofun, nofun⟩

theorem fire (notify : Bool) (course : Byte) (countdown : BitVec 16) : Statement (.fire notify course countdown) := by
  exact fun _ => ⟨nofun, nofun, nofun⟩

theorem hold (notify : Bool) (course : Byte) : Statement (.hold notify course) := by
  exact fun _ => ⟨nofun, nofun, nofun⟩

theorem resume (notify : Bool) (course : Byte) : Statement (.resume notify course) := by
  exact fun _ => ⟨nofun, nofun, nofun⟩

theorem service (notify : Bool) (count cycle : Byte) (courses : Vector Byte 8) :
    Statement (.service notify count cycle courses) := by
  exact fun _ => ⟨nofun, nofun, nofun⟩

theorem stationOpen (notify : Bool) (station : Byte) : Statement (.stationOpen notify station) := by
  exact fun _ => ⟨nofun, nofun, nofun⟩

theorem stationClose (notify : Bool) (station : Byte) : Statement (.stationClose notify station) := by
  exact fun _ => ⟨nofun, nofun, nofun⟩

theorem stationPause (notify : Bool) (station : Byte) : Statement (.stationPause notify station) := by
  exact fun _ => ⟨nofun, nofun, nofun⟩

theorem stationUnpause (notify : Bool) (station : Byte) : Statement (.stationUnpause notify station) := by
  exact fun _ => ⟨nofun, nofun, nofun⟩

theorem stationBackup (notify : Bool) (station value : Byte) : Statement (.stationBackup notify station value) := by
  exact fun _ => ⟨nofun, nofun, nofun⟩

theorem stationCapacity (notify : Bool) (station value : Byte) : Statement (.stationCapacity notify station value) := by
  exact fun _ => ⟨nofun, nofun, nofun⟩

theorem releaseStranded (notify : Bool) (station value : Byte) : Statement (.releaseStranded notify station value) := by
  exact fun _ => ⟨nofun, nofun, nofun⟩

theorem flushAll (notify : Bool) : Statement (.flushAll notify) := by
  exact fun _ => ⟨nofun, nofun, nofun⟩

theorem flushDish (notify : Bool) (target : BitVec 16) : Statement (.flushDish notify target) := by
  exact fun _ => ⟨nofun, nofun, nofun⟩

theorem flushStation (notify : Bool) (target : BitVec 16) : Statement (.flushStation notify target) := by
  exact fun _ => ⟨nofun, nofun, nofun⟩

theorem fence (notify : Bool) : Statement (.fence notify) := by
  exact fun _ => ⟨nofun, nofun, nofun⟩

theorem plan (notify : Bool) (addr : Address) : Statement (.plan notify addr) := by
  exact fun _ => ⟨nofun, nofun, nofun⟩

theorem planLineReadDone (id : Nat) (a : Answer) : Statement (.planLineReadDone id a) := by
  intro h
  refine ⟨?_, nofun, nofun⟩
  intro left e
  unfold Instr.answer? at e
  cases e
  unfold Instr.wellFormed Answer.wellFormed at h
  simpa using h

theorem ownWriteDone (id : Nat) (a : Answer) : Statement (.ownWriteDone id a) := by
  intro h
  refine ⟨?_, nofun, nofun⟩
  intro left e
  unfold Instr.answer? at e
  cases e
  unfold Instr.wellFormed Answer.wellFormed at h
  simpa using h

theorem trefPeriod : Statement .trefPeriod := by
  exact fun _ => ⟨nofun, nofun, nofun⟩

theorem tick (order : TickOrder) : Statement (.tick order) := by
  exact fun _ => ⟨nofun, nofun, nofun⟩

theorem ackTimerExpiry (station : StationId) : Statement (.ackTimerExpiry station) := by
  exact fun _ => ⟨nofun, nofun, nofun⟩

theorem rstFall : Statement .rstFall := by
  exact fun _ => ⟨nofun, nofun, nofun⟩

theorem rstRise (straps : BitVec 8) : Statement (.rstRise straps) := by
  exact fun _ => ⟨nofun, nofun, nofun⟩

theorem setupReadDone (id : Nat) (a : Answer) : Statement (.setupReadDone id a) := by
  intro h
  refine ⟨?_, nofun, nofun⟩
  intro left e
  unfold Instr.answer? at e
  cases e
  unfold Instr.wellFormed Answer.wellFormed at h
  simpa using h

end Laws.WellFormedMeaning

end Sys2Proof
end

