-- ==== Sys2Proof/Laws/Ring.lean ====
section
/-! SUPPORT. The rows of the intake ring: how a taken entry ends, how it goes on, and which mirror entries its completion
writes. -/

namespace Sys2Proof.Machine

/-- The state in which the command of a returned entry is judged: the fetch has left the port. -/
def State.fetched (id : Nat) (s : State) : State := { s with responses := [], port := s.port.answered id }

/-- Two states are one but for the port, the responses and the marks. -/
def SameTables (u v : State) : Prop := v = { u with port := v.port, responses := v.responses, marks := v.marks }

theorem SameTables.refl (u : State) : SameTables u u := rfl

theorem SameTables.fetched (id : Nat) (s : State) : SameTables s (s.fetched id) := rfl

theorem State.goes_of_takesEntries {s : State} (h : s.takesEntries = true) : s.part ≠ .stopped := by
  intro e
  unfold State.takesEntries at h
  rw [e] at h
  exact absurd h (by decide)

theorem State.takesEntries_of_part {s t : State} (h : t.part = s.part) (p : s.takesEntries = true) :
    t.takesEntries = true := by
  unfold State.takesEntries at *
  rw [h]; exact p

/-- The judgement of an entry keeps what a command keeps. -/
theorem State.judge_work (c : Command) (s : State) : CommandWork s (s.judge c).2 := by
  unfold State.judge
  split
  · exact .refl s
  · split
    · exact .refl s
    · exact s.perform_work _

/-- In READY a known command is handed to its owner. -/
theorem State.judge_ready {s : State} {c : Command} (p : s.part = .ready) (k : c ≠ .unknown) :
    s.judge c = s.perform c := by
  unfold State.judge
  simp [k, p]

/-- In IDLE and READY the commands of IDLE are handed to their owner. -/
theorem State.judge_idle {s : State} {c : Command} (i : c.inIdle = true) : s.judge c = s.perform c := by
  unfold State.judge
  have k : c ≠ .unknown := by intro e; subst e; exact absurd i (by decide)
  simp [k, i]

/-- A completion reported from another base. -/
theorem CompletedFrom.rebase {u v t : State} {n : Bool} (h : CompletedFrom v t n) (s : SameTables u v) :
    CompletedFrom u t n := by
  unfold CompletedFrom at *
  unfold SameTables at s
  rw [s] at h
  exact h

/-- A row of the ring whose command ends. -/
theorem State.takeAs_ends {s u : State} {n : Bool} {c : Command} {status : Status} {result : Nat}
    (h : s.EntryReturns n c) (p : s.takesEntries = true)
    (j : ∀ id, ∃ v, (s.fetched id).judge c = (.ended status result, v) ∧ v.part = s.part ∧ v.intake = s.intake
      ∧ v.conditions.notify = s.conditions.notify ∧ SameTables u v) :
    EndsWith s u (s.takeAs n c) n status result := by
  obtain ⟨id, e⟩ := State.takeAs_returns h (State.goes_of_takesEntries p)
  obtain ⟨v, hj, hp, hi, hn, hs⟩ := j id
  have w := State.judge_work c (s.fetched id)
  rw [hj] at w
  have g : s.takeAs n c = (v.complete n status result).closeEvent := by
    rw [e]
    show (State.takeCommand n c (s.fetched id)).closeEvent = _
    unfold State.takeCommand
    rw [hj]
    rfl
  rw [g]
  exact ⟨State.completes hi w.setup w.straps w.port.nextId (State.takesEntries_of_part hp p) hn n status result,
    (State.complete_closed n status result v w.responses).rebase hs⟩

/-- A row of the ring whose command goes on. -/
theorem State.takeAs_runs {s : State} {n : Bool} {c : Command} {work : Running}
    (h : s.EntryReturns n c) (p : s.takesEntries = true) :
    ∃ id, ∀ v, (s.fetched id).judge c = (.runs work, v) → v.intake = s.intake →
      Runs s (s.takeAs n c) n work ∧ PortGrows v.port (s.takeAs n c).port
        ∧ s.takeAs n c = { v with
            port := (s.takeAs n c).port, noticeShown := (s.takeAs n c).noticeShown, marks := Marks.empty
            intake := (s.takeAs n c).intake } := by
  obtain ⟨id, e⟩ := State.takeAs_returns h (State.goes_of_takesEntries p)
  refine ⟨id, fun v hj hi => ?_⟩
  have g : s.takeAs n c =
      ({ v with intake := { v.intake with progress := some (.running n work) } } : State).closeEvent := by
    rw [e]
    show (State.takeCommand n c (s.fetched id)).closeEvent = _
    unfold State.takeCommand
    rw [hj]
    rfl
  have o := State.closeEvent_only ({ v with intake := { v.intake with progress := some (.running n work) } } : State)
  have q := State.closeEvent_port ({ v with intake := { v.intake with progress := some (.running n work) } } : State)
  rw [g]
  refine ⟨?_, q, ?_⟩
  · unfold Runs
    rw [o]
    simp only [hi]
  · rw [o]

-- ## The mirror entries that an event writes

/-- A request that a fold of anchor writes makes is entered. -/
theorem foldl_writes {α : Type} (f : State → α → State) (grow : ∀ s a, PortGrows s.port (f s a).port)
    {P : State → Prop} (keep : ∀ s a, P s → P (f s a)) {l : List α} {a : α} (ha : a ∈ l) {m : MemRequest} {s0 : State}
    (writes : ∀ s, P s → s0.port.nextId ≤ s.port.nextId → Issues s0 (f s a) m) (s : State) (hP : P s)
    (hn : s0.port.nextId ≤ s.port.nextId) : Issues s0 (l.foldl f s) m := by
  induction l generalizing s with
  | nil => exact absurd ha List.not_mem_nil
  | cons b l ih =>
    rw [List.foldl_cons]
    have later : ∀ (l : List α) (t : State), PortGrows t.port (l.foldl f t).port := by
      intro l
      induction l with
      | nil => exact fun t => .refl _
      | cons c l il => exact fun t => (grow t c).trans (il (f t c))
    rcases List.mem_cons.mp ha with rfl | h
    · exact (writes s hP hn).mono (later l _)
    · exact ih h (f s b) (keep s b hP) (hn.trans (grow s b).nextId)

/-- The fields that the mirror writes of an event read. -/
def SameMirrored (s t : State) : Prop :=
  t.straps = s.straps ∧ t.courses = s.courses ∧ t.stations = s.stations ∧ t.service = s.service ∧ t.marks = s.marks

theorem PortWork.sameMirrored {s t : State} (h : PortWork s t) : SameMirrored s t :=
  ⟨h.straps, h.courses, h.stations, h.service, h.marks⟩

/-- The marked course mirror entries are written with what the table holds. -/
theorem State.flushCourses_writes {s0 s : State} {c : CourseId} (h : c ∈ s.marks.courses)
    (hn : s0.port.nextId ≤ s.port.nextId) :
    Issues s0 s.flushCourses (anchorWrite s.straps (.courseMirror c) (offCourse c) (s.courses[c]).mirrorBytes) := by
  unfold State.flushCourses
  refine foldl_writes (P := fun t => PortWork s t) _ (fun t d => (t.writeAnchor_work _ _ _).port)
    (fun t d w => w.trans (t.writeAnchor_work _ _ _)) (a := c) ?_ ?_ s (.refl s) hn
  · simp [h, List.mem_filter, List.mem_finRange]
  · intro t w g
    have e : t.courses[c] = s.courses[c] := by rw [w.courses]
    unfold State.writeAnchor
    rw [w.straps, e]
    exact ⟨_, Entered.issue g _⟩

/-- The marked station mirror entries are written with what the table holds. -/
theorem State.flushStations_writes {s0 s : State} {st : StationId} (h : st ∈ s.marks.stations)
    (hn : s0.port.nextId ≤ s.port.nextId) :
    Issues s0 s.flushStations
      (anchorWrite s.straps (.stationMirror st) (offStation st) (s.stations[st]).mirrorBytes) := by
  unfold State.flushStations
  refine foldl_writes (P := fun t => PortWork s t) _ (fun t d => (t.writeAnchor_work _ _ _).port)
    (fun t d w => w.trans (t.writeAnchor_work _ _ _)) (a := st) ?_ ?_ s (.refl s) hn
  · simp [h, List.mem_filter, List.mem_finRange]
  · intro t w g
    have e : t.stations[st] = s.stations[st] := by rw [w.stations]
    unfold State.writeAnchor
    rw [w.straps, e]
    exact ⟨_, Entered.issue g _⟩

/-- The marked fault-log mirror entries are written with what the log holds. -/
theorem State.flushFaults_writes {s0 s : State} {i : RecordId} (h : i ∈ s.marks.faults)
    (hn : s0.port.nextId ≤ s.port.nextId) :
    Issues s0 s.flushFaults (anchorWrite s.straps (.faultMirror i) (offFault i) (faultBytes s.faults[i])) := by
  unfold State.flushFaults
  refine foldl_writes (P := fun t => PortWork s t) _ (fun t d => (t.writeAnchor_work _ _ _).port)
    (fun t d w => w.trans (t.writeAnchor_work _ _ _)) (a := i) ?_ ?_ s (.refl s) hn
  · simp [h, List.mem_filter, List.mem_finRange]
  · intro t w g
    have e : t.faults[i] = s.faults[i] := by rw [w.faults]
    unfold State.writeAnchor
    rw [w.straps, e]
    exact ⟨_, Entered.issue g _⟩

/-- Every marked table mirror entry is written by the flush of the tables. -/
theorem State.flushTables_writes {s0 s : State} (hn : s0.port.nextId ≤ s.port.nextId) :
    (∀ c ∈ s.marks.courses, Issues s0 s.flushTables
        (anchorWrite s.straps (.courseMirror c) (offCourse c) (s.courses[c]).mirrorBytes))
      ∧ (∀ st ∈ s.marks.stations, Issues s0 s.flushTables
        (anchorWrite s.straps (.stationMirror st) (offStation st) (s.stations[st]).mirrorBytes))
      ∧ (s.marks.service = true → Issues s0 s.flushTables
        (anchorWrite s.straps .serviceMirror offService s.service.mirrorBytes)) := by
  have a := s.flushCourses_work
  have b := s.flushCourses.flushStations_work
  have c := s.flushCourses.flushStations.flushService_work
  have last : ∀ m, Issues s0 s.flushCourses.flushStations.flushService m → Issues s0 s.flushTables m :=
    fun m h => h.elim fun id e => ⟨id, e.1, e.2⟩
  refine ⟨fun d h => last _ ?_, fun d h => last _ ?_, fun h => last _ ?_⟩
  · exact (State.flushCourses_writes h hn).mono (b.port.trans c.port)
  · refine Issues.mono ?_ c.port
    have := State.flushStations_writes (s0 := s0) (s := s.flushCourses) (st := d) (by rw [a.marks]; exact h)
      (hn.trans a.port.nextId)
    have e : s.flushCourses.stations[d] = s.stations[d] := by rw [a.stations]
    rw [a.straps, e] at this
    exact this
  · unfold State.flushService
    have ab := a.trans b
    rw [if_pos (by rw [ab.marks]; exact h)]
    unfold State.writeAnchor
    rw [ab.straps, ab.service]
    exact ⟨_, Entered.issue (hn.trans ab.port.nextId) _⟩

/-- What the end of an event writes. -/
theorem State.closeEvent_writes {s0 s : State} (hn : s0.port.nextId ≤ s.port.nextId) (hs : s.straps = s0.straps) :
    (∀ c ∈ s.marks.courses, WritesCourseMirror s0 s.closeEvent c)
      ∧ (∀ st ∈ s.marks.stations, WritesStationMirror s0 s.closeEvent st)
      ∧ (s.marks.service = true → WritesServiceMirror s0 s.closeEvent) := by
  have f := State.flushTables_writes (s0 := s0) (s := s) hn
  have o := s.closeEvent_only
  have g : PortGrows s.flushTables.port s.closeEvent.port := by
    refine (s.flushTables.flushFaults_work).port.trans ?_
    unfold State.closeEvent State.flushNotice
    simp only
    split
    · exact .refl _
    · exact (State.writeAnchor_work _ _ _ _).port
  have ec : s.closeEvent.courses = s.courses := by rw [o]
  have es : s.closeEvent.stations = s.stations := by rw [o]
  have ev : s.closeEvent.service = s.service := by rw [o]
  refine ⟨fun c h => ?_, fun st h => ?_, fun h => ?_⟩
  · unfold WritesCourseMirror
    rw [ec, ← hs]
    exact (f.1 c h).mono g
  · unfold WritesStationMirror
    rw [es, ← hs]
    exact (f.2.1 st h).mono g
  · unfold WritesServiceMirror
    rw [ev, ← hs]
    exact (f.2.2 h).mono g

/-- What a completion writes of the table mirrors. -/
theorem State.complete_writes {s0 u : State} (hn : s0.port.nextId ≤ u.port.nextId) (hs : u.straps = s0.straps)
    (n : Bool) (status : Status) (result : Nat) :
    (∀ c ∈ u.marks.courses, WritesCourseMirror s0 (u.complete n status result).closeEvent c)
      ∧ (∀ st ∈ u.marks.stations, WritesStationMirror s0 (u.complete n status result).closeEvent st)
      ∧ (u.marks.service = true → WritesServiceMirror s0 (u.complete n status result).closeEvent) := by
  have f := State.flushTables_writes (s0 := s0) (s := u) hn
  have g : PortGrows u.flushTables.port (u.complete n status result).closeEvent.port := by
    refine PortGrows.trans ?_ (State.closeEvent_port _)
    let w := u.writeStatus status result
    have a : PortGrows u.flushTables.port w.port := (State.writeOwn_work _ _ _ _).port
    have b : PortGrows w.port w.advanceHead.writeHead.port := (State.writeHead_work w.advanceHead).port
    exact a.trans (b.trans ((State.notifyIf_work n _).port.trans (State.tryFetch_work _).port))
  have o := (u.complete n status result).closeEvent_only
  have k := u.complete_only n status result
  have ec : (u.complete n status result).closeEvent.courses = u.courses := by rw [o, k]
  have es : (u.complete n status result).closeEvent.stations = u.stations := by rw [o, k]
  have ev : (u.complete n status result).closeEvent.service = u.service := by rw [o, k]
  refine ⟨fun c h => ?_, fun st h => ?_, fun h => ?_⟩
  · unfold WritesCourseMirror
    rw [ec, ← hs]
    exact (f.1 c h).mono g
  · unfold WritesStationMirror
    rw [es, ← hs]
    exact (f.2.1 st h).mono g
  · unfold WritesServiceMirror
    rw [ev, ← hs]
    exact (f.2.2 h).mono g

end Sys2Proof.Machine
end

