-- ==== Sys2Proof/Tests/Slice0.lean ====
section
/-! SUPPORT. The model's own tests: well-formedness, the worked examples of the spec, one small step of every command,
and for every statement a state that meets its hypotheses. -/

namespace Sys2Proof.Tests

set_option Elab.async false

open Sys2Proof Sys2Proof.Machine

-- ## Small states

/-- A setup: anchor block at 0, ring at 1 MiB with 16 entries, pool of 64 lines, window at 4 MiB, no guard. -/
def setup : Setup :=
  { planAddr := 0x200000, ringBase := 0x100000, ringCode := 0, poolBase := 0x110000, lineCount := 64
    windowBase := 0x400000, ps := 11, pt := 6, divider := 0, stopOnFatal := false
    guard0 := { enabled := true, base := 0x60, limit := 0x60 }, guard1 := { enabled := true, base := 0x61, limit := 0x61 } }

/-- READY with ten dishes and four planned courses. -/
def ready : State :=
  { State.reset with
    part := .ready, loader := .idle, setup := some setup, port := MemPort.empty
    plan := { dishBase := 0x300000, dishCount := 10, courseCount := 4 } }

/-- The state after a command; the state itself where there is no next one. -/
def run (c : Instr) (s : State) : State :=
  match exec c s with
  | .next t => t
  | _ => s

/-- A read in flight under name 0, alone at the port, with the bytes that DRAM holds for it. -/
def State.reading (o : OwnRequest) (addr len : Nat) (bytes : List Byte) (s : State) : State :=
  { s with
    dram := Memory.writeBytes [] addr (bytes.map some)
    port := { waiting := [], issued := [ownRequest o .read addr len []], orphans := [], nextId := 1 } }

/-- The entry at the head is being fetched, and its first bytes are these. -/
def State.entry (bytes : List Byte) (s : State) : State :=
  { State.reading .entryFetch 0x100000 32 bytes s with
    intake := { head := 0, tail := 1, progress := some (.fetching 0) } }

/-- The check of EntryReturns as a computation. -/
def returns (s : State) (notify : Bool) (c : Command) : Bool :=
  match s.intake.progress with
  | some (.fetching id) =>
    match s.port.issued.find? (fun x => x.id == id && x.owner.isEntryFetch) with
    | some m =>
      m.kind == .read && m.addr == s.headAddr && m.len == 32 && !m.discard && s.headHolds notify c
    | none => false
  | _ => false

theorem returns_sound {s : State} {n : Bool} {c : Command} (h : returns s n c = true) : s.EntryReturns n c := by
  unfold returns at h
  split at h
  · rename_i id hp
    split at h
    · rename_i m hm
      simp only [Bool.and_eq_true, beq_iff_eq, Bool.not_eq_true'] at h
      exact ⟨id, m, hp, hm, h.1.1.1.1, h.1.1.1.2, h.1.1.2, h.1.2, h.2⟩
    · exact absurd h (by simp)
  · exact absurd h (by simp)

/-- The status bytes that an entry has been given. -/
def statuses (t : State) : List (List Byte) :=
  (t.requests.filter (fun m => m.owner == .own .entryStatus)).map (fun m => m.data)

/-- A station that is open, with room for two batches. -/
def grill : Station :=
  Station.fresh
    { initial := .opened, capacity := 2, backup := none, timeout := 10, retryLimit := 2, returnCount := 2 }

/-- A regular batch of four portions for station 2. -/
def batch (number : Nat) (state : BatchState) : Batch :=
  { owner := 0, number := number, kind := .regular, portions := 4, target := 2, threshold := 100, state := state
    late := false, moved := false, rush := false, voided := false }

/-- The ticket of line 5 with these batches, in course 1. -/
def ticket (batches : List Nat) : Ticket :=
  { line := 5, hostId := 0x1234, course := 1, wave := 0, dish := 3, rush := false, portions := 4, special := 0, tags := 0
    lead := 0, station := none, batches := batches, finished := 0, voided := false }

/-- One ticket with one batch in this state; station 2 is open. -/
def State.posted (state : BatchState) (s : State) : State :=
  { s with
    tickets := [(0, ticket [0])], pool := [(0, batch 0 state)], locks := [5]
    courses := s.courses.set 1 { Course.fresh unplannedCourse with state := .staged, openCount := 1 }
    stations := s.stations.set 2 grill }

/-- The batch is SHOWN in slot 0 of station 2. -/
def shown : State :=
  { State.posted (.shown 0) ready with
    stations := ready.stations.set 2
      { grill with slots := (Vector.replicate 16 none).set 0 (some 0), tokens := 1, timer := some 1, retry := 1 } }

/-- A change of one station. -/
def State.station (st : StationId) (f : Station → Station) (s : State) : State :=
  { s with stations := s.stations.set st (f s.stations[st]) }

/-- A change of one course. -/
def State.course (c : CourseId) (f : Course → Course) (s : State) : State :=
  { s with courses := s.courses.set c (f s.courses[c]) }

/-- Course 1 is FIRED at this countdown. -/
def fired (countdown : Nat) (s : State) : State :=
  State.course 1 (fun x => { x with state := .fired, countdown := countdown }) s

/-- A tick is due. -/
def due (s : State) : State := { s with ticksDue := 1 }

/-- A dish record: home station 6, batches of 8, lead 40 in 16-tick units, gap 30. -/
def dish : DishRecord :=
  { home := 6, batchSize := 8, lead := 40, unitCode := 1, gap := 30, specialPosition := 1
    divertB := { station := 9, mask := 0x0004 }, divertC := { station := 11, mask := 0x0030 }
    divertD := { station := 0, mask := 0 } }

/-- The bytes of that record. -/
def dishBytes : List Byte := [6, 8, 40, 0, 1, 1, 30, 0, 9, 0, 4, 0, 11, 0, 0x30, 0, 0, 0, 0, 0]

/-- A ticket line of course 1, wave 0, dish 3, with these portions. -/
def lineBytes (portions : Byte) : List Byte := [0x34, 0x12, 1, 0, 3, 0, portions, 0, 0, 0, 0, 0, 0, 0]

/-- The words of a write to a watched word, all bytes enabled. -/
def word (v : BitVec 32) : WordWrite := { enable := 0xF, data := v }

/-- A fault of this reason and source is in the log. -/
def logged (t : State) (reason : FaultReason) (source : Tag) : Bool :=
  (List.finRange 8).any fun i =>
    match t.faults[i] with
    | some x => x.report.reason == reason && x.report.source == source
    | none => false

theorem reading_inFlight {o : OwnRequest} {addr len : Nat} {bytes : List Byte} {s : State} {owns : Owner → Bool}
    (h : owns (.own o) = true) :
    (State.reading o addr len bytes s).ReadInFlight 0 owns (ownRequest o .read addr len []) := by
  refine ⟨?_, rfl, rfl⟩
  unfold State.reading
  simp [h, ownRequest]

-- ## Well-formedness: an ill-formed command for each check

theorem test_wellFormed_readWithLists :
    (Instr.requestArrival { tag := 0, kind := .read, addr := 0, len := 1, enables := [], data := [0] }).wellFormed = false
      ∧ (Instr.requestArrival { tag := 0, kind := .read, addr := 0, len := 1, enables := [true], data := [] }).wellFormed
        = false := by decide

theorem test_wellFormed_writeLists :
    (Instr.requestArrival { tag := 0, kind := .write, addr := 0, len := 2, enables := [true], data := [0, 0] }).wellFormed
        = false
      ∧ (Instr.requestArrival
          { tag := 0, kind := .write, addr := 0, len := 2, enables := [true, true], data := [0] }).wellFormed = false
      ∧ (Instr.bumpWrite 1 0 2 [true] [0, 0]).wellFormed = false
      ∧ (Instr.bumpWrite 1 0 2 [true, true] [0]).wellFormed = false := by decide

theorem test_wellFormed_answerTooLong :
    (Instr.ownWriteDone 0 (.error (List.replicate 65 0))).wellFormed = false
      ∧ (Instr.ownWriteDone 0 (.error (List.replicate 64 0))).wellFormed = true := by decide

theorem test_wellFormed_accepts :
    (Instr.bumpWrite 1 0 1 [true] [1]).wellFormed = true
      ∧ (Instr.requestArrival { tag := 0, kind := .read, addr := 0, len := 1, enables := [], data := [] }).wellFormed
        = true := by decide

-- ## Worked figures of the spec

/-- The worked split of spec/01. -/
theorem test_workedSplit :
    (splitTicket { ticket [] with course := 3, wave := 1, dish := 212, portions := 25, special := 3, tags := 0x0010 } dish
        90 41).map (fun bs => bs.map (fun b => (b.kind, b.portions, b.target, b.threshold)))
      = some [(.regular, 8, 6, 820), (.special, 3, 11, 790), (.regular, 8, 6, 760), (.regular, 6, 6, 730)] := by
  decide +kernel

/-- The dish record's bytes (spec/11). -/
theorem test_dishBytes : parseDish dishBytes = dish ∧ dish.check = none := by decide +kernel

/-- The ticket line's bytes (spec/11). -/
theorem test_lineBytes :
    (parseTicketLine (lineBytes 4)).course = 1 ∧ (parseTicketLine (lineBytes 4)).dish = 3
      ∧ (parseTicketLine (lineBytes 4)).portions = 4 ∧ (parseTicketLine (lineBytes 4)).hostId = 0x1234 := by
  decide +kernel

-- ## The machine

theorem witness_StepRunsTheFrontCommand :
    ({ ready with pending := [.trefPeriod, .rstFall] } : State).pending = .trefPeriod :: [.rstFall]
      ∧ ready.pending = [] := ⟨rfl, rfl⟩

theorem test_step_takesTheFront :
    step { ready with pending := [.trefPeriod, .rstFall] }
      = exec .trefPeriod { ready with pending := [.rstFall] } := rfl

theorem witness_RstFallAndRise :
    ready.rstLow = false ∧ (run .rstFall ready).rstLow = true := by decide +kernel

theorem test_rstRise_capturesStraps :
    (run (.rstRise 2) (run .rstFall ready)).straps = 2
      ∧ (run (.rstRise 2) (run .rstFall ready)).port.issued.length = 1
      ∧ (run (.rstRise 2) (run .rstFall ready)).requests.length = 13 := by decide +kernel

theorem witness_RestartWordRestarts :
    ready.rstLow = false ∧ ready.part ≠ .start ∧ ready.hasRoom 0 = true
      ∧ (word 0x01000000).enable.getLsbD 3 = true ∧ (word 0x01000000).data.extractLsb' 24 8 ≠ 0#8 := by
  decide +kernel

theorem test_restartWord_restarts :
    (run (.restartWord (word 0x01000000)) ready).part = .start
      ∧ (run (.restartWord (word 0)) ready).part = .ready := by decide +kernel

-- ## Classification

/-- A read and a write of one byte. -/
def read1 (tag : Tag) (addr : Address) : Request :=
  { tag := tag, kind := .read, addr := addr, len := 1, enables := [], data := [] }
def write1 (tag : Tag) (addr : Address) : Request :=
  { tag := tag, kind := .write, addr := addr, len := 1, enables := [true], data := [1] }

/-- Form, tag and regions, in START, TRANSPARENT and READY. -/
theorem witness_RegionTable_first :
    ({ read1 0 0 with len := 0 }).inOneLine = false ∧ ({ read1 0 0 with len := 65 }).inOneLine = false
      ∧ ({ read1 0 63 with len := 2 }).inOneLine = false
      ∧ (read1 63 0).inOneLine = true
      ∧ ready.regionOf 0x7F ≠ ready.regionOf 0x80
      ∧ ({ ready with part := .start }).classify (write1 0 0) = .refused .anchorAtStart
      ∧ ({ ready with part := .start }).classify (write1 5 0x100000) = .forwarded
      ∧ ({ ready with part := .transparent }).regionOf 0x100000 = .plain
      ∧ ({ ready with part := .transparent }).classify (write1 40 0x100000) = .forwarded := by decide +kernel

/-- One address of every region outside the window, with its judgement for the order processor and another agent. -/
theorem witness_RegionTable_regions :
    (ready.regionOf 0 = .setupArea ∧ ready.classify (write1 0 0) = .forwarded
        ∧ ready.classify (write1 40 0) = .refused .setupArea)
      ∧ (ready.regionOf 0x9F = .watchedWords ∧ ready.classify (write1 0 0x9F) = .latched
        ∧ ready.classify (write1 40 0x9F) = .refused .watchedWord)
      ∧ (ready.regionOf 0x500 = .finishedLog ∧ ready.classify (write1 0 0x500) = .forwarded
        ∧ ready.classify (write1 40 0x8FF) = .refused .partOwned)
      ∧ (ready.regionOf 0xA0 = .partOwned ∧ ready.classify (write1 0 0x1FFF) = .refused .partOwned)
      ∧ (ready.regionOf 0x110000 = .pool ∧ ready.classify (write1 0 0x110FFF) = .forwarded
        ∧ ({ ready with locks := [63] }).classify (write1 0 0x110FFF) = .refused .lineLocked
        ∧ ready.classify (write1 40 0x110000) = .refused .pool)
      ∧ (ready.regionOf 0x1001FF = .ring ∧ ready.classify (write1 0 0x100000) = .forwarded
        ∧ ready.classify (write1 40 0x100000) = .refused .intakeRing)
      ∧ (ready.regionOf 0x600000 = .guard0 ∧ ready.classify (write1 0 0x600000) = .forwarded
        ∧ ready.classify (write1 40 0x60FFFF) = .refused .guard0)
      ∧ (ready.regionOf 0x610000 = .guard1 ∧ ready.classify (write1 40 0x610000) = .refused .guard1)
      ∧ (ready.regionOf 0x2000 = .plain ∧ ready.classify (write1 40 0x2000) = .forwarded
        ∧ ready.classify (read1 40 0) = .forwarded) := by decide +kernel

/-- TRANSPARENT keeps the judgement of the anchor regions; and the first and the last address of each range. -/
theorem witness_RegionTable_bounds :
    ({ ready with part := .transparent }).classify (write1 40 0) = .refused .setupArea
      ∧ ({ ready with part := .transparent }).classify (write1 0 0) = .forwarded
      ∧ ({ ready with part := .transparent }).classify (write1 0 0x80) = .latched
      ∧ ({ ready with part := .transparent }).classify (write1 0 0xA0) = .refused .partOwned
      ∧ [0x7F, 0x80, 0x9F, 0xA0, 0x4FF, 0x500, 0x8FF, 0x900, 0x1FFF, 0x2000].map ready.regionOf
        = [.setupArea, .watchedWords, .watchedWords, .partOwned, .partOwned, .finishedLog, .finishedLog, .partOwned,
            .partOwned, .plain]
      ∧ [0xFFFFF, 0x100000, 0x1001FF, 0x100200, 0x10FFFF, 0x110000, 0x110FFF, 0x111000].map ready.regionOf
        = [.plain, .ring, .ring, .plain, .plain, .pool, .pool, .plain]
      ∧ [0x3FFFFF, 0x400000, 0x407FFF, 0x408000, 0x5FFFFF, 0x600000, 0x60FFFF, 0x610000, 0x61FFFF, 0x620000].map
          ready.regionOf
        = [.plain, .window, .window, .plain, .plain, .guard0, .guard0, .guard1, .guard1, .plain] := by decide +kernel

theorem witness_WindowOrderAndDecoding :
    ready.setup = some setup ∧ setup.badFields = false
      ∧ ready.regionOf 0x400080 = .window ∧ ready.regionOf 0x407FFF = .window
      ∧ ready.classify (read1 33 0x400080) = .refused .windowAgent
      ∧ ready.classify (write1 0 0x400080) = .refused .windowWrite
      ∧ setup.badWindowAddress 0x407FFF = false ∧ setup.windowPlace 0x407FFF = { station := 31, slot := 15, first := 63 }
      ∧ ({ setup with ps := 6, pt := 10 }).badFields = false
      ∧ ready.classify (read1 4 0x400080) = .refused .otherStation
      ∧ ({ ready with part := .stopped }).classify (write1 3 0x400080) = .refused .stoppedBump
      ∧ ({ ready with part := .stopped }).classify (read1 3 0x400080)
          = .translated { station := 2, slot := 0, first := 0 }
      ∧ ready.classify (read1 0 0x400080) = .translated { station := 2, slot := 0, first := 0 } := by decide +kernel

/-- An address with an offset bit that no field uses. -/
theorem witness_WindowOrder_badAddress :
    ({ setup with ps := 12, windowBase := 0x400000 }).badWindowAddress 0x400800 = true
      ∧ ({ ready with setup := some { setup with ps := 12 } }).classify (read1 3 0x400800)
        = .refused .badWindowAddress := by decide +kernel

-- ## The memory path

theorem witness_RefusedRequestIsAnswered :
    ready.rstLow = false ∧ ready.hasRoom 40 = true ∧ ready.classify (write1 40 0) = .refused .setupArea
      ∧ ready.flights[(40 : Tag)] = [] := by decide +kernel

/-- A request is in flight for tag 40 and for tag 0. -/
def waiting : State := run (.requestArrival (read1 0 0x3000)) (run (.requestArrival (read1 40 0x2000)) ready)

theorem witness_RefusedRequestIsAnswered_waits :
    waiting.flights[(40 : Tag)] = [{ id := 0, req := read1 40 0x2000, response := none }]
      ∧ waiting.arrivals ≠ 0 ∧ waiting.classify (write1 40 0) = .refused .setupArea := by decide +kernel

theorem test_refused :
    (run (.requestArrival (write1 40 0)) ready).responses = [(40, { status := .refused, data := [] })]
      ∧ logged (run (.requestArrival (write1 40 0)) ready) .accessRefused 40 = true
      ∧ (run (.requestArrival (write1 40 0)) waiting).responses = [] := by decide +kernel

theorem witness_ForwardedRequestIsUnchanged :
    ready.hasRoom 40 = true ∧ ready.classify (read1 40 0x2000) = .forwarded := by decide +kernel

theorem witness_AnswersReturnInOrder :
    (waiting.port.issued.find? (fun x => x.id == 0 && x.owner.isForwarded)).map
        (fun m => (m.owner, m.tag, m.discard)) = some (.forwarded 0, 40, false)
      ∧ waiting.portWaiting = []
      ∧ waiting.flights[(40 : Tag)] = [{ id := 0, req := read1 40 0x2000, response := none }] := by decide +kernel

/-- Two requests of one requester: the answer to the second waits for the first. -/
theorem witness_AnswersReturnInOrder_waits :
    ((run (.requestArrival (read1 40 0x4000)) waiting).port.issued.find? (fun x => x.id == 2 && x.owner.isForwarded)).map
        (fun m => (m.owner, m.tag)) = some (.forwarded 2, 40)
      ∧ ((run (.requestArrival (read1 40 0x4000)) waiting).flights[(40 : Tag)]).map (fun f => (f.id, f.response))
        = [(0, none), (2, none)]
      ∧ (run (.forwardedResponse 2 .okay) (run (.requestArrival (read1 40 0x4000)) waiting)).responses = [] := by
  decide +kernel

theorem test_forwardedResponse :
    (run (.forwardedResponse 0 .okay) waiting).responses = [(40, { status := .okay, data := [0] })]
      ∧ (run (.forwardedResponse 0 (.error [])) waiting).responses = [(40, { status := .memfail, data := [0] })] := by
  decide +kernel

/-- The answer to the second stands behind the first, and both return with the answer to the first; a redirected bump
is answered like them. -/
theorem witness_AnswersReturnInOrder_together :
    ((run (.forwardedResponse 2 .okay) (run (.requestArrival (read1 40 0x4000)) waiting)).flights[(40 : Tag)]).map
        (fun f => (f.id, f.response.isSome)) = [(0, false), (2, true)]
      ∧ (run (.forwardedResponse 0 .okay) (run (.forwardedResponse 2 .okay)
          (run (.requestArrival (read1 40 0x4000)) waiting))).responses.map (fun x => x.1) = [40, 40]
      ∧ ((run (.bumpWrite 3 0x400080 1 [true] [0]) shown).port.issued.find?
          (fun x => x.id == 0 && x.owner.isBump)).map (fun m => (m.owner, m.tag, m.discard)) = some (.bump 0, 3, false) := by
  decide +kernel

/-- Sixteen reads of one requester are in flight. -/
def full : State :=
  (List.range 16).foldl (fun s i => run (.requestArrival (read1 40 (BitVec.ofNat 40 (0x2000 + 64 * i)))) s) ready

/-- A seventeenth request waits; the answer to the first lets it arrive, and an answer to the second does not. -/
theorem witness_AnswersReturnInOrder_admits :
    16 ≤ (full.flights[(40 : Tag)]).length ∧ (run (.requestArrival (read1 40 0x3000)) full).portWaiting = [read1 40 0x3000]
      ∧ (run (.requestArrival (read1 40 0x3000)) full).arrivals = full.arrivals
      ∧ (run (.forwardedResponse 0 .okay) (run (.requestArrival (read1 40 0x3000)) full)).portWaiting = []
      ∧ (((run (.forwardedResponse 0 .okay) (run (.requestArrival (read1 40 0x3000)) full)).flights[(40 : Tag)]).map
          (fun f => f.id)) = (List.range 16).map (fun i => i + 1)
      ∧ (run (.forwardedResponse 1 .okay) (run (.requestArrival (read1 40 0x3000)) full)).portWaiting = [read1 40 0x3000] := by
  decide +kernel

-- ## Watched words

theorem witness_TailWordIsJudged :
    ready.rstLow = false ∧ ready.hasRoom 0 = true ∧ ready.part ≠ .start ∧ ready.ringCount = 16
      ∧ ({ ready with part := .transparent }).part = .transparent
      ∧ (run (.tailWord (word 15)) ready).intake = { head := 0, tail := 15, progress := some (.fetching 1) }
      ∧ logged (run (.tailWord (word 16)) ready) .badTail 0 = true
      ∧ logged (run (.tailWord (word 0)) (State.entry [0] ready)) .badTail 0 = true
      ∧ (run (.tailWord (word 0)) ready).intake = { head := 0, tail := 0, progress := none }
      ∧ (run (.tailWord (word 99)) { ready with part := .transparent }).intake.tail = 99 := by decide +kernel

theorem witness_NoticeMaskSelectsShown :
    ready.rstLow = false ∧ ready.hasRoom 0 = true ∧ ready.part ≠ .start := by decide +kernel

theorem test_noticeMask :
    (run (.noticeMask (word 0)) (run (.requestArrival (write1 40 0)) ready)).attn = false
      ∧ (run (.requestArrival (write1 40 0)) ready).attn = true
      ∧ (run (.noticeMask { enable := 2, data := 0xFFFFFFFF }) ready).latched.mask = 0xFF01 := by decide +kernel

theorem witness_ClearWordClears :
    (run (.requestArrival (write1 40 0)) ready).faults[(0 : RecordId)] ≠ none
      ∧ (run (.clearWord (word 0x100)) (run (.requestArrival (write1 40 0)) ready)).faults[(0 : RecordId)] = none
      ∧ (run (.clearWord { enable := 0xD, data := 0x100 })
          (run (.requestArrival (write1 40 0)) ready)).faults[(0 : RecordId)] ≠ none := by decide +kernel

/-- A log of eight faults of eight sources. -/
def fullLog : State :=
  (List.finRange 8).foldl (fun s i => s.recordFault { reason := .badBump, source := ⟨i.val, by omega⟩ }) ready

theorem witness_FaultLogAndStop :
    fullLog.faults[(7 : RecordId)] = some { report := { reason := .badBump, source := 7 }, count := 0 }
      ∧ ready.faults[(0 : RecordId)] = none
      ∧ (∀ j : RecordId, (fullLog.faults[j]).isSome = true)
      ∧ (fullLog.recordFault { reason := .badBump, source := 40 }).overflow = true
      ∧ ((fullLog.recordFault { reason := .badBump, source := 7 }).faults[(7 : RecordId)]).map (fun x => x.count) = some 1
      ∧ ({ ready with setup := some { setup with stopOnFatal := true } }).stopsOnFatal = true
      ∧ ready.stopsOnFatal = false ∧ ready.part = .ready := by decide +kernel

theorem fullLog_distinct : fullLog.FaultsDistinct := by
  have h : ∀ i j : RecordId, (fullLog.faults[i]).map (fun x => x.report.source)
      = (fullLog.faults[j]).map (fun x => x.report.source) → i = j := by decide +kernel
  intro i j x y hx hy _ e
  exact h i j (by rw [hx, hy]; simp [e])

-- ## The station window

/-- The state of `shown` with a plan in which the other slots are empty, read by station 2's own link. -/
theorem witness_WindowReadsAcknowledge :
    shown.rstLow = false ∧ shown.hasRoom 3 = true
      ∧ shown.classify (readRequest 3 0x400080 64) = .translated { station := 2, slot := 0, first := 0 }
      ∧ (3 : Tag) = linkTag 2 ∧ shown.slotBatch 2 0 = some (0, batch 0 (.shown 0))
      ∧ shown.ticketOf? (batch 0 (.shown 0)) = some (ticket [0]) ∧ (shown.stations[(2 : StationId)]).state = .opened
      ∧ (∀ j : SlotId, j ≠ 0 → (shown.stations[(2 : StationId)]).slots[j] ≠ some 0) := by decide +kernel

theorem witness_WindowReadsAcknowledge_empty :
    ready.classify (readRequest 3 0x4000BF 1) = .translated { station := 2, slot := 0, first := 63 }
      ∧ ready.slotBatch 2 0 = none ∧ ready.flights[(3 : Tag)] = []
      ∧ (ready.stations[(2 : StationId)]).state ≠ .down
      ∧ shown.classify (readRequest 0 0x400080 64) = .translated { station := 2, slot := 0, first := 0 } := by
  decide +kernel

theorem ready_setupSound : ready.SetupSound := by
  refine ⟨fun h => absurd h (by decide), fun h => ?_, fun u h => ?_⟩
  · rcases h with h | ⟨low, h⟩ <;> exact absurd h (by simp [ready])
  · have e : u = setup := (Option.some.inj h).symm
    subst e
    exact ⟨by decide +kernel, setupCheck_none (bs := setupMarker) (by decide +kernel)⟩

theorem test_windowRead :
    (run (.windowRead 3 0x400080 64) shown).batch? 0 = some (batch 0 (.cooking 0))
      ∧ ((run (.windowRead 3 0x400080 64) shown).stations[(2 : StationId)]).timer = none
      ∧ (run (.windowRead 3 0x4000BA 2) ready).responses = [(3, { status := .okay, data := [0, 0x20] })] := by
  decide +kernel

/-- The record of a view that needs both reads and of one that needs the line alone, and a read of bytes 56 to 63. -/
theorem witness_WindowReadsAcknowledge_assembly :
    (run (.windowRead 3 0x400080 64) shown).assemblies.map (fun x => (x.bumpAddr, x.lineAddr, x.outstanding))
        = [(some 0x1100, some 0x110148, 2)]
      ∧ (run (.windowRead 3 0x400088 8) shown).assemblies.map (fun x => (x.bumpAddr, x.lineAddr, x.outstanding))
        = [(none, some 0x110148, 1)]
      ∧ (run (.windowRead 3 0x4000B8 2) shown).assemblies = []
      ∧ (run (.windowRead 3 0x4000B8 2) shown).responses = [(3, { status := .okay, data := [0x34, 0x12] })] := by
  decide +kernel

/-- Station 2 is DOWN with this return progress. -/
def downAt (progress : Nat) (s : State) : State :=
  State.station 2 (fun x => { x with state := .down, progress := progress }) s

theorem witness_WindowReadsAcknowledge_down :
    (downAt 1 shown).classify (readRequest 3 0x400080 64) = .translated { station := 2, slot := 0, first := 0 }
      ∧ (downAt 1 shown).slotBatch 2 0 = some (0, batch 0 (.shown 0))
      ∧ ((downAt 0 shown).stations[(2 : StationId)]).progress + 1 < ((downAt 0 shown).stations[(2 : StationId)]).plan.returnCount
      ∧ ((downAt 1 shown).stations[(2 : StationId)]).plan.returnCount ≤ ((downAt 1 shown).stations[(2 : StationId)]).progress + 1
      ∧ (∀ st : StationId, 0 ∉ ((downAt 1 shown).stations[st]).queue)
      ∧ (run (.windowRead 3 0x400080 64) shown).slotUnread 2 0 = false
      ∧ (downAt 1 ready).classify (readRequest 3 0x400080 64) = .translated { station := 2, slot := 0, first := 0 } := by
  decide +kernel

theorem test_windowRead_down :
    ((run (.windowRead 3 0x400080 64) (downAt 0 shown)).stations[(2 : StationId)]).progress = 1
      ∧ ((run (.windowRead 3 0x400080 64) (downAt 1 shown)).stations[(2 : StationId)]).state = .opened
      ∧ ((run (.windowRead 3 0x400080 64) (downAt 1 ready)).stations[(2 : StationId)]).state = .opened := by
  decide +kernel

/-- Two batches of one ticket are unread at station 2, whose ack timeout is 1 and whose timer stands at 1; a tick has
been produced. -/
def pair : State :=
  { State.posted .planned ready with
    ticksDue := 1
    tickets := [(0, ticket [0, 1])], pool := [(0, batch 0 (.shown 0)), (1, batch 1 (.shown 1))]
    courses := ready.courses.set 1 { Course.fresh unplannedCourse with state := .staged, openCount := 2 }
    stations := ready.stations.set 2
      { grill with
        plan := { grill.plan with timeout := 1 }
        slots := ((Vector.replicate 16 none).set 0 (some 0)).set 1 (some 1), tokens := 2, timer := some 1 } }

/-- The timer, the tick mark and the retry count of station 2. -/
def ack (s : State) : Option Nat × TickMark × Nat :=
  ((s.stations[(2 : StationId)]).timer, (s.stations[(2 : StationId)]).tick, (s.stations[(2 : StationId)]).retry)

/-- A read before the tick that meets it: the reloaded timer falls to one below the timeout, here 0, and does not
expire; the next tick expires it (R114). -/
theorem test_readBeforeTheTick :
    ack (run (.windowRead 3 0x400080 64) pair) = (some 1, .spared, 0)
      ∧ ack (run (.tick .coursesFirst) (run (.windowRead 3 0x400080 64) pair)) = (some 0, .clear, 0)
      ∧ ack (run (.ackTimerExpiry 2) (run (.windowRead 3 0x400080 64) pair)) = (some 1, .spared, 0)
      ∧ ack (run (.ackTimerExpiry 2) (run (.tick .timersFirst)
          (due (run (.tick .coursesFirst) (run (.windowRead 3 0x400080 64) pair))))) = (some 1, .clear, 1) := by
  decide +kernel

/-- The same when the tick has passed and the station still owes it. -/
theorem test_readBeforeTheOwedTick :
    ack (run (.tick .coursesFirst) pair) = (some 1, .owed, 0)
      ∧ ack (run (.windowRead 3 0x400080 64) (run (.tick .coursesFirst) pair)) = (some 1, .owedSpared, 0)
      ∧ ack (run (.ackTimerExpiry 2) (run (.windowRead 3 0x400080 64) (run (.tick .coursesFirst) pair)))
        = (some 0, .clear, 0) := by decide +kernel

/-- A DONE bump of an unread batch acts so too; a REJECT of one of two leaves the timer to its expiry, and of the last
stops it (R115). -/
theorem test_bumpBeforeTheTick :
    ack (run (.tick .coursesFirst) (run (.bumpWrite 3 0x400080 1 [true] [1]) pair)) = (some 0, .clear, 0)
      ∧ ack (run (.tick .coursesFirst) (run (.bumpWrite 3 0x400080 1 [true] [2]) pair)) = (some 1, .owed, 0)
      ∧ ack (run (.bumpWrite 3 0x400880 1 [true] [2]) (run (.bumpWrite 3 0x400080 1 [true] [2]) pair))
        = (none, .clear, 0)
      ∧ ack (run (.tick .coursesFirst) (run (.bumpWrite 3 0x400880 1 [true] [2])
          (run (.bumpWrite 3 0x400080 1 [true] [2]) pair))) = (none, .clear, 0) := by decide +kernel

/-- One unread batch, and a DUE one behind it: the DONE bump stops the timer and the show that follows loads it. -/
def handing : State :=
  State.station 2 (fun x => { x with slots := x.slots.set 1 none, tokens := 1, ordinary := [1] })
    { pair with pool := [(0, batch 0 (.shown 0)), (1, batch 1 .due)] }

/-- The tick finds a timer that a show has just loaded, and expires it at a timeout of 1 (R105). -/
theorem test_showBeforeTheTick :
    ((run (.bumpWrite 3 0x400080 1 [true] [1]) handing).batch? 1).map (fun b => b.state) = some (.shown 0)
      ∧ ack (run (.bumpWrite 3 0x400080 1 [true] [1]) handing) = (some 1, .clear, 0)
      ∧ ack (run (.tick .coursesFirst) (run (.bumpWrite 3 0x400080 1 [true] [1]) handing)) = (some 1, .owed, 0)
      ∧ ack (run (.bumpWrite 3 0x400080 1 [true] [1]) (State.station 2 (fun x => { x with tick := .owedSpared }) handing))
        = (some 1, .owed, 0) := by decide +kernel

theorem witness_WindowReadsAcknowledge_marks :
    0 < pair.ticksDue ∧ (pair.stations[(2 : StationId)]).timer = some 1 ∧ (pair.stations[(2 : StationId)]).tick = .clear
      ∧ ((run (.tick .coursesFirst) pair).stations[(2 : StationId)]).tick = .owed
      ∧ (List.finRange 16).any (fun j => decide (j ≠ (0 : SlotId)) && pair.slotUnread 2 j) = true := by decide +kernel

/-- The assembly of a read of the whole slot line. -/
def assembling : State := run (.windowRead 3 0x400080 64) shown

theorem witness_AssemblyFormsItsResponse :
    (assembling.assemblies.map (fun x => (x.flight, x.tag, x.outstanding)) = [(0, 3, 2)])
      ∧ (assembling.port.issued.find? (fun y => y.id == 0 && y.owner.isAssembly)).map
          (fun m => (m.kind, m.owner, m.tag, m.discard)) = some (.read, .assemblyBump 0, 3, false)
      ∧ (assembling.flights[(3 : Tag)]).map (fun f => (f.id, f.response)) = [(0, none)] ∧ assembling.portWaiting = []
      ∧ ((run (.assemblyReadReturn 0 .okay) assembling).assemblies.map (fun x => x.outstanding) = [1]) := by
  decide +kernel

theorem test_assembly :
    (run (.assemblyReadReturn 1 .okay) (run (.assemblyReadReturn 0 .okay) assembling)).responses
      = [(3, { status := .okay, data := zeros 56 ++ [0x34, 0x12, 0x80, 0, 4, 0, 0, 0] })]
      ∧ (run (.assemblyReadReturn 1 .okay) (run (.assemblyReadReturn 0 (.error [])) assembling)).responses
        = [(3, { status := .memfail, data := zeros 64 })] := by decide +kernel

/-- A read that waits behind another request of its link, with a refused request behind it, and a second assembly. -/
def assemblingBehind : State :=
  run (.requestArrival (write1 3 0)) (run (.windowRead 3 0x400080 64) (run (.requestArrival (read1 3 0x2000)) shown))

theorem witness_AssemblyFormsItsResponse_behind :
    (assemblingBehind.flights[(3 : Tag)]).map (fun f => (f.id, f.response.isSome)) = [(0, false), (1, false), (2, true)]
      ∧ assemblingBehind.assemblies.map (fun x => x.flight) = [1]
      ∧ (run (.windowRead 0 0x400080 64) assembling).assemblies.map (fun x => (x.flight, x.tag)) = [(0, 3), (1, 0)]
      ∧ (run (.assemblyReadReturn 2 .okay) (run (.assemblyReadReturn 1 .okay) assemblingBehind)).responses = []
      ∧ (run (.assemblyReadReturn 2 .okay) (run (.assemblyReadReturn 1 .okay)
          (run (.forwardedResponse 0 .okay) assemblingBehind))).responses.map (fun x => x.2.status) = [.okay, .refused] := by
  decide +kernel

/-- A bump of one byte into slot 0 of station 2. -/
def bump (code : Byte) : Instr := .bumpWrite 3 0x400080 1 [true] [code]

theorem witness_DoneBumpFinishes :
    shown.classify (writeRequest 3 0x400080 1 [true] [1]) = .translated { station := 2, slot := 0, first := 0 }
      ∧ shown.slotBatch 2 0 = some (0, batch 0 (.shown 0)) ∧ byteAt [0x01] 0 = 1 ∧ byteAt [0x00] 0 = 0
      ∧ (∀ st : StationId, (0 : Nat) ∉ (shown.stations[st]).queue)
      ∧ (∀ st : StationId, ∀ j : SlotId, (shown.stations[st]).slots[j] = some 0 → st = 2 ∧ j = 0) := by decide +kernel

theorem test_doneBump :
    (run (bump 1) shown).tickets = [] ∧ (run (bump 1) shown).pool = [] ∧ (run (bump 1) shown).locks = []
      ∧ ((run (bump 1) shown).stations[(2 : StationId)]).tokens = 0
      ∧ ((run (bump 1) shown).requests.filter (fun m => m.owner == .own .finishedLog)).map (fun m => m.data)
        = [[0x34, 0x12, 5, 0, 1, 1, 0, 0]] := by decide +kernel

/-- The clauses of a finish: not the last, the last with a batch that ended otherwise, and the last of a PASSED course,
at which the service may be stalled. -/
theorem witness_DoneBumpFinishes_finishes :
    (pair.ticketOf? (batch 0 (.shown 0))).map (fun k => (k.finished + 1, k.batches.length)) = some (1, 2)
      ∧ (run (bump 1) pair).tickets.map (fun e => e.2.finished) = [1]
      ∧ ((run (bump 1) pair).courses[(1 : CourseId)]).openCount = 1
      ∧ ((run (bump 1) (State.course 1 (fun x => { x with state := .passed }) shown)).courses[(1 : CourseId)]).state = .cleared
      ∧ (run (bump 1) { State.course 1 (fun x => { x with state := .passed }) shown with
          service := { state := .stalled, list := { courses := [1], cycle := false }, position := 0, pending := none }
          }).service.state = .running := by decide +kernel

/-- The outcomes of the finished log, by the last finish. -/
theorem test_finishedOutcomes :
    ((run (bump 1) { pair with
        tickets := [(0, { ticket [0, 1] with finished := 1 })]
        pool := [(0, batch 0 (.shown 0)), (1, batch 1 .void)] }).requests.filter
          (fun m => m.owner == .own .finishedLog)).map (fun m => byteAt m.data 5) = [2]
      ∧ ((run (bump 1) { shown with pool := [(0, { batch 0 (.shown 0) with voided := true })] }).requests.filter
          (fun m => m.owner == .own .finishedLog)).map (fun m => byteAt m.data 5) = [3] := by
  decide +kernel

theorem witness_RejectBumpGivesBack :
    shown.usableBackup 2 = none ∧ byteAt [0x02] 0 = 2 ∧ (batch 0 (.shown 0)).voided = false
      ∧ (State.station 2 (fun x => { x with plan := { x.plan with backup := some 4 } })
          (State.station 4 (fun _ => grill) shown)).usableBackup 2 = some 4 := by decide +kernel

theorem test_rejectBump :
    ((run (bump 2) shown).batch? 0).map (fun b => b.state) = some .stranded
      ∧ logged (run (bump 2) shown) .stranded 3 = true
      ∧ ((run (bump 2) (State.station 2 (fun x => { x with plan := { x.plan with backup := some 4 } })
          (State.station 4 (fun _ => grill) shown))).batch? 0).map (fun b => (b.state, b.target, b.moved))
        = some (.shown 0, 4, true) := by decide +kernel

theorem test_rejectOfVoided :
    (run (bump 2) { shown with pool := [(0, { batch 0 (.shown 0) with voided := true })] }).tickets = []
      ∧ ((run (bump 2) { pair with pool := [(0, { batch 0 (.shown 0) with voided := true }), (1, batch 1 (.shown 1))]
          }).batch? 0).map (fun b => b.state) = some .void
      ∧ ((run (bump 2) { shown with pool := [(0, { batch 0 (.shown 0) with voided := true })] }).stations[(2 : StationId)]).tokens
        = 0 := by decide +kernel

theorem witness_BumpRefusals :
    shown.classify (writeRequest 3 0x400081 1 [true] [1]) = .translated { station := 2, slot := 0, first := 1 }
      ∧ shown.classify (writeRequest 3 0x400080 9 (List.replicate 9 true) (zeros 9))
        = .translated { station := 2, slot := 0, first := 0 }
      ∧ ready.slotBatch 2 0 = none ∧ 2 < byteAt [0x03] 0 ∧ shown.flights[(3 : Tag)] = []
      ∧ logged (run (bump 3) shown) .badBump 3 = true
      ∧ logged (run (bump 1) ready) .accessRefused 3 = true := by decide +kernel

theorem witness_SynthesizedBytes : (batch 31 .due).number < 32 ∧ (batch 31 .due).portions < 65536
    ∧ (ready.courses[(ticket []).course]).countdown < 65536 := by decide +kernel

/-- The largest counts of a course and of a fault record, little end first. -/
theorem witness_SynthesizedBytes_layouts :
    ({ Course.fresh unplannedCourse with state := .fired, countdown := 65535, late := 65535, openCount := 1024 }
        : Course).mirrorBytes = [2, 0, 255, 255, 255, 255, 0, 4] ++ zeros 8
      ∧ (shown.stations[(2 : StationId)]).mirrorBytes = [1, 1, 0, 0, 0, 0, 1] ++ zeros 9
      ∧ faultBytes (some { report := { reason := .badBump, source := 3, sub := 255, station := 2, course := 15
                                       line := 4095, addr := 0xFFFFFFFFFF }, count := 255 })
        = [1, 8, 3, 255, 2, 15, 255, 15, 255, 255, 255, 255, 255, 255] ++ zeros 18
      ∧ finishedBytes (ticket [0]) .partVoid = [0x34, 0x12, 5, 0, 1, 2, 0, 0] := by decide +kernel

-- ## Stations and queues

theorem witness_EntryRuleAndShowing :
    (State.posted .due ready).batch? 0 = some (batch 0 .due)
      ∧ ((State.posted .due ready).stations[(2 : StationId)]).state = .opened
      ∧ (ready.stations[(2 : StationId)]).state = .closed ∧ ready.usableBackup 2 = none
      ∧ (State.station 2 (fun x => { x with state := .down }) (State.posted .due ready)).usableBackup 2 = none
      ∧ (State.station 5 (fun _ => { grill with state := .closed, plan := { grill.plan with backup := some 2 } })
          (State.posted .due ready)).usableBackup 5 = some 2
      ∧ ((State.posted .due ready).enterStation 0 2).batch? 0 = some { (batch 0 (.shown 0)) with late := true } := by
  decide +kernel

/-- A DUE batch at the head of the queue of station 2, which is OPEN. -/
def toShow : State := State.station 2 (fun x => { x with ordinary := [0] }) (State.posted .due ready)

theorem witness_EntryRuleAndShowing_show :
    (toShow.stations[(2 : StationId)]).queue.head? = some 0 ∧ toShow.batch? 0 = some (batch 0 .due)
      ∧ toShow.ticketOf? (batch 0 .due) = some (ticket [0]) ∧ (toShow.stations[(2 : StationId)]).slots[(0 : SlotId)] = none
      ∧ toShow.showing 2 = true := by decide +kernel

theorem test_show :
    ((toShow.showHead 2).batch? 0).map (fun b => (b.state, b.late)) = some (.shown 0, true)
      ∧ ((toShow.showHead 2).stations[(2 : StationId)]).timer = some 10
      ∧ ((toShow.showHead 2).courses[(1 : CourseId)]).late = 1
      ∧ (toShow.showHead 2).requests.map (fun m => m.addr) = [0x1100] := by decide +kernel

-- ## The intake ring

theorem witness_EntryFetchIsJudged (bytes : List Byte) (s : State) :
    (State.entry bytes s).ReadInFlight 0 Owner.isEntryFetch (ownRequest .entryFetch .read 0x100000 32 []) := by
  refine ⟨?_, rfl, rfl⟩
  unfold State.entry State.reading
  simp [Owner.isEntryFetch, ownRequest]

theorem witness_EntryFetchIsJudged_clauses :
    (State.entry [0x0C, 1] ready).intake.progress = some (.fetching 0)
      ∧ (State.entry [0x0C, 1] ready).takesEntries = true ∧ (State.entry [0x0C, 1] ready).stopsOnFatal = false
      ∧ 0x0B < byteAt (Memory.readBytes (State.entry [0x0C, 1] ready).dram 0x100000 32) 0
      ∧ byteAt (Memory.readBytes (State.entry [9] { ready with part := .idle }).dram 0x100000 32) 0 = 9
      ∧ (State.entry [1] { ready with part := .stopped }).part = .stopped
      ∧ returns (State.entry [0] ready) false .nop = true := by decide +kernel

theorem test_entryFetch :
    statuses (run (.entryFetchDone 0 .okay) (State.entry [0x0C, 1] ready)) = [[0x10, 0]]
      ∧ (run (.entryFetchDone 0 .okay) (State.entry [0x0C, 1] ready)).conditions.notify = true
      ∧ statuses (run (.entryFetchDone 0 .okay) (State.entry [1] { ready with part := .idle })) = [[0x12, 0]]
      ∧ statuses (run (.entryFetchDone 0 (.error [])) (State.entry [1] ready)) = [[0x19, 0]]
      ∧ statuses (run (.entryFetchDone 0 .okay) (State.entry [1] { ready with part := .stopped })) = [] := by
  decide +kernel

theorem test_nop :
    statuses (run (.nop false) (State.entry [0] ready)) = [[1, 0]]
      ∧ (run (.nop false) (State.entry [0] ready)).intake = { head := 1, tail := 1, progress := none } := by
  decide +kernel

/-- A FENCE that waits for the write of the head word of a NOP. -/
def fencing : State :=
  let s := run (.nop false) (State.entry [0] ready)
  { s with
    intake := { s.intake with progress := some (.running true (.fence [1, 2] 0)) } }

theorem witness_FenceWaitsForOwnWrites :
    returns (State.entry [0x0A] ready) false .fence = true ∧ (State.entry [0x0A] ready).port.ownWrites = []
      ∧ fencing.port.ownWrites = [1, 2] ∧ fencing.takesEntries = true ∧ fencing.stopsOnFatal = false
      ∧ (fencing.port.issued.find? (fun x => x.id == 1 && x.owner.isOwnWrite)).isSome = true
      ∧ statuses (run (.ownWriteDone 2 .okay) (run (.ownWriteDone 1 .okay) fencing)) = [[1, 0]]
      ∧ statuses (run (.ownWriteDone 2 (.error [])) (run (.ownWriteDone 1 (.error [])) fencing)) = [[0x19, 2]] := by
  decide +kernel

/-- A FENCE whose fetch stands behind an own write. -/
def fenceBehind : State :=
  { State.entry [0x0A] ready with
    port := MemPort.enqueue (State.entry [0x0A] ready).port (anchorWrite 0 .headWord offHead (zeros 4)) }

theorem witness_FenceWaitsForOwnWrites_waits :
    returns fenceBehind false .fence = true ∧ fenceBehind.port.ownWrites = [1]
      ∧ ((fenceBehind.port.issued ++ fenceBehind.port.waiting).map (fun m => m.id)).Nodup
      ∧ (∀ m ∈ fenceBehind.port.issued ++ fenceBehind.port.waiting, m.id < fenceBehind.port.nextId)
      ∧ (run (.fence false) fenceBehind).intake.progress = some (.running false (.fence [1] 0)) := by decide +kernel

-- ## Tickets

theorem witness_PostIsTaken :
    returns (State.entry [1, 0, 0, 0, 64] ready) false (.post 64) = true
      ∧ returns (State.entry [1, 0, 0, 0, 63] ready) false (.post 63) = true ∧ ready.lineCount = 64
      ∧ returns (State.entry [1, 0, 0, 0, 5] (State.posted .planned ready)) false (.post 5) = true
      ∧ 5 ∈ (State.posted .planned ready).locks ∧ ready.tickets.length < 1024 := by decide +kernel

theorem witness_PostIsTaken_full :
    returns (State.entry [1, 0, 0, 0, 5] { ready with tickets := List.replicate 1024 (0, ticket []) }) false (.post 5)
        = true
      ∧ 1024 ≤ ({ ready with tickets := List.replicate 1024 (0, ticket []) } : State).tickets.length := by
  decide +kernel

theorem test_post :
    statuses (run (.post false 64) (State.entry [1, 0, 0, 0, 64] ready)) = [[0x11, 0]]
      ∧ (run (.post false 63) (State.entry [1, 0, 0, 0, 63] ready)).locks = [63]
      ∧ statuses (run (.post false 5) (State.entry [1, 0, 0, 0, 5] (State.posted .planned ready))) = [[0x14, 0]] := by
  decide +kernel

/-- A POST whose line fetch is in flight. -/
def lineAt (bytes : List Byte) : State :=
  { State.reading .lineFetch 0x110140 64 bytes ready with
    locks := [5], intake := { head := 0, tail := 1, progress := some (.running false (.postLine 5)) }
    courses := ready.courses.set 1 { Course.fresh unplannedCourse with state := .staged } }

theorem witness_PostLineIsChecked :
    (lineAt (lineBytes 4)).part = .ready
      ∧ (lineAt (lineBytes 4)).intake.progress = some (.running false (.postLine 5))
      ∧ ((lineAt (lineBytes 4)).port.issued.find? (fun x => x.id == 0 && x.owner.isLineFetch))
        = some (ownRequest .lineFetch .read 0x110140 64 [])
      ∧ leNat (Memory.readBytes (lineAt (lineBytes 0)).dram 0x110140 64) 6 2 = 0
      ∧ (lineAt (lineBytes 4)).plan.dishCount = 10 ∧ (lineAt (lineBytes 4)).cache = [] := by decide +kernel

theorem test_lineFetch :
    statuses (run (.lineFetchDone 0 .okay) (lineAt (lineBytes 0))) = [[0x18, 0]]
      ∧ statuses (run (.lineFetchDone 0 .okay) (lineAt [0, 0, 1, 0, 10, 0, 1, 0])) = [[0x17, 0]]
      ∧ (run (.lineFetchDone 0 .okay) (lineAt (lineBytes 4))).intake.progress
        = some (.running false (.postDish 5 (parseTicketLine (lineBytes 4))))
      ∧ (run (.lineFetchDone 0 (.error [])) (lineAt [])).locks = [] := by decide +kernel

/-- The same with the dish in the cache, and course 1 in this state at this countdown. -/
def hitAt (state : CourseState) (countdown : Nat) : State :=
  State.course 1 (fun x => { x with state := state, countdown := countdown })
    { lineAt (lineBytes 4) with cache := [{ dish := 3, record := dish }] }

/-- A pool without a free record. -/
def fullPool : List (Nat × Batch) := List.replicate 4096 (0, batch 0 .due)

theorem witness_PostLineIsChecked_hit :
    cached? 3 (hitAt .staged 0).cache = some dish
      ∧ (splitTicket ((parseTicketLine (lineBytes 4)).toTicket 5) dish ((hitAt .fired 640).passMark
          ((parseTicketLine (lineBytes 4)).toTicket 5)) 0).map (fun bs => bs.map (fun b => b.threshold)) = some [640]
      ∧ Table.wfFrom 0 (hitAt .fired 640).tickets = true ∧ Table.wfFrom 0 (hitAt .fired 640).pool = true
      ∧ 4096 < ({ hitAt .staged 0 with pool := fullPool } : State).pool.length + 1 := by decide +kernel

theorem test_lineFetch_hit :
    (run (.lineFetchDone 0 .okay) (hitAt .fired 641)).pool.map (fun e => e.2.state) = [.planned]
      ∧ (run (.lineFetchDone 0 .okay) (hitAt .fired 640)).pool.map (fun e => (e.2.state, e.2.late)) = [(.stranded, false)]
      ∧ (run (.lineFetchDone 0 .okay) (hitAt .passed 0)).pool.map (fun e => (e.2.state, e.2.late)) = [(.stranded, true)]
      ∧ statuses (run (.lineFetchDone 0 .okay) (hitAt .idle 0)) = [[0x12, 0]]
      ∧ statuses (run (.lineFetchDone 0 .okay) { hitAt .staged 0 with pool := fullPool }) = [[0x13, 0]] := by
  decide +kernel

/-- A POST whose dish fill is in flight. -/
def dishAt (bytes : List Byte) (state : CourseState) : State :=
  { State.reading .dishFill 0x300060 32 bytes ready with
    locks := [5]
    intake := { head := 0, tail := 1, progress := some (.running false (.postDish 5 (parseTicketLine (lineBytes 4)))) }
    courses := ready.courses.set 1 { Course.fresh unplannedCourse with state := state, countdown := 2000 } }

theorem witness_DishFillCommitsThePost :
    (dishAt dishBytes .staged).intake.progress = some (.running false (.postDish 5 (parseTicketLine (lineBytes 4))))
      ∧ ((dishAt dishBytes .staged).port.issued.find? (fun x => x.id == 0 && x.owner.isDishFill))
        = some (ownRequest .dishFill .read 0x300060 32 [])
      ∧ parseDish (Memory.readBytes (dishAt dishBytes .staged).dram 0x300060 32) = dish ∧ dish.check = none
      ∧ (splitTicket ((parseTicketLine (lineBytes 4)).toTicket 5) dish 0 0).map (fun bs => bs.map (fun b => b.threshold))
        = some [640]
      ∧ (splitTicket { (parseTicketLine (lineBytes 4)).toTicket 5 with portions := 257 } dish 0 0) = none
      ∧ (parseDish (Memory.readBytes (dishAt [32] .staged).dram 0x300060 32)).check = some 1 := by decide +kernel

/-- Each check of a dish record fails first of one record. -/
theorem test_dishChecks :
    [(0, [32]), (1, [0]), (2, [0]), (4, [2]), (6, [0, 16]), (5, [32]), (8, [32]), (12, [32]), (16, [32, 0, 1])].map
        (fun x => (parseDish (dishBytes.take x.1 ++ x.2 ++ dishBytes.drop (x.1 + x.2.length))).check)
      = ((List.range 9).map (fun i => some (i + 1)) : List (Option Nat)) := by decide +kernel

theorem test_dishFill :
    statuses (run (.dishFillDone 0 .okay) (dishAt dishBytes .staged)) = [[1, 0]]
      ∧ ((run (.dishFillDone 0 .okay) (dishAt dishBytes .staged)).courses[(1 : CourseId)]).openCount = 1
      ∧ (run (.dishFillDone 0 .okay) (dishAt dishBytes .fired)).pool.map (fun e => e.2.state) = [.planned]
      ∧ statuses (run (.dishFillDone 0 .okay) (dishAt dishBytes .idle)) = [[0x12, 0]]
      ∧ statuses (run (.dishFillDone 0 .okay) (dishAt [32] .staged)) = [[0x17, 1]] := by decide +kernel

/-- The commit at the fill: NO ROOM, and a batch that is due at once. -/
theorem test_dishFill_commit :
    statuses (run (.dishFillDone 0 .okay) { dishAt dishBytes .staged with pool := fullPool }) = [[0x13, 0]]
      ∧ (run (.dishFillDone 0 .okay) (dishAt dishBytes .passed)).pool.map (fun e => e.2.state) = [.planned]
      ∧ (run (.dishFillDone 0 .okay) (State.course 1 (fun x => { x with countdown := 640 })
          (dishAt dishBytes .held))).pool.map (fun e => e.2.state) = [.stranded] := by decide +kernel

theorem witness_TheSplitOfATicket :
    1 ≤ dish.batchSize ∧ 1 ≤ (ticket []).portions ∧ (ticket []).special ≤ (ticket []).portions
      ∧ (splitTicket (ticket []) dish 0 0).isSome = true
      ∧ (splitTicket { ticket [] with special := 4, tags := 4 } dish 0 0).map (fun bs => bs.map (fun b => (b.kind, b.target)))
        = some [(.special, 9)]
      ∧ (splitTicket { ticket [] with special := 4, tags := 1 } dish 0 0).map (fun bs => bs.map (fun b => b.target))
        = some [6]
      ∧ (splitTicket { ticket [] with station := some 3 } dish 0 0).map (fun bs => bs.map (fun b => b.target)) = some [3]
      ∧ (splitTicket { ticket [] with portions := 257 } dish 0 0).isSome = false := by decide +kernel

/-- An AMEND entry of line 5. -/
def amendEntry (code value : Byte) : List Byte := [2, 0, 0, 0, 5, 0, code, 0, value, 0]

/-- The ticket of `posted` with its dish in the cache. -/
def amendable (state : BatchState) : State :=
  { State.posted state ready with cache := [{ dish := 3, record := dish }] }

theorem witness_AmendIsChecked :
    returns (State.entry (amendEntry 1 0) (amendable .planned)) false (.amend .portions 5 0) = true
      ∧ returns (State.entry (amendEntry 6 2) (amendable .planned)) false (.amend .rush 5 2) = true
      ∧ returns (State.entry (amendEntry 7 32) (amendable .planned)) false (.amend .station 5 32) = true
      ∧ returns (State.entry (amendEntry 5 1) (amendable .planned)) false (.amend .wave 5 1) = true
      ∧ (ready.courses[(1 : CourseId)]).plan.waves = 1
      ∧ returns (State.entry [2, 0, 0, 0, 64, 0, 3] ready) false (.amend .tags 64 0) = true
      ∧ ready.entryOfLine? 5 = none ∧ (amendable .planned).entryOfLine? 5 = some (0, ticket [0])
      ∧ (amendable .planned).amendValueOk .lead { ticket [0] with voided := true } 4095 = true := by decide +kernel

theorem test_amendChecks :
    statuses (run (.amendPortions false 5 0) (State.entry (amendEntry 1 0) (amendable .planned))) = [[0x11, 0]]
      ∧ statuses (run (.amendSpecial false 5 9) (State.entry (amendEntry 2 9) ready)) = [[0x1B, 0]] := by decide +kernel

theorem witness_AmendSplitsAgain :
    (ticket [0]).amended .portions 9 = { ticket [0] with portions := 9 } ∧ AmendField.resplits .portions = true
      ∧ returns (State.entry (amendEntry 1 9) (amendable .planned)) false (.amend .portions 5 9) = true
      ∧ returns (State.entry (amendEntry 2 9) (amendable .planned)) false (.amend .special 5 9) = true
      ∧ ((ticket [0]).amended .special 9).portions < ((ticket [0]).amended .special 9).special
      ∧ cached? 3 (amendable .planned).cache = some dish ∧ (State.posted .planned ready).cache = []
      ∧ (amendable (.cooking 0)).batch? 0 = some (batch 0 (.cooking 0))
      ∧ (amendable .planned).batch? 0 = some (batch 0 .planned)
      ∧ ((splitTicket { ticket [0] with portions := 9 } dish 0 0).map (fun bs => bs.length)) = some 2
      ∧ ((amendable .planned).courses[(1 : CourseId)]).state = .staged := by decide +kernel

theorem test_amendResplit :
    (run (.amendPortions false 5 9) (State.entry (amendEntry 1 9) (amendable .planned))).pool.map
        (fun e => (e.1, e.2.portions)) = [(0, 8), (1, 1)]
      ∧ statuses (run (.amendSpecial false 5 9) (State.entry (amendEntry 2 9) (amendable .planned))) = [[0x11, 0]]
      ∧ (run (.amendTags false 5 1) (State.entry (amendEntry 3 1) (amendable .planned))).tickets.map
        (fun e => e.2.tags) = [1]
      ∧ (run (.amendLead false 5 2) (State.entry (amendEntry 4 2) (amendable .planned))).pool.map
        (fun e => e.2.threshold) = [32]
      ∧ statuses (run (.amendWave false 5 0) (State.entry (amendEntry 5 0) (amendable (.cooking 0)))) = [[0x15, 0]] := by
  decide +kernel

/-- An AMEND PORTIONS to this value, whose fill is in flight. -/
def amendFill (bytes : List Byte) (value : Nat) (s : State) : State :=
  { State.reading .dishFill 0x300060 32 bytes s with
    intake := { head := 0, tail := 1, progress := some (.running false (.amendDish 5 3 1 .portions value)) } }

theorem witness_AmendSplitsAgain_commit :
    splitTicket { ticket [0] with portions := 257 } dish 0 0 = none
      ∧ returns (State.entry [2, 0, 0, 0, 5, 0, 1, 0, 1, 1] (amendable .planned)) false (.amend .portions 5 257) = true
      ∧ 4096 + 1 < fullPool.length + 2
      ∧ ((fired 640 (amendable .planned)).courses[(1 : CourseId)]).state = .fired
      ∧ (amendFill dishBytes 9 (State.posted .planned ready)).entryOfLine? 5 = some (0, ticket [0])
      ∧ (amendFill dishBytes 9 ready).entryOfLine? 5 = none := by decide +kernel

theorem test_amendCommit :
    statuses (run (.amendPortions false 5 257) (State.entry [2, 0, 0, 0, 5, 0, 1, 0, 1, 1] (amendable .planned)))
        = [[0x11, 0]]
      ∧ (run (.amendPortions false 5 9) (State.entry (amendEntry 1 9) (fired 670 (amendable .planned)))).pool.map
        (fun e => e.2.state) = [.stranded, .planned]
      ∧ (run (.dishFillDone 0 .okay) (amendFill dishBytes 9 (State.posted .planned ready))).pool.map
        (fun e => (e.1, e.2.portions)) = [(0, 8), (1, 1)]
      ∧ statuses (run (.dishFillDone 0 .okay) (amendFill dishBytes 9 ready)) = [[0x15, 0]]
      ∧ statuses (run (.dishFillDone 0 .okay) (amendFill [32] 9 (State.posted .planned ready))) = [[0x17, 1]]
      ∧ statuses (run (.dishFillDone 0 (.error [])) (amendFill [] 9 (State.posted .planned ready))) = [[0x19, 0]] := by
  decide +kernel

/-- A DUE batch in the queue of station 2, which is PAUSED. -/
def queued : State :=
  State.station 2 (fun x => { x with state := .paused, ordinary := [0] }) (State.posted .due ready)

theorem witness_AmendRushReplaces :
    returns (State.entry (amendEntry 6 1) (State.posted .planned ready)) false (.amend .rush 5 1) = true
      ∧ returns (State.entry (amendEntry 6 1) queued) false (.amend .rush 5 1) = true
      ∧ 0 ∈ (queued.stations[(2 : StationId)]).queue ∧ queued.showing 2 = false
      ∧ queued.batch? 0 = some (batch 0 .due) := by decide +kernel

theorem test_amendRush :
    (run (.amendRush false 5 1) (State.entry (amendEntry 6 1) (State.posted .planned ready))).pool.map
        (fun e => e.2.rush) = [true]
      ∧ ((run (.amendRush false 5 1) (State.entry (amendEntry 6 1) queued)).stations[(2 : StationId)]).prio = [0] := by
  decide +kernel

theorem witness_AmendStationRetargets :
    returns (State.entry (amendEntry 7 4) (State.posted .planned ready)) false (.amend .station 5 4) = true
      ∧ returns (State.entry (amendEntry 7 31) (State.station 31 (fun x => { x with state := .paused }) queued)) false
        (.amend .station 5 31) = true := by decide +kernel

theorem test_amendStation :
    (run (.amendStation false 5 4) (State.entry (amendEntry 7 4) (State.posted .planned ready))).pool.map
        (fun e => e.2.target) = [4]
      ∧ ((run (.amendStation false 5 31) (State.entry (amendEntry 7 31)
          (State.station 31 (fun x => { x with state := .paused }) queued))).stations[(31 : StationId)]).ordinary = [0] := by
  decide +kernel

/-- The batch of `queued`, with station 31 OPEN. -/
def queued31 : State := State.station 31 (fun _ => grill) queued

theorem witness_AmendStationRetargets_open :
    returns (State.entry (amendEntry 7 31) queued31) false (.amend .station 5 31) = true
      ∧ (queued31.stations[(31 : StationId)]).queue = []
      ∧ (queued31.stations[(31 : StationId)]).tokens < (queued31.stations[(31 : StationId)]).plan.capacity
      ∧ ((State.station 31 (fun x => { x with plan := { x.plan with capacity := 0 } }) queued31).stations[(31 : StationId)]).plan.capacity
        = 0
      ∧ ((run (.amendStation false 5 31) (State.entry (amendEntry 7 31) queued31)).batch? 0).map
        (fun b => (b.state, b.target)) = some (.shown 0, 31) := by decide +kernel

/-- A VOID entry of line 5. -/
def voidEntry : List Byte := [3, 0, 0, 0, 5]

theorem witness_VoidByBatchState :
    returns (State.entry voidEntry (State.posted .planned ready)) false (.void 5) = true
      ∧ returns (State.entry [3, 0, 0, 0, 64] ready) false (.void 64) = true
      ∧ (State.posted .planned ready).entryOfLine? 5 = some (0, ticket [0])
      ∧ Table.get? 0 (State.posted .planned ready).tickets = some (ticket [0])
      ∧ (State.posted .planned ready).batch? 0 = some (batch 0 .planned)
      ∧ ((State.posted .planned ready).courses[(1 : CourseId)]).state ≠ .passed
      ∧ returns (State.entry voidEntry (State.posted (.cooking 0) ready)) false (.void 5) = true
      ∧ ({ State.posted .done ready with tickets := [(0, { ticket [0] with voided := true })] }).entryOfLine? 5
        = some (0, { ticket [0] with voided := true }) := by decide +kernel

theorem test_void :
    (run (.void false 5) (State.entry voidEntry (State.posted .planned ready))).tickets = []
      ∧ (run (.void false 5) (State.entry voidEntry (State.posted .planned ready))).locks = []
      ∧ (run (.void false 5) (State.entry voidEntry (State.posted (.cooking 0) ready))).pool.map (fun e => e.2.voided)
        = [true]
      ∧ statuses (run (.void false 64) (State.entry [3, 0, 0, 0, 64] ready)) = [[0x11, 0]] := by decide +kernel

theorem witness_VoidLeavesTheStation :
    returns (State.entry voidEntry queued) false (.void 5) = true
      ∧ returns (State.entry voidEntry shown) false (.void 5) = true
      ∧ shown.batch? 0 = some (batch 0 (.shown 0)) ∧ (shown.stations[(2 : StationId)]).slots[(0 : SlotId)] = some 0
      ∧ (shown.stations[(2 : StationId)]).queue = []
      ∧ returns (State.entry voidEntry (State.posted .stranded ready)) false (.void 5) = true
      ∧ ((run (.void false 5) (State.entry voidEntry shown)).stations[(2 : StationId)]).tokens = 0
      ∧ ((run (.void false 5) (State.entry voidEntry queued)).stations[(2 : StationId)]).ordinary = [] := by
  decide +kernel

-- ## The Dish Cache

theorem witness_FlushEmptiesTheCache :
    returns (State.entry [9, 0, 0, 0, 1] (amendable .planned)) false (.flush .all 0) = true
      ∧ returns (State.entry [9, 0, 0, 0, 2, 0, 0xFF, 3] ready) false (.flush .dish 1023) = true
      ∧ returns (State.entry [9, 0, 0, 0, 2, 0, 0, 4] ready) false (.flush .dish 1024) = true
      ∧ returns (State.entry [9, 0, 0, 0, 3, 0, 31] ready) false (.flush .station 31) = true
      ∧ returns (State.entry [9, 0, 0, 0, 3, 0, 32] ready) false (.flush .station 32) = true := by decide +kernel

theorem test_flush :
    (run (.flushDish false 3) (State.entry [9, 0, 0, 0, 2, 0, 3] (amendable .planned))).cache = []
      ∧ statuses (run (.flushDish false 3) (State.entry [9, 0, 0, 0, 2, 0, 3] (amendable .planned))) = [[1, 2]]
      ∧ statuses (run (.flushAll false) (State.entry [9, 0, 0, 0, 1] (amendable .planned))) = [[1, 1]]
      ∧ statuses (run (.flushStation false 32) (State.entry [9, 0, 0, 0, 3, 0, 32] ready)) = [[0x11, 0]] := by
  decide +kernel

-- ## Courses and the service

theorem witness_DueAndLateAtRelease :
    (fired 100 (State.posted .planned ready)).dueBatches (fun _ => true) = [0]
      ∧ (fired 101 (State.posted .planned ready)).dueBatches (fun _ => true) = []
      ∧ (fired 100 (State.posted .planned ready)).ticketOf? (batch 0 .planned) = some (ticket [0])
      ∧ ((fired 100 ready).courses[(1 : CourseId)]).plan.grace = 0 := by decide +kernel

/-- A PLANNED batch of the one ticket, whose station is PAUSED. -/
def planned2 : State := State.station 2 (fun x => { x with state := .paused }) (State.posted .planned ready)

theorem witness_DueAndLateAtRelease_fire :
    planned2.tickets = [(0, ticket [0])] ∧ planned2.batch? 0 = some (batch 0 .planned) ∧ planned2.liveCount < 4
      ∧ returns (State.entry [4, 0, 0, 0, 1, 0, 99] planned2) false (.fire 1 99) = true
      ∧ ((run (.fire false 1 99) (State.entry [4, 0, 0, 0, 1, 0, 99] planned2)).batch? 0).map
        (fun b => (b.state, b.late)) = some (.due, true)
      ∧ ((run (.fire false 1 100) (State.entry [4, 0, 0, 0, 1, 0, 100] planned2)).batch? 0).map
        (fun b => (b.state, b.late)) = some (.due, false)
      ∧ ((run (.fire false 1 101) (State.entry [4, 0, 0, 0, 1, 0, 101] planned2)).batch? 0).map
        (fun b => b.state) = some .planned := by decide +kernel

theorem witness_FireStartsTheCountdown :
    returns (State.entry [4, 0, 0, 0, 1, 0, 100] (State.posted .planned ready)) false (.fire 1 100) = true
      ∧ returns (State.entry [4, 0, 0, 0, 4] ready) false (.fire 4 0) = true ∧ ready.plan.courseCount = 4
      ∧ ((State.posted .planned ready).courses[(1 : CourseId)]).state = .staged
      ∧ (State.posted .planned ready).liveCount = 0 ∧ (ready.courses[(1 : CourseId)]).state ≠ .staged
      ∧ ((List.finRange 4).foldl (fun s c => State.course ⟨c.val + 4, by omega⟩ (fun x => { x with state := .held }) s)
          (State.posted .planned ready)).liveCount = 4 := by decide +kernel

theorem witness_FireStartsTheCountdown_notDue :
    returns (State.entry [4, 0, 0, 0, 1, 0, 101] (State.posted .planned ready)) false (.fire 1 101) = true
      ∧ (batch 0 .planned).threshold < 101 ∧ (∀ st : StationId, 0 ∉ ((State.posted .planned ready).stations[st]).queue) := by
  decide +kernel

theorem test_fire :
    ((run (.fire false 1 100) (State.entry [4, 0, 0, 0, 1, 0, 100] (State.posted .planned ready))).batch? 0).map
        (fun b => b.state) = some (.shown 0)
      ∧ ((run (.fire false 1 100) (State.entry [4, 0, 0, 0, 1, 0, 100]
          (State.posted .planned ready))).courses[(1 : CourseId)]).countdown = 100
      ∧ statuses (run (.fire false 4 0) (State.entry [4, 0, 0, 0, 4] ready)) = [[0x11, 0]] := by decide +kernel

theorem witness_HoldAndResume :
    returns (State.entry [5, 0, 0, 0, 1] (fired 7 ready)) false (.hold 1) = true
      ∧ returns (State.entry [5, 0, 0, 0, 4] ready) false (.hold 4) = true
      ∧ returns (State.entry [6, 0, 0, 0, 1] (State.course 1 (fun x => { x with state := .held }) ready)) false (.resume 1)
        = true
      ∧ returns (State.entry [6, 0, 0, 0, 15] ready) false (.resume 15) = true
      ∧ (ready.courses[(1 : CourseId)]).state = .idle := by decide +kernel

theorem test_holdResume :
    ((run (.hold false 1) (State.entry [5, 0, 0, 0, 1] (fired 7 ready))).courses[(1 : CourseId)]).state = .held
      ∧ ((run (.resume false 1) (State.entry [6, 0, 0, 0, 1]
          (State.course 1 (fun x => { x with state := .held }) ready))).courses[(1 : CourseId)]).state = .fired := by
  decide +kernel

/-- A SERVICE of courses 1 and 2. -/
def serviceEntry : List Byte := [7, 0, 0, 0, 2, 1, 0, 0, 1, 2]

theorem witness_ServiceListIsAppliedOrHeld :
    returns (State.entry serviceEntry ready) false (.service 2 1 [1, 2, 0, 0, 0, 0, 0, 0]) = true
      ∧ (ready.courses[(1 : CourseId)]).plan.autoFire = false ∧ ready.plan.courseCount ≤ 16
      ∧ returns (State.entry serviceEntry (fired 7 ready)) false (.service 2 1 [1, 2, 0, 0, 0, 0, 0, 0]) = true
      ∧ returns (State.entry serviceEntry { ready with service := { ready.service with state := .running } }) false
        (.service 2 1 [1, 2, 0, 0, 0, 0, 0, 0]) = true
      ∧ returns (State.entry [7, 0, 0, 0, 1, 0, 0, 0, 4] ready) false (.service 1 0 [4, 0, 0, 0, 0, 0, 0, 0]) = true := by
  decide +kernel

theorem test_service :
    (run (.service false 2 1 #v[1, 2, 0, 0, 0, 0, 0, 0]) (State.entry serviceEntry ready)).service
        = { state := .running, list := { courses := [1, 2], cycle := true }, position := 0, pending := none }
      ∧ ((run (.service false 2 1 #v[1, 2, 0, 0, 0, 0, 0, 0]) (State.entry serviceEntry ready)).courses[(2 : CourseId)]).state
        = .staged
      ∧ (run (.service false 2 1 #v[1, 2, 0, 0, 0, 0, 0, 0]) (State.entry serviceEntry (fired 7 ready))).service.state
        = .stalled := by decide +kernel

theorem witness_CallingBoundaryAndClearing :
    (ready.courses[(1 : CourseId)]).state = .idle ∧ ready.liveCount < 4
      ∧ ((fired 7 ready).courses[(1 : CourseId)]).state = .fired
      ∧ ready.service.pending = none ∧ ready.service.list.courses.length ≤ ready.service.position + 1
      ∧ ready.boundary.service.state = .ended
      ∧ ((State.course 1 (fun x => { x with state := .passed }) ready).courses[(1 : CourseId)]).openCount = 0
      ∧ ((State.course 1 (fun x => { x with state := .passed }) ready).clearIfDone 1).conditions.cleared = true
      ∧ ({ state := .stalled, list := { courses := [1], cycle := false }, position := 0, pending := none }
          : Service).calling? = some 1 := by decide +kernel

/-- Course 1 fires by itself when it is called. -/
def autoFire (s : State) : State :=
  State.course 1 (fun x => { x with plan := { x.plan with autoFire := true, countdown := 50 } }) s

/-- Four other courses are HELD. -/
def fourHeld (s : State) : State :=
  (List.finRange 4).foldl (fun s c => State.course ⟨c.val + 4, by omega⟩ (fun x => { x with state := .held }) s) s

/-- Course 1 has PASSED, the service stands at it and has stalled. -/
def stalledAt1 (s : State) : State :=
  { State.course 1 (fun x => { x with state := .passed }) s with
    service := { state := .stalled, list := { courses := [1], cycle := true }, position := 0, pending := none } }

theorem witness_CallingBoundaryAndClearing_commands :
    returns (State.entry serviceEntry (autoFire ready)) false (.service 2 1 [1, 2, 0, 0, 0, 0, 0, 0]) = true
      ∧ (fourHeld (autoFire ready)).liveCount = 4
      ∧ returns (State.entry voidEntry (stalledAt1 queued)) false (.void 5) = true
      ∧ ((stalledAt1 queued).courses[(1 : CourseId)]).openCount = 1 ∧ (stalledAt1 queued).service.calling? = some 1 := by
  decide +kernel

theorem test_serviceAutoFire :
    ((run (.service false 2 1 #v[1, 2, 0, 0, 0, 0, 0, 0]) (State.entry serviceEntry (autoFire ready))).courses[(1 : CourseId)]).countdown
        = 50
      ∧ logged (run (.service false 2 1 #v[1, 2, 0, 0, 0, 0, 0, 0]) (State.entry serviceEntry (fourHeld (autoFire ready))))
        .liveLimit 63 = true
      ∧ (run (.void false 5) (State.entry voidEntry (stalledAt1 queued))).service.state = .running
      ∧ ((run (.void false 5) (State.entry voidEntry (stalledAt1 (autoFire queued)))).courses[(1 : CourseId)]).state = .fired
      ∧ ((run (.void false 5) (State.entry voidEntry
          (State.course 1 (fun x => { x with state := .passed }) queued))).courses[(1 : CourseId)]).state = .cleared := by
  decide +kernel

-- ## The STATION command

/-- A STATION entry. -/
def stationBytes (station action value : Byte) : List Byte := [8, 0, 0, 0, station, action, value]

theorem witness_StationRefusals :
    returns (State.entry (stationBytes 32 1 0) ready) false (stationEntry .opening 32 0) = true
      ∧ returns (State.entry (stationBytes 31 2 0) ready) false (stationEntry .close 31 0) = true
      ∧ returns (State.entry (stationBytes 31 3 0) ready) false (stationEntry .pause 31 0) = true
      ∧ returns (State.entry (stationBytes 31 4 0) ready) false (stationEntry .unpause 31 0) = true
      ∧ returns (State.entry (stationBytes 31 5 33) ready) false (stationEntry .backup 31 33) = true
      ∧ returns (State.entry (stationBytes 31 5 31) ready) false (stationEntry .backup 31 31) = true
      ∧ returns (State.entry (stationBytes 31 6 17) ready) false (stationEntry .capacity 31 17) = true
      ∧ returns (State.entry (stationBytes 31 7 32) ready) false (stationEntry .releaseStranded 31 32) = true
      ∧ returns (State.entry (stationBytes 2 7 0) shown) false (stationEntry .releaseStranded 2 0) = true
      ∧ (shown.stations[(2 : StationId)]).occupied = 1 ∧ (shown.stations[(0 : StationId)]).state = .closed := by
  decide +kernel

theorem test_stationRefusals :
    statuses (run (.stationOpen false 32) (State.entry (stationBytes 32 1 0) ready)) = [[0x11, 0]]
      ∧ statuses (run (.stationClose false 2) (State.entry (stationBytes 2 2 0) shown)) = [[0x12, 0]] := by decide +kernel

theorem witness_StationOpensPausesAndIsSet :
    returns (State.entry (stationBytes 2 3 0) shown) false (stationEntry .pause 2 0) = true
      ∧ returns (State.entry (stationBytes 2 4 0) queued) false (stationEntry .unpause 2 0) = true
      ∧ returns (State.entry (stationBytes 2 1 0) ready) false (stationEntry .opening 2 0) = true
      ∧ returns (State.entry (stationBytes 2 1 0) (State.station 2 (fun x => { x with state := .down }) queued)) false
        (stationEntry .opening 2 0) = true
      ∧ returns (State.entry (stationBytes 2 5 32) shown) false (stationEntry .backup 2 32) = true
      ∧ returns (State.entry (stationBytes 2 5 31) shown) false (stationEntry .backup 2 31) = true
      ∧ returns (State.entry (stationBytes 2 6 16) queued) false (stationEntry .capacity 2 16) = true := by
  decide +kernel

theorem test_stationSettings :
    ((run (.stationPause false 2) (State.entry (stationBytes 2 3 0) shown)).stations[(2 : StationId)]).state = .paused
      ∧ ((run (.stationUnpause false 2) (State.entry (stationBytes 2 4 0) queued)).stations[(2 : StationId)]).tokens = 1
      ∧ ((run (.stationBackup false 2 31) (State.entry (stationBytes 2 5 31) shown)).stations[(2 : StationId)]).plan.backup
        = some 31
      ∧ ((run (.stationCapacity false 2 16) (State.entry (stationBytes 2 6 16) queued)).stations[(2 : StationId)]).plan.capacity
        = 16 := by decide +kernel

theorem witness_CloseEmptiesTheQueue :
    returns (State.entry (stationBytes 2 2 0) queued) false (stationEntry .close 2 0) = true
      ∧ (queued.stations[(2 : StationId)]).occupied = 0 ∧ queued.usableBackup 2 = none
      ∧ queued.batch? 0 = some (batch 0 .due)
      ∧ (State.station 2 (fun x => { x with plan := { x.plan with backup := some 4 } })
          (State.station 4 (fun _ => { grill with state := .paused }) queued)).usableBackup 2 = some 4 := by decide +kernel

theorem test_close :
    ((run (.stationClose false 2) (State.entry (stationBytes 2 2 0) queued)).stations[(2 : StationId)]).stranded = [0]
      ∧ logged (run (.stationClose false 2) (State.entry (stationBytes 2 2 0) queued)) .stranded 3 = true := by
  decide +kernel

/-- Station 4 is OPEN and the backup of station 2. -/
def backed (s : State) : State :=
  State.station 2 (fun x => { x with plan := { x.plan with backup := some 4 } }) (State.station 4 (fun _ => grill) s)

theorem witness_CloseEmptiesTheQueue_open :
    returns (State.entry (stationBytes 2 2 0) (backed queued)) false (stationEntry .close 2 0) = true
      ∧ (backed queued).usableBackup 2 = some 4 ∧ ((backed queued).stations[(4 : StationId)]).state = .opened
      ∧ ((backed queued).stations[(2 : StationId)]).queue = [0] ∧ ((backed queued).stations[(4 : StationId)]).queue = []
      ∧ ((run (.stationClose false 2) (State.entry (stationBytes 2 2 0) (backed queued))).batch? 0).map
        (fun b => (b.state, b.target, b.moved)) = some (.shown 0, 4, true) := by decide +kernel

/-- Station 2 has nothing to give, and station 4 stays as it is. -/
theorem witness_CloseEmptiesTheQueue_empty :
    returns (State.entry (stationBytes 2 2 0) (backed (State.station 2 (fun x => { x with ordinary := [] }) queued))) false
        (stationEntry .close 2 0) = true
      ∧ (run (.stationClose false 2) (State.entry (stationBytes 2 2 0)
          (backed (State.station 2 (fun x => { x with ordinary := [] }) queued)))).stations[(4 : StationId)] = grill := by
  decide +kernel

/-- The batch is STRANDED at station 2. -/
def strandedAt2 : State := State.station 2 (fun x => { x with stranded := [0] }) (State.posted .stranded ready)

theorem witness_ReleaseMovesTheStranded :
    returns (State.entry (stationBytes 2 7 2) strandedAt2) false (stationEntry .releaseStranded 2 2) = true
      ∧ returns (State.entry (stationBytes 2 7 4) (State.station 4 (fun x => { x with state := .paused }) strandedAt2)) false
        (stationEntry .releaseStranded 2 4) = true
      ∧ (strandedAt2.stations[(2 : StationId)]).state ≠ .closed ∧ strandedAt2.batch? 0 = some (batch 0 .stranded) := by
  decide +kernel

theorem test_release :
    ((run (.releaseStranded false 2 4) (State.entry (stationBytes 2 7 4)
        (State.station 4 (fun x => { x with state := .paused }) strandedAt2))).stations[(4 : StationId)]).prio = [0] := by
  decide +kernel

theorem witness_ReleaseMovesTheStranded_open :
    (State.station 4 (fun _ => grill) strandedAt2).stations[(4 : StationId)].state = .opened
      ∧ ((strandedAt2.stations[(2 : StationId)]).stranded) = [0]
      ∧ ((run (.releaseStranded false 2 4) (State.entry (stationBytes 2 7 4)
          (State.station 4 (fun _ => grill) strandedAt2))).batch? 0).map (fun b => (b.state, b.target)) = some (.shown 0, 4)
      ∧ ((run (.releaseStranded false 2 2) (State.entry (stationBytes 2 7 2) strandedAt2)).batch? 0).map
        (fun b => (b.state, b.target)) = some (.shown 0, 2) := by decide +kernel

-- ## Acknowledgement, retry and backup

/-- Station 2 owes a tick that expires its timer, with this retry count. -/
def owing (retry : Nat) : State := State.station 2 (fun x => { x with tick := .owed, retry := retry }) shown

theorem witness_ExpiryRetriesThenGoesDown :
    (owing 0).part = .ready ∧ ((owing 0).stations[(2 : StationId)]).tick = .owed
      ∧ ((owing 0).stations[(2 : StationId)]).timer = some 1 ∧ ((owing 0).stations[(2 : StationId)]).plan.retryLimit = 2
      ∧ (owing 1).usableBackup 2 = none
      ∧ ((State.station 2 (fun x => { x with state := .down }) (owing 0)).stations[(2 : StationId)]).state = .down := by
  decide +kernel

theorem test_expiry :
    ((run (.ackTimerExpiry 2) (owing 0)).stations[(2 : StationId)]).retry = 1
      ∧ ((run (.ackTimerExpiry 2) (owing 0)).stations[(2 : StationId)]).timer = some 10
      ∧ ((run (.ackTimerExpiry 2) (owing 1)).stations[(2 : StationId)]).state = .down
      ∧ logged (run (.ackTimerExpiry 2) (owing 1)) .stationDown 3 = true
      ∧ logged (run (.ackTimerExpiry 2) (owing 1)) .noBackup 3 = true := by decide +kernel

/-- A tick taken early, a tick owed that a read has come before, and a timer that has stood at 0. -/
theorem witness_ExpiryRetriesThenGoesDown_marks :
    0 < (due shown).ticksDue ∧ ((due shown).stations[(2 : StationId)]).tick = .clear
      ∧ ((run (.ackTimerExpiry 2) (due shown)).stations[(2 : StationId)]).tick = .early
      ∧ ack (run (.ackTimerExpiry 2) (State.station 2 (fun x => { x with tick := .owedSpared, timer := some 7 }) shown))
        = (some 6, .clear, 1)
      ∧ ack (run (.ackTimerExpiry 2) (State.station 2 (fun x => { x with timer := some 0 }) (owing 0)))
        = (some 10, .clear, 1) := by decide +kernel

theorem witness_DownMovesTheWorkAndReturns :
    (State.station 2 (fun x => { x with plan := { x.plan with backup := some 4 } })
        (State.station 4 (fun _ => { grill with state := .paused }) shown)).usableBackup 2 = some 4
      ∧ (((State.station 2 (fun x => { x with plan := { x.plan with backup := some 4 } })
        (State.station 4 (fun _ => { grill with state := .paused }) shown)).goDown 2).stations[(4 : StationId)]).prio = [0]
      ∧ ((State.station 2 (fun x => { x with state := .down }) shown).stations[(2 : StationId)]).state = .down
      ∧ (shown.stations[(2 : StationId)]).progress + 1 < (shown.stations[(2 : StationId)]).plan.returnCount := by
  decide +kernel

/-- The expiry at the retry limit, with a backup that is OPEN and one that is PAUSED. -/
theorem witness_DownMovesTheWorkAndReturns_expiry :
    ((backed (owing 1)).stations[(2 : StationId)]).tick = .owed ∧ (backed (owing 1)).usableBackup 2 = some 4
      ∧ ((backed (owing 1)).stations[(2 : StationId)]).plan.retryLimit
        ≤ min 255 (((backed (owing 1)).stations[(2 : StationId)]).retry + 1)
      ∧ ((run (.ackTimerExpiry 2) (backed (owing 1))).batch? 0).map (fun b => (b.state, b.target, b.moved))
        = some (.shown 0, 4, true)
      ∧ ((run (.ackTimerExpiry 2) (State.station 4 (fun x => { x with state := .paused }) (backed (owing 1)))).batch? 0).map
        (fun b => (b.state, b.target)) = some (.due, 4)
      ∧ logged (run (.ackTimerExpiry 2) (backed (owing 1))) .stationDown 3 = true := by decide +kernel

/-- With no work to move the backup stays as it is. -/
theorem witness_DownMovesTheWorkAndReturns_empty :
    (run (.ackTimerExpiry 2) (State.station 2 (fun x => { x with slots := Vector.replicate 16 none, tokens := 0 })
        (backed (owing 1)))).stations[(4 : StationId)] = grill := by decide +kernel

theorem witness_AlertLineAndBlinkPhases :
    shown.rstLow = false ∧ (ready.stations[(2 : StationId)]).state = .closed
      ∧ (shown.stations[(2 : StationId)]).state ≠ .closed ∧ 0 < (shown.stations[(2 : StationId)]).retry
      ∧ shown.alertPattern 2 = .fast
      ∧ (State.station 2 (fun x => { x with retry := 0 }) shown).alertPattern 2 = .steady
      ∧ (State.posted .due ready).alertPattern 2 = .off ∧ queued.alertPattern 2 = .slow := by decide +kernel

-- ## Time

theorem witness_TrefPeriodDivides :
    ready.rstLow = false ∧ ({ ready with setup := none } : State).setup = none ∧ 2 ^ setup.divider ≤ ready.tickPhase + 1
      ∧ ready.tickPhase + 1 < 2 ^ ({ setup with divider := 12 }).divider
      ∧ (run .trefPeriod ready).ticksDue = 1 ∧ (run .trefPeriod { ready with setup := none }).ticksDue = 0
      ∧ (run .trefPeriod { ready with setup := some { setup with divider := 12 } }).tickPhase = 1 := by decide +kernel

theorem witness_TickCountsCoursesDown :
    (due (fired 7 ready)).ticksDue ≠ 0 ∧ (due (fired 7 ready)).part = .ready
      ∧ (due (fired 7 ready)).service.state = .none
      ∧ ((run (.tick .coursesFirst) (due (fired 7 ready))).courses[(1 : CourseId)]).countdown = 6
      ∧ ((run (.tick .timersFirst) (due (fired 1 ready))).courses[(1 : CourseId)]).state = .cleared
      ∧ ((run (.tick .coursesFirst) (due (fired 1 (State.posted .planned ready)))).courses[(1 : CourseId)]).state = .passed
      ∧ (run (.tick .coursesFirst) (due { ready with part := .idle })).ticksDue = 0 := by decide +kernel

/-- The service stands at course 1, which is FIRED at 1, in this state, with these lists. -/
def serving (state : ServiceState) (courses : List CourseId) (cycle : Bool) (pending : Option CourseList) (s : State) :
    State :=
  due { fired 1 s with
    service := { state := state, list := { courses := courses, cycle := cycle }, position := 0, pending := pending } }

/-- The boundaries of a RUNNING service: the pending list, the next position, the repeated list, the end, and a next
course that stalls it. -/
theorem witness_TickCountsCoursesDown_boundary :
    (serving .running [1] false none ready).service.calling? = some 1
      ∧ (run (.tick .coursesFirst) (serving .running [1] false (some { courses := [2], cycle := false }) ready)).service
        = { state := .running, list := { courses := [2], cycle := false }, position := 0, pending := none }
      ∧ (run (.tick .coursesFirst) (serving .running [1, 2] false none ready)).service.position = 1
      ∧ ((run (.tick .coursesFirst) (serving .running [1] true none ready)).courses[(1 : CourseId)]).state = .staged
      ∧ (run (.tick .coursesFirst) (serving .running [1] false none ready)).service.state = .ended
      ∧ (run (.tick .coursesFirst) (serving .running [1, 2] false none
          (State.course 2 (fun x => { x with state := .held }) ready))).service.state = .stalled := by decide +kernel

/-- A STALLED service: its calling course clears, or a pass is no boundary. -/
theorem witness_TickCountsCoursesDown_stalled :
    (run (.tick .coursesFirst) (serving .stalled [1] true none ready)).service.state = .running
      ∧ ((run (.tick .coursesFirst) (serving .stalled [1] true none ready)).courses[(1 : CourseId)]).state = .staged
      ∧ (run (.tick .coursesFirst) (serving .stalled [1, 2] true none (State.posted .planned ready))).service.state
        = .stalled
      ∧ (run (.tick .coursesFirst) (serving .stalled [1, 2] true none (State.posted .planned ready))).service.position = 0 := by
  decide +kernel

/-- A batch that is due at the lowered countdown is released. -/
theorem test_tickReleases :
    ((run (.tick .coursesFirst) (due (fired 101 (State.posted .planned ready)))).batch? 0).map (fun b => b.state)
        = some (.shown 0)
      ∧ ((run (.tick .coursesFirst) (due (fired 102 (State.posted .planned ready)))).batch? 0).map (fun b => b.state)
        = some .planned := by decide +kernel

theorem witness_TickLowersTimers :
    (∀ c : CourseId, ((due shown).courses[c]).state ≠ .fired) 
      ∧ (∀ st : StationId, ((due shown).stations[st]).tick ≠ .owed ∧ ((due shown).stations[st]).tick ≠ .owedSpared)
      ∧ ((run (.tick .coursesFirst) (due shown)).stations[(2 : StationId)]).tick = .owed
      ∧ ((run (.ackTimerExpiry 2) (run (.tick .coursesFirst) (due shown))).stations[(2 : StationId)]).state = .down := by
  decide +kernel

-- ## Start-up and plans

/-- The second setup read is in flight, and it returns these bytes. -/
def setupAt (low : List Byte) : State :=
  { State.reading .setupRead 64 64 [] { ready with part := .start, setup := none } with loader := .setupHigh low }

/-- The first half of the setup block of `setup`, with no guard. -/
def setupBytes : List Byte :=
  [0x53, 0x51, 0x50, 0x4C, 0, 0, 0, 0, 0, 0, 0x20, 0, 0, 0, 0, 0, 0, 0, 0x10, 0, 0, 0, 0, 0, 0, 0, 0x11, 0, 0, 0, 64, 0,
    0, 0, 0x40, 0, 0, 11, 6, 0, 0, 0] ++ zeros 22

theorem witness_SetupIsReadAndChecked :
    (setupAt setupBytes).part = .start
      ∧ setupCheck 0 (setupBytes ++ zeros 64) (parseSetup (setupBytes ++ zeros 64)) = none
      ∧ badPlanAddr 0 (parseSetup (setupBytes ++ zeros 64)) 0x200000 = false
      ∧ badPlanAddr 0 (parseSetup (setupBytes ++ zeros 64)) 0x200001 = true
      ∧ State.reset.loader = .setupLow ∧ (zeros 64).take 4 ≠ [0x53#8, 0x51#8, 0x50#8, 0x4C#8] := by decide +kernel

theorem test_setup :
    (run (.setupReadDone 0 .okay) (setupAt setupBytes)).setup.isSome = true
      ∧ (run (.setupReadDone 0 .okay) (setupAt (zeros 64))).part = .transparent
      ∧ logged (run (.setupReadDone 0 .okay) (setupAt (zeros 64))) .setupInvalid 63 = true
      ∧ (run (.setupReadDone 0 (.error [])) (setupAt setupBytes)).part = .transparent := by decide +kernel

/-- A setup block that fails each check first: the bytes from an offset are replaced. -/
def setupWith (i : Nat) (bs : List Byte) : List Byte :=
  setupBytes.take i ++ bs ++ (setupBytes ++ zeros 64).drop (i + bs.length)

theorem test_setupChecks :
    [(0, [0]), (40, [13]), (24, [1]), (21, [7]), (37, [5]), (32, [1]), (48, [1, 2, 0, 0, 1, 0, 0]),
        (56, [1, 2, 0, 0, 1, 0, 0]), (24, [0, 0xF0, 0xFF, 0xFF, 0xFF, 0, 65]), (18, [0])].map
        (fun x => setupCheck 0 (setupWith x.1 x.2) (parseSetup (setupWith x.1 x.2)))
      = [some 1, some 2, some 3, some 4, some 5, some 6, some 7, some 8, some 9, some 10] := by decide +kernel

/-- A PLAN of the plan at 2 MiB. -/
def planEntry : List Byte := [0x0B, 0, 0, 0, 0, 0, 0, 0, 0, 0, 0x20]

theorem witness_PlanIsTaken :
    returns (State.entry planEntry ready) false (.plan 0x200000) = true ∧ ready.liveCount = 0 ∧ ready.tickets = []
      ∧ inPlainOrGuard 0 setup { base := 0x200000, size := 1088 } = true
      ∧ returns (State.entry planEntry (State.posted .planned ready)) false (.plan 0x200000) = true
      ∧ returns (State.entry [0x0B] ready) false (.plan 0) = true
      ∧ inPlainOrGuard 0 setup { base := 0, size := 1088 } = false := by decide +kernel

theorem test_plan :
    (run (.plan false 0x200000) (State.entry planEntry ready)).intake.progress = some (.running false .plan)
      ∧ statuses (run (.plan false 0) (State.entry [0x0B] ready)) = [[0x1A, 0]]
      ∧ statuses (run (.plan false 0x200000) (State.entry planEntry (State.posted .planned ready))) = [[0x12, 0]] := by
  decide +kernel

/-- A plan line is being read by a PLAN command. -/
def planAt (pass : PlanPass) (line : Nat) (bytes : List Byte) : State :=
  { State.reading .planRead (0x200000 + 64 * line) 64 bytes ready with
    loader := .planning { origin := .command, addr := 0x200000, pass := pass, line := line, header := ready.plan }
    intake := { head := 0, tail := 1, progress := some (.running false .plan) } }

/-- Four station records: CLOSED, capacity 1, no backup, timeout 1, retry limit 1, return count 1. -/
def stationLine : List Byte := (List.replicate 4 ([0, 1, 32, 1, 1, 1] ++ zeros 10 : List Byte)).flatten

/-- The first line of a plan: 10 dishes at 3 MiB, 4 courses. -/
def headerLine : List Byte := [0, 0, 0x30, 0, 0, 0, 0, 0, 10, 0, 4]

theorem witness_PlanLinesLoad :
    firstFailing (planLineChecks 0 setup (parseHeader headerLine) 0 headerLine) = none
      ∧ firstFailing (planLineChecks 0 setup ready.plan 16 stationLine) = none
      ∧ (firstFailing (planLineChecks 0 setup ready.plan 16 (zeros 64))).isSome = true
      ∧ (planAt .load 16 stationLine).takesEntries = true
      ∧ (planAt .load 16 stationLine).intake.progress = some (.running false .plan) := by decide +kernel

/-- A plan line with some bytes replaced. -/
def lineWith (line : List Byte) (i : Nat) (bs : List Byte) : List Byte := line.take i ++ bs ++ line.drop (i + bs.length)

/-- The check, course and station that the checks of a plan line name. -/
def named (line : Nat) (bs : List Byte) : Option (Nat × Nat × Nat) :=
  (firstFailing (planLineChecks 0 setup (parseHeader headerLine) line bs)).map (fun f => (f.check, f.course, f.station))

/-- Courses 2 and 3 of line 2: countdown 5 and one wave. -/
def courseLine : List Byte := [5, 0, 0, 1] ++ zeros 28 ++ [5, 0, 0, 1] ++ zeros 28

theorem test_planChecks_header :
    [(8, [0]), (8, [1, 4]), (0, [1]), (0, [0, 0, 0x11]), (10, [0]), (10, [17])].map
        (fun x => (firstFailing (planLineChecks 0 setup (parseHeader (lineWith headerLine x.1 x.2)) 0
          (lineWith headerLine x.1 x.2))).map (fun f => f.check))
      = [some 2, some 2, some 3, some 3, some 4, some 4] := by decide +kernel

/-- Checks 5 to 7, two records that fail one check or two, and a course that the plan does not hold. -/
theorem test_planChecks_courses :
    named 2 courseLine = none ∧ named 2 (lineWith courseLine 0 [0]) = some (5, 2, 0)
      ∧ named 2 (lineWith courseLine 35 [5]) = some (6, 3, 0) ∧ named 2 (lineWith courseLine 36 [0, 16]) = some (7, 3, 0)
      ∧ named 2 (lineWith (lineWith courseLine 3 [0]) 32 [0]) = some (5, 3, 0) ∧ named 2 (zeros 64) = some (5, 2, 0)
      ∧ named 2 (lineWith courseLine 38 [0, 16]) = none ∧ named 3 (zeros 64) = none := by decide +kernel

/-- Checks 8 to 13, at stations 28 to 31. -/
theorem test_planChecks_stations :
    [(0, [2]), (17, [17]), (34, [33]), (34, [30]), (51, [0]), (4, [8]), (21, [0]), (21, [16])].map
        (fun x => named 16 (lineWith stationLine x.1 x.2))
      = [some (8, 0, 28), some (9, 0, 29), some (10, 0, 30), some (10, 0, 30), some (11, 0, 31), some (12, 0, 28),
          some (13, 0, 29), some (13, 0, 29)]
      ∧ named 16 (lineWith (lineWith stationLine 5 [0]) 48 [2]) = some (8, 0, 31) := by decide +kernel

theorem test_planLines :
    (run (.planLineReadDone 0 .okay) (planAt .load 16 stationLine)).part = .ready
      ∧ statuses (run (.planLineReadDone 0 .okay) (planAt .load 16 stationLine)) = [[1, 0]]
      ∧ ((run (.planLineReadDone 0 .okay) (planAt .load 16 stationLine)).stations[(31 : StationId)]).plan.timeout = 1
      ∧ statuses (run (.planLineReadDone 0 .okay) (planAt .check 16 (zeros 64))) = [[0x1A, 0]]
      ∧ (run (.planLineReadDone 0 .okay) (planAt .load 0 headerLine)).plan.dishCount = 10 := by decide +kernel

/-- A load at start-up instead. -/
def startUpAt (pass : PlanPass) (line : Nat) (bytes : List Byte) : State :=
  { planAt pass line bytes with
    part := .start
    loader := .planning { origin := .startUp, addr := 0x200000, pass := pass, line := line, header := ready.plan }
    intake := { head := 0, tail := 0, progress := none } }

/-- A PLAN whose load stops the part. -/
def stopping (line : Nat) : State :=
  { planAt .load line [] with setup := some { setup with stopOnFatal := true } }

/-- The failures of the load pass: before anything is replaced, after it, at start-up, and with stop-on-fatal. -/
theorem test_planLineFailures :
    (run (.planLineReadDone 0 (.error [])) (planAt .load 0 [])).part = .ready
      ∧ statuses (run (.planLineReadDone 0 (.error [])) (planAt .load 0 [])) = [[0x19, 0]]
      ∧ (run (.planLineReadDone 0 .okay) (planAt .load 16 (zeros 64))).part = .idle
      ∧ statuses (run (.planLineReadDone 0 .okay) (planAt .load 16 (zeros 64))) = [[0x19, 0]]
      ∧ logged (run (.planLineReadDone 0 .okay) (planAt .load 16 (zeros 64))) .ownReadFailed 63 = true
      ∧ (run (.planLineReadDone 0 .okay) (startUpAt .load 16 (zeros 64))).part = .idle
      ∧ logged (run (.planLineReadDone 0 .okay) (startUpAt .check 16 (zeros 64))) .planInvalid 63 = true
      ∧ (run (.planLineReadDone 0 (.error [])) (stopping 3)).part = .stopped
      ∧ statuses (run (.planLineReadDone 0 (.error [])) (stopping 3)) = [] := by decide +kernel

theorem witness_PlanLinesLoad_failures :
    (startUpAt .load 16 (zeros 64)).part = .start ∧ (stopping 3).stopsOnFatal = true ∧ (planAt .load 0 []).stopsOnFatal = false
      ∧ (planAt .load 0 []).takesEntries = true := by decide +kernel

-- ## The part's own writes

/-- An own write of the head word is in flight. -/
def writing (o : OwnRequest) : State :=
  { ready with port := MemPort.enqueue MemPort.empty (anchorWrite 0 o offHead [1, 0, 0, 0]) }

theorem witness_OwnWriteIsAnswered :
    ((writing .headWord).port.issued.find? (fun x => x.id == 0 && x.owner.isOwnWrite))
        = some (anchorWrite 0 .headWord offHead [1, 0, 0, 0])
      ∧ ((writing .noticeWord).port.issued.find? (fun x => x.id == 0 && x.owner.isOwnWrite))
        = some (anchorWrite 0 .noticeWord offHead [1, 0, 0, 0])
      ∧ (writing .headWord).intake.progress = none := by decide +kernel

theorem test_ownWrite :
    (run (.ownWriteDone 0 .okay) (writing .headWord)).dram = [(0xA4, 1)]
      ∧ logged (run (.ownWriteDone 0 (.error [])) (writing .headWord)) .ownWriteFailed 63 = true
      ∧ logged (run (.ownWriteDone 0 (.error [])) (writing .noticeWord)) .ownWriteFailed 63 = false := by decide +kernel

/-- The record of a failed own write: its sub-code, and the address, course or station of its owner. -/
theorem test_ownWrite_records :
    [OwnRequest.identityWord, .entryStatus, .finishedLog, .courseMirror 15, .serviceMirror, .stationMirror 31,
        .bumpClear 31].map (fun o =>
          ((run (.ownWriteDone 0 (.error [])) (writing o)).faults[(0 : RecordId)]).map (fun x =>
            (x.report.sub, x.report.station, x.report.course)))
      = [some (1, 0, 0), some (2, 0, 0), some (4, 0, 0), some (5, 0, 15), some (6, 0, 0), some (7, 31, 0),
          some (8, 31, 0)] := by decide +kernel

-- ## Laws of the part

/-- The laws hold in the state after reset, which so meets the hypotheses of every statement about a step. -/
theorem witness_StepKeeps :
    Memory.wf State.reset.dram = true ∧ Table.wfFrom 0 State.reset.tickets = true ∧ State.reset.liveCount ≤ 4
      ∧ (∀ st : StationId, (State.reset.stations[st]).tokens = (State.reset.stations[st]).occupied)
      ∧ (∀ tag : Tag, (State.reset.flights[tag]).length ≤ 16)
      ∧ (∀ m ∈ State.reset.port.issued, ∀ n ∈ State.reset.port.issued, m.lineOf = n.lineOf → m.id = n.id)
      ∧ State.reset.cache = [] ∧ State.reset.setup = none ∧ State.reset.intake.head = 0 := by decide +kernel

theorem witness_DramChangesOnlyUnderWrites :
    exec (.ownWriteDone 0 .okay) (writing .headWord) = .next (run (.ownWriteDone 0 .okay) (writing .headWord))
      ∧ (∀ m ∈ (writing .headWord).port.issued ++ (writing .headWord).port.orphans,
          m.kind = .write → 0xA8 < m.addr ∨ m.addr + m.enables.length ≤ 0xA8) := by
  refine ⟨rfl, ?_⟩
  decide +kernel

/-- An OKAY write of two bytes of which the second is not enabled. -/
theorem witness_DramChangesOnlyUnderWrites_okay :
    (run (.forwardedResponse 0 .okay)
        (run (.requestArrival (writeRequest 40 0x2000 2 [true, false] [7, 9])) ready)).dram = [(0x2000, 7)]
      ∧ Memory.wf ready.dram = true
      ∧ (run (.redirectedBumpDone 0 .okay) (run (.bumpWrite 3 0x400080 1 [true] [1]) shown)).dram = [(0x1100, 1)] := by
  decide +kernel

end Sys2Proof.Tests
end

/-! SUPPORT. O46, the alert line and the blink phases: what the slots of a station say of its pattern (R98), how the
level follows the pattern (R99), and the events that move the blink phases or begin them again (R68, R129). -/

namespace Sys2Proof.Machine

-- ## Slots

theorem State.slotUnread_iff (s : State) (st : StationId) (k : SlotId) :
    s.slotUnread st k = true ↔ ∃ r b, s.slotBatch st k = some (r, b) ∧ ∃ j, b.state = .shown j := by
  unfold State.slotUnread
  cases s.slotBatch st k with
  | none => simp
  | some e =>
    obtain ⟨r, b⟩ := e
    cases h : b.state <;> simp [h]

theorem State.slotTroubled_iff (s : State) (st : StationId) (k : SlotId) :
    s.slotTroubled st k = true ↔
      ∃ r b, s.slotBatch st k = some (r, b) ∧ (∃ j, b.state = .cooking j) ∧ (b.late = true ∨ b.voided = true) := by
  unfold State.slotTroubled
  cases s.slotBatch st k with
  | none => simp
  | some e =>
    obtain ⟨r, b⟩ := e
    cases h : b.state <;> simp [h]

theorem State.hasUnread_iff (s : State) (st : StationId) :
    s.hasUnread st = true ↔ ∃ k r b, s.slotBatch st k = some (r, b) ∧ ∃ j, b.state = .shown j := by
  simp [State.hasUnread, State.slotUnread_iff]

/-- The station holds a COOKING batch that carries LATE or VOIDED (row 4 of R98). -/
def State.hasTroubled (s : State) (st : StationId) : Bool := (List.finRange 16).any (fun k => s.slotTroubled st k)

theorem State.hasTroubled_iff (s : State) (st : StationId) :
    s.hasTroubled st = true ↔
      ∃ k r b, s.slotBatch st k = some (r, b) ∧ (∃ j, b.state = .cooking j) ∧ (b.late = true ∨ b.voided = true) := by
  simp [State.hasTroubled, State.slotTroubled_iff]

-- ## The rows of R98 and their levels

section Alert
variable {s : State} {st : StationId}

theorem State.alertPattern_closed (h : (s.stations[st]).state = .closed) : s.alertPattern st = .off := by
  unfold State.alertPattern
  rw [if_pos h]

theorem State.alertPattern_retrying (h : (s.stations[st]).state ≠ .closed) (hr : 0 < (s.stations[st]).retry) :
    s.alertPattern st = .fast := by
  unfold State.alertPattern
  rw [if_neg h, if_pos hr]

theorem State.alertPattern_unread (h : (s.stations[st]).state ≠ .closed) (hr : (s.stations[st]).retry = 0)
    (hu : s.hasUnread st = true) : s.alertPattern st = .steady := by
  unfold State.alertPattern
  rw [if_neg h, if_neg (by omega), if_pos hu]

/-- With nothing unread the last two rows of R98 are left: trouble among the COOKING batches or a PAUSED station. -/
theorem State.alertPattern_allRead (h : (s.stations[st]).state ≠ .closed) (hr : (s.stations[st]).retry = 0)
    (hu : ¬s.hasUnread st = true) :
    s.alertPattern st = if s.hasTroubled st = true ∨ (s.stations[st]).state = .paused then .slow else .off := by
  unfold State.alertPattern State.hasTroubled
  rw [if_neg h, if_neg (by omega), if_neg hu]
  simp only [Bool.or_eq_true, decide_eq_true_eq]

theorem State.alertLevel_of_off (h : s.alertPattern st = .off) : s.alertLevel st = false := by
  simp [State.alertLevel, h]

theorem State.alertLevel_of_steady (high : s.rstLow = false) (h : s.alertPattern st = .steady) :
    s.alertLevel st = true := by
  simp [State.alertLevel, high, h]

theorem State.alertLevel_of_fast (high : s.rstLow = false) (h : s.alertPattern st = .fast) :
    s.alertLevel st = s.fastOn := by
  simp [State.alertLevel, high, h]

theorem State.alertLevel_of_slow (high : s.rstLow = false) (h : s.alertPattern st = .slow) :
    s.alertLevel st = s.slowOn := by
  simp [State.alertLevel, high, h]

end Alert

-- ## Blink phases

theorem State.fastOn_iff (s : State) : s.fastOn = true ↔ s.blink % 256 < 128 := decide_eq_true_iff

theorem State.slowOn_iff (s : State) : s.slowOn = true ↔ s.blink % 1024 < 512 := decide_eq_true_iff

theorem State.phasesOn_of_blink_zero {s : State} (h : s.blink = 0) : s.fastOn = true ∧ s.slowOn = true := by
  simp [State.fastOn_iff, State.slowOn_iff, h]

@[simp] theorem State.closeEvent_blink (s : State) : s.closeEvent.blink = s.blink := by rw [State.closeEvent_only]

theorem State.run_blink (f : State → State) (s : State) : (s.run f).blink = (f { s with responses := [] }).blink :=
  State.closeEvent_blink _

theorem State.runLive_blink {s : State} (h : s.rstLow = false) (f : State → State) :
    (s.runLive f).blink = (f { s with responses := [] }).blink := by
  simp [State.runLive, State.run_blink, h]

@[simp] theorem State.divide_blink (u : Setup) (s : State) : (s.divide u).blink = s.blink := by
  unfold State.divide
  split <;> rfl

theorem State.trefPeriod_blink (s : State) : s.trefPeriod.blink = (s.blink + 1) % 1024 := by
  unfold State.trefPeriod
  cases s.setup <;> simp

theorem State.restart_blink (s : State) : s.restart.blink = 0 := rfl

theorem State.rstRise_blink (straps : BitVec 8) (s : State) : (s.rstRise straps).blink = 0 := rfl

-- ## The write of a watched word

theorem State.anchor_add_lt (s : State) {off : Nat} (h : off < 0x2000) : s.anchor + off < 2 ^ 40 := by
  have hs := s.straps.isLt
  simp only [State.anchor, anchorOf]
  omega

theorem State.anchor_add_aligned (s : State) {off : Nat} (h : off % 4 = 0) : (s.anchor + off) % 4 = 0 := by
  simp only [State.anchor, anchorOf]
  omega

theorem wordRequest_addr {a : Nat} (h : a < 2 ^ 40) (w : WordWrite) : (wordRequest a w).addr.toNat = a := by
  simpa [wordRequest] using h

theorem wordRequest_inOneLine {a : Nat} (h : a < 2 ^ 40) (aligned : a % 4 = 0) (w : WordWrite) :
    (wordRequest a w).inOneLine = true := by
  have hl : (wordRequest a w).len = 4 := rfl
  have hd : a / 64 = (a + 3) / 64 := by omega
  simp [Request.inOneLine, wordRequest_addr h, hl, hd]

theorem wordRequest_touchesWord {a : Nat} (h : a < 2 ^ 40) (w : WordWrite) (b : Nat) :
    (wordRequest a w).touchesWord b = true ↔ a < b + 4 ∧ b < a + 4 := by
  have hl : (wordRequest a w).len = 4 := rfl
  simp [Request.touchesWord, wordRequest_addr h, hl]

theorem State.regionOf_watchedWords (s : State) {off : Nat} (lo : 0x80 ≤ off) (hi : off < 0xA0) :
    s.regionOf (s.anchor + off) = .watchedWords := by
  have hold : (anchorSpan s.straps).holds (s.anchor + off) = true := by
    have size : off < 0x2000 := by omega
    simpa [Span.holds, anchorSpan, State.anchor] using size
  have low : ¬off < 0x80 := by omega
  simp [State.regionOf, hold, anchorRegion, low, hi]

theorem State.judgeWrite_watchedWords (s : State) (a : Nat) : s.judgeWrite 0 a .watchedWords = .latched := rfl

theorem State.judgeRegion_write {s : State} {tag : Tag} {a : Nat} {g : Region} (hp : s.part ≠ .start)
    (outside : g ≠ .window) : s.judgeRegion tag .write a g = s.judgeWrite tag a g := by
  have started : (s.part == .start) = false := by simpa using hp
  unfold State.judgeRegion
  rw [started]
  cases g with
  | window => exact absurd rfl outside
  | _ => rfl

/-- Outside START the order processor's write inside the watched words is latched (R122, R129). -/
theorem State.classify_watchedWords {s : State} {r : Request} (hp : s.part ≠ .start) (line : r.inOneLine = true)
    (tag : r.tag = 0) (kind : r.kind = .write) (first : s.regionOf r.addr.toNat = .watchedWords)
    (last : s.regionOf (r.addr.toNat + r.len - 1) = .watchedWords) : s.classify r = .latched := by
  have foreign : r.tag ≠ 63 := by simp [tag]
  unfold State.classify
  rw [line, if_neg (by decide), if_neg foreign, first, last, if_neg (by simp), tag, kind,
    State.judgeRegion_write hp (by decide), State.judgeWrite_watchedWords]

theorem State.classify_wordRequest {s : State} {off : Nat} (hp : s.part ≠ .start) (lo : 0x80 ≤ off)
    (hi : off + 3 < 0xA0) (aligned : off % 4 = 0) (w : WordWrite) :
    s.classify (wordRequest (s.anchor + off) w) = .latched := by
  have bound : s.anchor + off < 2 ^ 40 := s.anchor_add_lt (by omega)
  have addr := wordRequest_addr bound w
  have last : (s.anchor + off) + 4 - 1 = s.anchor + (off + 3) := by omega
  refine State.classify_watchedWords hp (wordRequest_inOneLine bound (s.anchor_add_aligned aligned) w) rfl rfl ?_ ?_
  · rw [addr]
    exact s.regionOf_watchedWords lo (by omega)
  · rw [addr, show (wordRequest (s.anchor + off) w).len = 4 from rfl, last]
    exact s.regionOf_watchedWords (by omega) hi

/-- A write that is latched is forwarded and then acts on the words it touches (R129). -/
theorem State.present_latched {s : State} {r : Request} (room : s.hasRoom r.tag = true)
    (h : s.classify r = .latched) : s.present r = ((s.joinList r).forward s.arrivals r).latchWords r := by
  simp [State.present, room, State.accept, h, State.treat]

-- ## The restart word

/-- The bytes of a number that is not 0 and fits them are not all 0. -/
theorem leBytes_exists_ne_zero {n v : Nat} (fits : v < 256 ^ n) (hv : v ≠ 0) : ∃ b ∈ leBytes n v, b ≠ 0 := by
  induction n generalizing v with
  | zero => omega
  | succ n ih =>
    by_cases low : v % 256 = 0
    · obtain ⟨b, mem, ne⟩ := ih (v := v / 256) (by omega) (by omega)
      exact ⟨b, List.mem_cons_of_mem _ mem, ne⟩
    · exact ⟨BitVec.ofNat 8 v, List.mem_cons_self, fun h => low (by simpa using congrArg BitVec.toNat h)⟩

/-- A word write with all four bytes enabled carries its data's bytes. -/
theorem carriedBytes_wordRequest {a : Nat} (h : a < 2 ^ 40) {w : WordWrite} (enabled : w.enable = 15#4) :
    carriedBytes (wordRequest a w) a = leBytes 4 w.data.toNat := by
  have hl : (wordRequest a w).len = 4 := rfl
  have he : (wordRequest a w).enables = [true, true, true, true] := by
    unfold wordRequest
    rw [enabled]
    rfl
  have hd : (wordRequest a w).data = leBytes 4 w.data.toNat := rfl
  simp [carriedBytes, carried, Request.enabledByte, wordRequest_addr h, hl, he, hd, List.range_succ, leBytes]

theorem State.latchTail_apart {s : State} {r : Request} (h : ¬r.touchesWord (s.anchor + offTail) = true) :
    s.latchTail r = s := if_neg h

theorem State.latchMask_apart {s : State} {r : Request} (h : ¬r.touchesWord (s.anchor + offMask) = true) :
    s.latchMask r = s := if_neg h

theorem State.latchClear_apart {s : State} {r : Request} (h : ¬r.touchesWord (s.anchor + offClear) = true) :
    s.latchClear r = s := if_neg h

/-- The write of the restart word touches no word before it (R129). -/
theorem State.latchWords_restartWord (s : State) (w : WordWrite) :
    s.latchWords (wordRequest (s.anchor + offRestart) w) = s.latchRestart (wordRequest (s.anchor + offRestart) w) := by
  have bound : s.anchor + offRestart < 2 ^ 40 := s.anchor_add_lt (by decide)
  have apart {off : Nat} (h : off + 4 ≤ offRestart) :
      ¬(wordRequest (s.anchor + offRestart) w).touchesWord (s.anchor + off) = true := by
    rw [wordRequest_touchesWord bound]
    omega
  unfold State.latchWords
  rw [State.latchTail_apart (apart (by decide)), State.latchMask_apart (apart (by decide)),
    State.latchClear_apart (apart (by decide))]

/-- A restart word write with all four bytes enabled and data other than 0 restarts the part (R129, R136). -/
theorem State.latchRestart_restarts (s : State) {w : WordWrite} (enabled : w.enable = 15#4) (hd : w.data ≠ 0#32) :
    ∃ t : State, s.latchRestart (wordRequest (s.anchor + offRestart) w) = t.restart := by
  have bound : s.anchor + offRestart < 2 ^ 40 := s.anchor_add_lt (by decide)
  have touches : (wordRequest (s.anchor + offRestart) w).touchesWord (s.anchor + offRestart) = true := by
    rw [wordRequest_touchesWord bound]
    omega
  have nonzero : (leBytes 4 w.data.toNat).any (fun b => b != 0) = true := by
    have hv : w.data.toNat ≠ 0 := fun h => hd (BitVec.eq_of_toNat_eq h)
    obtain ⟨b, mem, ne⟩ := leBytes_exists_ne_zero (n := 4) w.data.isLt hv
    exact List.any_eq_true.2 ⟨b, mem, bne_iff_ne.2 ne⟩
  unfold State.latchRestart State.takeRestart
  rw [if_pos touches, carriedBytes_wordRequest bound enabled, if_pos nonzero]
  exact ⟨_, rfl⟩

/-- The presented restart word write is latched and restarts the part, in every part state but START (R129, R136). -/
theorem State.present_restarts {s : State} {w : WordWrite} (hp : s.part ≠ .start) (room : s.hasRoom 0 = true)
    (enabled : w.enable = 15#4) (hd : w.data ≠ 0#32) :
    ∃ t : State, s.present (wordRequest (s.anchor + offRestart) w) = t.restart := by
  rw [State.present_latched room (State.classify_wordRequest hp (by decide) (by decide) (by decide) w)]
  generalize hu : State.forward _ _ _ = u
  have anchor : s.anchor = u.anchor := by rw [← hu]; rfl
  rw [anchor, State.latchWords_restartWord]
  exact u.latchRestart_restarts enabled hd

-- ## The statement's parts

/-- The alert line's level by the first row of R98's table whose condition holds (R98, R99). -/
theorem State.alertLevel_rows {s : State} (st : StationId) {reading late : Prop} (high : s.rstLow = false)
    (hread : reading ↔ s.hasUnread st = true) (hlate : late ↔ s.hasTroubled st = true) :
    ((s.stations[st]).state = .closed → s.alertLevel st = false)
    ∧ ((s.stations[st]).state ≠ .closed → 0 < (s.stations[st]).retry → s.alertLevel st = s.fastOn)
    ∧ ((s.stations[st]).state ≠ .closed → (s.stations[st]).retry = 0 → reading → s.alertLevel st = true)
    ∧ ((s.stations[st]).state ≠ .closed → (s.stations[st]).retry = 0 → ¬reading →
        late ∨ (s.stations[st]).state = .paused → s.alertLevel st = s.slowOn)
    ∧ ((s.stations[st]).state ≠ .closed → (s.stations[st]).retry = 0 → ¬reading → ¬late →
        (s.stations[st]).state ≠ .paused → s.alertLevel st = false) := by
  rw [hread, hlate]
  refine ⟨?closed, ?retrying, ?unread, ?slow, ?settled⟩
  case closed => exact fun h => State.alertLevel_of_off (State.alertPattern_closed h)
  case retrying => exact fun h hr => State.alertLevel_of_fast high (State.alertPattern_retrying h hr)
  case unread => exact fun h hr hu => State.alertLevel_of_steady high (State.alertPattern_unread h hr hu)
  case slow =>
    intro h hr hu trouble
    exact State.alertLevel_of_slow high ((State.alertPattern_allRead h hr hu).trans (if_pos trouble))
  case settled =>
    intro h hr hu calm notPaused
    exact State.alertLevel_of_off ((State.alertPattern_allRead h hr hu).trans (if_neg (not_or.2 ⟨calm, notPaused⟩)))

/-- Every TREF period moves the blink phases on by one (R68). -/
theorem exec_trefPeriod_blink {s : State} (high : s.rstLow = false) :
    ∃ t, exec .trefPeriod s = .next t ∧ t.blink = (s.blink + 1) % 1024 :=
  ⟨s.runLive State.trefPeriod, rfl, by rw [State.runLive_blink high, State.trefPeriod_blink]⟩

/-- The end of RST begins the blink phases (R68). -/
theorem exec_rstRise_blink {s : State} (straps : BitVec 8) (low : s.rstLow = true) :
    ∃ t, exec (.rstRise straps) s = .next t ∧ t.blink = 0 := by
  refine ⟨s.run (fun t => if t.rstLow then t.rstRise straps else t), rfl, ?_⟩
  rw [State.run_blink, if_pos low, State.rstRise_blink]

/-- A restart begins the blink phases (R68). -/
theorem exec_restartWord_blink {s : State} {w : WordWrite} (high : s.rstLow = false) (hp : s.part ≠ .start)
    (room : s.hasRoom 0 = true) (enabled : w.enable = 15#4) (hd : w.data ≠ 0#32) :
    ∃ t, exec (.restartWord w) s = .next t ∧ t.blink = 0 := by
  refine ⟨s.requestStep (wordRequest (s.anchor + offRestart) w), rfl, ?_⟩
  obtain ⟨t, restarts⟩ := State.present_restarts (s := { s with responses := [] }) hp room enabled hd
  calc (s.requestStep (wordRequest (s.anchor + offRestart) w)).blink
      = (({ s with responses := [] } : State).present (wordRequest (s.anchor + offRestart) w)).blink :=
        State.runLive_blink high _
    _ = t.restart.blink := congrArg State.blink restarts
    _ = 0 := t.restart_blink

/-- Settles O46, row by row of R98's table and event by event of R68. -/
theorem alertLineAndBlinkPhases : Obligations.AlertLineAndBlinkPhases := by
  unfold Obligations.AlertLineAndBlinkPhases
  refine ⟨?level, fun s => ⟨s.fastOn_iff, s.slowOn_iff⟩, fun s high => exec_trefPeriod_blink high, ?rise, ?restart⟩
  case level =>
    intro s st reading late high hread hlate
    exact State.alertLevel_rows st high (hread.trans (s.hasUnread_iff st).symm)
      (hlate.trans (s.hasTroubled_iff st).symm)
  case rise =>
    intro s straps low
    obtain ⟨t, runs, zero⟩ := exec_rstRise_blink straps low
    exact ⟨t, runs, zero, State.phasesOn_of_blink_zero zero⟩
  case restart =>
    intro s w high hp room enabled hd
    obtain ⟨t, runs, zero⟩ := exec_restartWord_blink high hp room enabled hd
    exact ⟨t, runs, zero, State.phasesOn_of_blink_zero zero⟩

end Sys2Proof.Machine

/-! SUPPORT. O14, the fault log and the stop: what a recording says of one record (R167), when a fault stops the part
(R174), and how ATTN rises with the reset mask (R171). -/

namespace Sys2Proof.Machine

-- ## The fault log, record by record

section Log
variable {s t : State} {f : FaultReport} {i : RecordId}

/-- A fault with a valid record of its reason and source raises that record's count and changes no other (R167). -/
theorem Logs.folds {x : FaultRecord} (h : Logs s t f) (distinct : s.FaultsDistinct) (hx : s.faults[i] = some x)
    (hr : x.report.reason = f.reason) (hs : x.report.source = f.source) :
    t.faults[i] = some { x with count := if x.count < 255 then x.count + 1 else x.count }
      ∧ ∀ j : RecordId, j ≠ i → t.faults[j] = s.faults[j] := by
  rcases h with ⟨k, y, hy, yr, ys, folded, others, _⟩ | ⟨new, _⟩ | ⟨new, _⟩
  · obtain rfl : i = k := distinct i k x y hx hy (hr.trans yr.symm) (hs.trans ys.symm)
    obtain rfl : x = y := Option.some.inj (hx.symm.trans hy)
    exact ⟨folded, others⟩
  · exact absurd ⟨hr, hs⟩ (new i x hx)
  · exact absurd ⟨hr, hs⟩ (new i x hx)

/-- A fault of no record takes the lowest free one and changes no other (R167). -/
theorem Logs.takes (h : Logs s t f) (new : s.NoRecordOf f) (free : s.faults[i] = none)
    (lowest : ∀ j : RecordId, j < i → s.faults[j] ≠ none) :
    t.faults[i] = some { report := f, count := 0 } ∧ ∀ j : RecordId, j ≠ i → t.faults[j] = s.faults[j] := by
  rcases h with ⟨k, y, hy, yr, ys, _⟩ | ⟨_, k, freeK, lowestK, taken, others, _⟩ | ⟨_, full, _⟩
  · exact absurd ⟨yr, ys⟩ (new k y hy)
  · obtain rfl : i = k :=
      le_antisymm (not_lt.1 fun below => lowest k below freeK) (not_lt.1 fun below => lowestK i below free)
    exact ⟨taken, others⟩
  · exact absurd free (full i)

/-- A fault of no record is dropped by a full log, which sets the overflow mark (R167). -/
theorem Logs.drops (h : Logs s t f) (new : s.NoRecordOf f) (full : ∀ j : RecordId, s.faults[j] ≠ none) :
    t.faults = s.faults ∧ t.overflow = true := by
  rcases h with ⟨k, y, hy, yr, ys, _⟩ | ⟨_, k, free, _⟩ | ⟨_, _, kept, overflow⟩
  · exact absurd ⟨yr, ys⟩ (new k y hy)
  · exact absurd free (full k)
  · exact ⟨kept, overflow⟩

end Log

-- ## The stop on a fatal fault

theorem FaultReason.isFatal_iff (r : FaultReason) : r.isFatal = true ↔ r = .ownReadFailed ∨ r = .ownWriteFailed := by
  cases r <;> simp [FaultReason.isFatal]

/-- What R174 asks for a stop: a fatal reason, the stop-on-fatal flag, and a part in IDLE or READY. -/
def State.StopsAt (s : State) (r : FaultReason) : Prop :=
  (r = .ownReadFailed ∨ r = .ownWriteFailed) ∧ s.stopsOnFatal = true ∧ (s.part = .idle ∨ s.part = .ready)

theorem State.stopIfFatal_stops {s : State} {r : FaultReason} (h : s.StopsAt r) : (s.stopIfFatal r).part = .stopped := by
  obtain ⟨fatal, flag, serving⟩ := h
  unfold State.stopIfFatal
  rw [if_pos (by simp [r.isFatal_iff.2 fatal, flag, serving])]

theorem State.stopIfFatal_stands {s : State} {r : FaultReason} (h : ¬s.StopsAt r) : s.stopIfFatal r = s := by
  unfold State.stopIfFatal
  refine if_neg fun stops => h ?_
  simp only [Bool.and_eq_true, Bool.or_eq_true, beq_iff_eq] at stops
  obtain ⟨⟨fatal, flag⟩, serving⟩ := stops
  exact ⟨r.isFatal_iff.1 fatal, flag, serving⟩

/-- The log has no part in the decision: the flag and the part state are those from before the recording. -/
theorem State.logFault_stopsAt (f : FaultReport) (s : State) (r : FaultReason) :
    (s.logFault f).StopsAt r ↔ s.StopsAt r := by
  have work := s.logFault_work f
  unfold State.StopsAt State.stopsOnFatal
  rw [work.setup, work.part]

theorem State.recordFault_stops {s : State} {f : FaultReport} (h : s.StopsAt f.reason) :
    (s.recordFault f).part = .stopped :=
  State.stopIfFatal_stops ((s.logFault_stopsAt f _).2 h)

theorem State.recordFault_stands {s : State} {f : FaultReport} (h : ¬s.StopsAt f.reason) :
    (s.recordFault f).part = s.part := by
  unfold State.recordFault
  rw [State.stopIfFatal_stands (mt (s.logFault_stopsAt f _).1 h), (s.logFault_work f).part]

theorem State.stopIfFatal_conditions (r : FaultReason) (s : State) : (s.stopIfFatal r).conditions = s.conditions := by
  unfold State.stopIfFatal
  split <;> rfl

/-- The recording of a fault sets no latched condition (R174). -/
theorem State.recordFault_conditions (f : FaultReport) (s : State) : (s.recordFault f).conditions = s.conditions :=
  (State.stopIfFatal_conditions _ _).trans (s.logFault_work f).conditions

/-- The failed write of a fault-log entry or of the notice word records no fault (R168, R174). -/
theorem State.ownWriteFailed_notice {m : MemRequest} {o : OwnRequest} (hm : m.owner = .own o)
    (ho : (∃ i, o = .faultMirror i) ∨ o = .noticeWord) (s : State) : s.ownWriteFailed m = s := by
  have silent : o.writeFault m = none := by obtain ⟨i, rfl⟩ | rfl := ho <;> rfl
  simp [State.ownWriteFailed, hm, silent]

-- ## ATTN under the reset mask

theorem bitIf_zero (b : Bool) : bitIf b 0 = b.toNat := by
  cases b <;> rfl

theorem bitIf_succ (b : Bool) (n : Nat) : bitIf b (n + 1) = 2 * bitIf b n := by
  cases b
  · rfl
  · exact Nat.pow_succ'

/-- Bit 0 of the conditions is FAULT: the other six stand above it (R169). -/
theorem State.holding_getLsbD_zero (s : State) : s.holding.getLsbD 0 = s.faultHolds := by
  have oneBit : s.faultHolds.toNat < 2 := s.faultHolds.toNat_lt
  unfold State.holding
  rw [BitVec.getLsbD_ofNat, Nat.testBit_zero]
  simp only [bitIf_succ, bitIf_zero, Nat.zero_lt_succ, decide_true, Bool.true_and]
  rw [Bool.eq_iff_iff, decide_eq_true_iff, ← Bool.toNat_eq_one]
  omega

theorem State.faultHolds_iff (s : State) : s.faultHolds = true ↔ ∃ i : RecordId, s.faults[i] ≠ none := by
  simp [State.faultHolds, Option.isSome_iff_ne_none]

/-- With the reset mask of FAULT only, a valid record raises ATTN (R171). -/
theorem State.attn_of_faultHolds {s : State} (high : s.rstLow = false) (mask : s.latched.mask = 1#32)
    (holds : s.faultHolds = true) : s.attn = true := by
  have bit : s.shown.getLsbD 0 = true := by
    simp [State.shown, State.mask, mask, State.holding_getLsbD_zero, holds]
  have shown : s.shown ≠ 0#7 := fun zero => by simp [zero] at bit
  simp [State.attn, high, shown]

/-- A recorded fault leaves a valid record: its own, or those of a full log. -/
theorem Recorded.faultHolds {t : State} {reason : FaultReason} {source : Tag} (h : Recorded t reason source) :
    t.faultHolds = true := by
  rw [State.faultHolds_iff]
  rcases h with ⟨i, x, hx, _⟩ | ⟨full, _⟩
  · exact ⟨i, by simp [hx]⟩
  · exact ⟨0, full 0⟩

theorem State.recordFault_attn {s : State} (f : FaultReport) (high : s.rstLow = false)
    (mask : s.latched.mask = 1#32) : (s.recordFault f).attn = true := by
  have work := s.recordFault_work f
  exact State.attn_of_faultHolds (work.rstLow.trans high) (by rw [work.latched, mask])
    (s.recordFault_logs f).recorded.faultHolds

-- ## The statement

/-- Settles O14: the log from the three outcomes of a recording, the part state from the condition of a stop. -/
theorem faultLogAndStop : Obligations.FaultLogAndStop := by
  unfold Obligations.FaultLogAndStop
  refine ⟨fun s f => ⟨?folds, ?takes, ?drops⟩, fun s f => ⟨?stops, ?stands, (s.recordFault_logs f).recorded,
    s.recordFault_conditions f, s.recordFault_attn f, fun m o hm ho => s.ownWriteFailed_notice hm ho⟩⟩
  case folds => exact fun i x distinct hx hr hs => (s.recordFault_logs f).folds distinct hx hr hs
  case takes => exact fun i new free lowest => (s.recordFault_logs f).takes new free lowest
  case drops =>
    intro others
    refine (s.recordFault_logs f).drops (fun j y hy => ?_) (fun j free => ?_)
    · obtain ⟨x, hx, apart⟩ := others j
      exact Option.some.inj (hx.symm.trans hy) ▸ apart
    · obtain ⟨x, hx, _⟩ := others j
      exact absurd (hx.symm.trans free) (by simp)
  case stops => exact fun fatal flag serving => State.recordFault_stops ⟨fatal, flag, serving⟩
  case stands =>
    refine fun missing => State.recordFault_stands ?_
    rintro ⟨fatal, flag, serving⟩
    rcases missing with ⟨noRead, noWrite⟩ | clear | ⟨notIdle, notReady⟩
    · exact fatal.elim noRead noWrite
    · simp [clear] at flag
    · exact serving.elim notIdle notReady

end Sys2Proof.Machine

/-! SUPPORT. The laws of the part along one step: the relation `Keeps`, in which every operation of the model stands.
First the operations that change a record a law reads; then every other operation, through the operations it calls. -/

namespace Sys2Proof.Machine

-- ## Names at the memory port

/-- The names of the unanswered requests are distinct and below the counter. -/
def MemPort.Named (p : MemPort) : Prop := (p.all.map (fun m => m.id)).Nodup ∧ ∀ m ∈ p.all, m.id < p.nextId

/-- A request that enters joins the end of the unanswered requests. -/
theorem MemPort.enqueue_all (p : MemPort) (m : MemRequest) :
    (p.enqueue m).all = p.all ++ [{ m with id := p.nextId }] := by
  unfold MemPort.enqueue MemPort.all
  split
  · rename_i h
    have none : p.waiting = [] := by
      simp only [Bool.and_eq_true, List.isEmpty_iff] at h
      exact h.1
    simp [none]
  · simp

theorem MemPort.Named.enqueue {p : MemPort} (h : p.Named) (m : MemRequest) : (p.enqueue m).Named := by
  obtain ⟨distinct, below⟩ := h
  unfold MemPort.Named
  rw [MemPort.enqueue_all, MemPort.enqueue_nextId]
  refine ⟨?_, ?_⟩
  · rw [List.map_append, List.nodup_append]
    refine ⟨distinct, by simp, ?_⟩
    rintro a ha b hb rfl
    obtain ⟨x, hx, hxa⟩ := List.mem_map.1 ha
    have := below x hx
    simp only [List.map_cons, List.map_nil, List.mem_singleton] at hb
    omega
  · intro x hx
    rcases List.mem_append.1 hx with hx | hx
    · exact (below x hx).trans (Nat.lt_succ_self _)
    · rw [List.mem_singleton.1 hx]
      exact Nat.lt_succ_self _

/-- Issuing moves requests from the waiting ones to the issued ones and keeps their order. -/
theorem issueFrom_append (w i : List MemRequest) : (issueFrom w i).2 ++ (issueFrom w i).1 = i ++ w := by
  induction w generalizing i with
  | nil => rfl
  | cons m w ih =>
    unfold issueFrom
    split
    · rfl
    · rw [ih]; simp

theorem MemPort.settle_all (p : MemPort) : p.settle.all = p.all := issueFrom_append _ _

/-- Requests that leave, and requests that are marked, keep the names. -/
theorem MemPort.Named.of_sublist {p q : MemPort} (h : p.Named) (n : q.nextId = p.nextId)
    (sub : (q.all.map (fun m => m.id)).Sublist (p.all.map (fun m => m.id))) : q.Named := by
  obtain ⟨distinct, below⟩ := h
  refine ⟨distinct.sublist sub, fun m hm => ?_⟩
  obtain ⟨x, hx, hxm⟩ := List.mem_map.1 (sub.subset (List.mem_map_of_mem hm))
  rw [n, ← hxm]
  exact below x hx

theorem MemPort.Named.answered {p : MemPort} (h : p.Named) (id : Nat) : (p.answered id).Named := by
  refine h.of_sublist rfl ?_
  unfold MemPort.answered
  rw [MemPort.settle_all]
  exact (List.Sublist.append List.filter_sublist (List.Sublist.refl _)).map _

theorem MemPort.Named.restarted {p : MemPort} (h : p.Named) : p.restarted.Named := by
  refine h.of_sublist rfl ?_
  unfold MemPort.restarted
  rw [MemPort.settle_all]
  unfold MemPort.all
  rw [List.map_append, List.map_append, List.map_map]
  have same : (fun m : MemRequest => m.id) ∘ (fun m : MemRequest => if m.isOwn then { m with discard := true } else m)
      = fun m => m.id := by
    funext m
    simp only [Function.comp_apply]
    split <;> rfl
  rw [same]
  exact List.Sublist.append (List.Sublist.refl _) (List.filter_sublist.map _)

theorem MemPort.Named.fallen {p : MemPort} (_ : p.Named) : p.fallen.Named :=
  ⟨List.nodup_nil, fun _ h => nomatch h⟩

-- ## Canonical tables

section Table
variable {α : Type}

theorem Table.wfFrom_mono {lo hi : Nat} (h : lo ≤ hi) {t : Table α} (w : Table.wfFrom hi t = true) :
    Table.wfFrom lo t = true := by
  cases t with
  | nil => rfl
  | cons e t =>
    simp only [Table.wfFrom, Bool.and_eq_true, decide_eq_true_eq] at *
    exact ⟨h.trans w.1, w.2⟩

theorem Table.wfFrom_put {lo k : Nat} (h : lo ≤ k) (v : α) {t : Table α} (w : Table.wfFrom lo t = true) :
    Table.wfFrom lo (Table.put k v t) = true := by
  induction t generalizing lo with
  | nil => simp [Table.put, Table.wfFrom, h]
  | cons e t ih =>
    obtain ⟨j, x⟩ := e
    simp only [Table.wfFrom, Bool.and_eq_true, decide_eq_true_eq] at w
    obtain ⟨first, rest⟩ := w
    unfold Table.put
    split
    · rename_i before
      simp only [Table.wfFrom, Bool.and_eq_true, decide_eq_true_eq]
      exact ⟨h, before, rest⟩
    · split
      · rename_i same
        subst same
        simp only [Table.wfFrom, Bool.and_eq_true, decide_eq_true_eq]
        exact ⟨h, rest⟩
      · simp only [Table.wfFrom, Bool.and_eq_true, decide_eq_true_eq]
        exact ⟨first, ih (by omega) rest⟩

theorem Table.wfFrom_update {lo : Nat} (k : Nat) (f : α → α) {t : Table α} (w : Table.wfFrom lo t = true) :
    Table.wfFrom lo (Table.update k f t) = true := by
  induction t generalizing lo with
  | nil => rfl
  | cons e t ih =>
    obtain ⟨j, x⟩ := e
    simp only [Table.wfFrom, Bool.and_eq_true, decide_eq_true_eq] at w
    unfold Table.update
    split <;> simp only [Table.wfFrom, Bool.and_eq_true, decide_eq_true_eq]
    · exact w
    · exact ⟨w.1, ih w.2⟩

theorem Table.wfFrom_erase {lo : Nat} (k : Nat) {t : Table α} (w : Table.wfFrom lo t = true) :
    Table.wfFrom lo (Table.erase k t) = true := by
  induction t generalizing lo with
  | nil => rfl
  | cons e t ih =>
    obtain ⟨j, x⟩ := e
    simp only [Table.wfFrom, Bool.and_eq_true, decide_eq_true_eq] at w
    unfold Table.erase at ih ⊢
    rw [List.filter_cons]
    split
    · simp only [Table.wfFrom, Bool.and_eq_true, decide_eq_true_eq]
      exact ⟨w.1, ih w.2⟩
    · exact ih (Table.wfFrom_mono (by omega) w.2)

end Table

theorem putBatches_wf (es : List (Nat × Batch)) {p : Table Batch} (w : Table.wfFrom 0 p = true) :
    Table.wfFrom 0 (putBatches p es) = true := by
  induction es generalizing p with
  | nil => exact w
  | cons e es ih => exact ih (Table.wfFrom_put (Nat.zero_le _) _ w)

theorem eraseBatches_wf (rs : List Nat) {p : Table Batch} (w : Table.wfFrom 0 p = true) :
    Table.wfFrom 0 (eraseBatches rs p) = true := by
  induction rs generalizing p with
  | nil => exact w
  | cons r rs ih => exact ih (Table.wfFrom_erase _ w)

-- ## Fixed tables

section Records
variable {α : Type} {n : Nat}

theorem getElem_set_fin (v : Vector α n) (i j : Fin n) (x : α) : (v.set i x)[j] = if i = j then x else v[j] := by
  rw [Fin.getElem_fin, Vector.getElem_set]
  simp [Fin.ext_iff]

theorem getElem_set_fin_self (v : Vector α n) (i : Fin n) (x : α) : (v.set i x)[i] = x := by
  rw [getElem_set_fin, if_pos rfl]

theorem getElem_set_fin_ne {i j : Fin n} (h : i ≠ j) (v : Vector α n) (x : α) : (v.set i x)[j] = v[j] := by
  rw [getElem_set_fin, if_neg h]

end Records

theorem State.updStation_station_self (s : State) (st : StationId) (f : Station → Station) :
    (s.updStation st f).stations[st] = f s.stations[st] := getElem_set_fin_self _ _ _

theorem State.updStation_station_ne (s : State) {st x : StationId} (h : st ≠ x) (f : Station → Station) :
    (s.updStation st f).stations[x] = s.stations[x] := getElem_set_fin_ne h _ _

theorem State.updCourse_course_self (s : State) (c : CourseId) (f : Course → Course) :
    (s.updCourse c f).courses[c] = f s.courses[c] := getElem_set_fin_self _ _ _

theorem State.updCourse_course_ne (s : State) {c d : CourseId} (h : c ≠ d) (f : Course → Course) :
    (s.updCourse c f).courses[d] = s.courses[d] := getElem_set_fin_ne h _ _

-- ## The laws along a change

/-- Every law of the part that `s` meets, `t` meets too, and the queue of commands is the same. -/
structure Keeps (s t : State) : Prop where
  pending : t.pending = s.pending
  dram : s.DramCanonical → t.DramCanonical
  tables : s.TablesRising → t.TablesRising
  live : s.FourLive → t.FourLive
  setup : s.SetupSound → t.SetupSound
  tokens : s.TokensAreSlots → t.TokensAreSlots
  lines : s.OneRequestPerLine → t.OneRequestPerLine
  names : s.NamesDistinct → t.NamesDistinct
  lists : s.ListsBounded → t.ListsBounded
  cache : s.CacheSound → t.CacheSound
  faults : s.FaultsDistinct → t.FaultsDistinct

@[refl] theorem Keeps.refl (s : State) : Keeps s s := ⟨rfl, id, id, id, id, id, id, id, id, id, id⟩

theorem Keeps.trans {s t u : State} (h : Keeps s t) (g : Keeps t u) : Keeps s u :=
  ⟨g.pending.trans h.pending, g.dram ∘ h.dram, g.tables ∘ h.tables, g.live ∘ h.live, g.setup ∘ h.setup,
    g.tokens ∘ h.tokens, g.lines ∘ h.lines, g.names ∘ h.names, g.lists ∘ h.lists, g.cache ∘ h.cache, g.faults ∘ h.faults⟩

theorem Keeps.foldl {α : Type} {f : State → α → State} (h : ∀ s a, Keeps s (f s a)) (l : List α) (s : State) :
    Keeps s (l.foldl f s) := foldl_rel .refl .trans h l s

/-- What the laws read of a state. -/
structure SameLawful (s t : State) : Prop where
  pending : t.pending = s.pending
  dram : t.dram = s.dram
  tickets : t.tickets = s.tickets
  pool : t.pool = s.pool
  courses : t.courses = s.courses
  setup : t.setup = s.setup
  head : t.intake.head = s.intake.head
  loader : t.loader = s.loader
  straps : t.straps = s.straps
  stations : t.stations = s.stations
  port : t.port = s.port
  flights : t.flights = s.flights
  cache : t.cache = s.cache
  faults : t.faults = s.faults

/-- A change of fields that no law reads keeps every law. -/
theorem SameLawful.keeps {s t : State} (h : SameLawful s t) : Keeps s t := by
  obtain ⟨pending, dram, tickets, pool, courses, setup, head, loader, straps, stations, port, flights, cache,
    faults⟩ := h
  constructor
  · exact pending
  · unfold State.DramCanonical; rw [dram]; exact id
  · unfold State.TablesRising; rw [tickets, pool]; exact id
  · unfold State.FourLive State.liveCount; rw [courses]; exact id
  · unfold State.SetupSound; rw [setup, head, loader, straps]; exact id
  · unfold State.TokensAreSlots; rw [stations]; exact id
  · unfold State.OneRequestPerLine; rw [port]; exact id
  · unfold State.NamesDistinct; rw [port]; exact id
  · unfold State.ListsBounded; rw [flights]; exact id
  · unfold State.CacheSound; rw [cache]; exact id
  · unfold State.FaultsDistinct; rw [faults]; exact id

-- ## The changes of a record that a law reads

section Changes
variable (s : State)

theorem State.issue_keeps (m : MemRequest) : Keeps s (s.issue m) where
  pending := rfl
  dram := id
  tables := id
  live := id
  setup := id
  tokens := id
  lines := s.port.enqueue_lines m
  names := fun h => MemPort.Named.enqueue h m
  lists := id
  cache := id
  faults := id

/-- The number of live courses after a change of one course. -/
theorem State.liveCount_updCourse (c : CourseId) (f : Course → Course) :
    (s.updCourse c f).liveCount ≤ s.liveCount + 1
      ∧ (((f s.courses[c]).live = true → (s.courses[c]).live = true) → (s.updCourse c f).liveCount ≤ s.liveCount) := by
  unfold State.liveCount
  rw [State.updCourse_courses]
  refine ⟨?_, fun calm => ?_⟩
  · have split : ∀ l : List CourseId, l.Nodup →
        l.countP (fun d => ((s.courses.set c (f s.courses[c]))[d]).live)
          ≤ l.countP (fun d => (s.courses[d]).live) + 1 := by
      intro l distinct
      induction l with
      | nil => simp
      | cons d l ih =>
        obtain ⟨apart, distinct⟩ := List.nodup_cons.1 distinct
        rw [List.countP_cons, List.countP_cons]
        by_cases same : c = d
        · subst same
          have rest : l.countP (fun d => ((s.courses.set c (f s.courses[c]))[d]).live)
              = l.countP (fun d => (s.courses[d]).live) := by
            refine List.countP_congr fun d hd => ?_
            rw [getElem_set_fin_ne fun e : c = d => apart (e ▸ hd)]
          rw [rest]
          split <;> split <;> omega
        · rw [getElem_set_fin_ne same]
          have := ih distinct
          split <;> omega
    exact split _ (List.nodup_finRange 16)
  · refine List.countP_mono_left fun d _ => ?_
    rw [getElem_set_fin]
    split
    · rename_i same
      subst same
      exact calm
    · exact id

theorem State.updCourse_keeps_of {c : CourseId} {f : Course → Course}
    (h : s.FourLive → (s.updCourse c f).FourLive) : Keeps s (s.updCourse c f) where
  pending := rfl
  dram := id
  tables := id
  live := h
  setup := id
  tokens := id
  lines := id
  names := id
  lists := id
  cache := id
  faults := id

/-- A change that makes no course live. -/
theorem State.updCourse_keeps {c : CourseId} {f : Course → Course} (h : (f s.courses[c]).live → (s.courses[c]).live) :
    Keeps s (s.updCourse c f) :=
  s.updCourse_keeps_of fun few => ((s.liveCount_updCourse c f).2 h).trans few

/-- A change that makes a course live while fewer than four are. -/
theorem State.updCourse_keeps_room {c : CourseId} (f : Course → Course) (h : s.liveCount < Config.liveCourses) :
    Keeps s (s.updCourse c f) :=
  s.updCourse_keeps_of fun _ => (s.liveCount_updCourse c f).1.trans h

theorem State.updStation_keeps {st : StationId} {f : Station → Station}
    (h : (s.stations[st]).tokens = (s.stations[st]).occupied →
      (f s.stations[st]).tokens = (f s.stations[st]).occupied) : Keeps s (s.updStation st f) where
  pending := rfl
  dram := id
  tables := id
  live := id
  setup := id
  tokens := by
    intro even x
    rw [State.updStation_stations, getElem_set_fin]
    split
    · exact h (even st)
    · exact even x
  lines := id
  names := id
  lists := id
  cache := id
  faults := id

/-- A change of one station that leaves its tokens and its slots. -/
theorem State.updStation_keeps_slots {st : StationId} {f : Station → Station}
    (tokens : (f s.stations[st]).tokens = (s.stations[st]).tokens)
    (slots : (f s.stations[st]).slots = (s.stations[st]).slots) : Keeps s (s.updStation st f) := by
  refine s.updStation_keeps fun even => ?_
  unfold Station.occupied
  rw [tokens, slots]
  exact even

/-- A change of the two tables that keeps each in canonical form. -/
theorem State.tables_keep {tickets : Table Ticket} {pool : Table Batch}
    (h : s.TablesRising → Table.wfFrom 0 tickets = true ∧ Table.wfFrom 0 pool = true) :
    Keeps s { s with tickets := tickets, pool := pool } where
  pending := rfl
  dram := id
  tables := h
  live := id
  setup := id
  tokens := id
  lines := id
  names := id
  lists := id
  cache := id
  faults := id

theorem State.updBatch_keeps (r : Nat) (f : Batch → Batch) : Keeps s (s.updBatch r f) :=
  s.tables_keep fun ⟨tickets, pool⟩ => ⟨tickets, Table.wfFrom_update r f pool⟩

theorem State.updTicket_keeps (e : Nat) (f : Ticket → Ticket) : Keeps s (s.updTicket e f) :=
  s.tables_keep fun ⟨tickets, pool⟩ => ⟨Table.wfFrom_update e f tickets, pool⟩

theorem State.cache_keeps {l : List CacheEntry} (h : s.CacheSound → ({ s with cache := l } : State).CacheSound) :
    Keeps s { s with cache := l } where
  pending := rfl
  dram := id
  tables := id
  live := id
  setup := id
  tokens := id
  lines := id
  names := id
  lists := id
  cache := h
  faults := id

theorem State.setFault_keeps {i : RecordId} {r : Option FaultRecord}
    (h : s.FaultsDistinct → (s.setFault i r).FaultsDistinct) : Keeps s (s.setFault i r) where
  pending := rfl
  dram := id
  tables := id
  live := id
  setup := id
  tokens := id
  lines := id
  names := id
  lists := id
  cache := id
  faults := h

/-- The lists of requests are changed, and none grows beyond 16. -/
theorem State.flights_keep {flights : Vector (List Flight) 64}
    (h : s.ListsBounded → ∀ tag : Tag, (flights[tag]).length ≤ Config.requestsInFlight) :
    Keeps s { s with flights := flights } where
  pending := rfl
  dram := id
  tables := id
  live := id
  setup := id
  tokens := id
  lines := id
  names := id
  lists := h
  cache := id
  faults := id

/-- The head and the loader are changed, and the law of the setup stands. -/
theorem State.setup_keeps {t : State} (quiet : SameLawful { s with
      setup := t.setup, intake := { s.intake with head := t.intake.head }, loader := t.loader } t)
    (h : s.SetupSound → t.SetupSound) : Keeps s t := by
  refine Keeps.trans (t := { s with
    setup := t.setup, intake := { s.intake with head := t.intake.head }, loader := t.loader }) ?_ quiet.keeps
  refine ⟨rfl, id, id, id, fun sound => ?_, id, id, id, id, id, id⟩
  have straps : t.straps = s.straps := quiet.straps
  have := h sound
  unfold State.SetupSound at this ⊢
  rw [straps] at this
  exact this

end Changes

end Sys2Proof.Machine

/-! SUPPORT. The laws of the part along the operations of the memory port, the fault log and the Station Table. -/

namespace Sys2Proof.Machine

-- ## Requests and faults

theorem State.writeAnchor_keeps (o : OwnRequest) (off : Nat) (data : List Byte) (s : State) :
    Keeps s (s.writeAnchor o off data) := s.issue_keeps _

theorem State.clearBump_keeps (st : StationId) (k : SlotId) (s : State) : Keeps s (s.clearBump st k) :=
  s.writeAnchor_keeps _ _ _

theorem State.enqueueAll_keeps (ms : List MemRequest) (s : State) :
    Keeps s { s with port := s.port.enqueueAll ms } := by
  induction ms generalizing s with
  | nil => exact .refl s
  | cons m ms ih => exact (s.issue_keeps m).trans (ih (s.issue m))

theorem State.updService_keeps (f : Service → Service) (s : State) : Keeps s (s.updService f) :=
  SameLawful.keeps (by constructor <;> rfl)

theorem State.setCondition_keeps (f : Conditions → Conditions) (s : State) : Keeps s (s.setCondition f) :=
  SameLawful.keeps (by constructor <;> rfl)

theorem State.lock_keeps (line : Nat) (s : State) : Keeps s (s.lock line) := SameLawful.keeps (by constructor <;> rfl)

theorem State.unlock_keeps (line : Nat) (s : State) : Keeps s (s.unlock line) :=
  SameLawful.keeps (by constructor <;> rfl)

/-- A record that takes the reason and source of no other record. -/
theorem State.setFault_distinct {s : State} {i : RecordId} {r : Option FaultRecord}
    (new : ∀ x, r = some x → ∀ (j : RecordId) (y : FaultRecord), j ≠ i → s.faults[j] = some y →
      ¬(x.report.reason = y.report.reason ∧ x.report.source = y.report.source)) (h : s.FaultsDistinct) :
    (s.setFault i r).FaultsDistinct := by
  intro a b x y ha hb reason source
  unfold State.setFault at ha hb
  simp only [getElem_set_fin] at ha hb
  split at ha <;> split at hb
  · rename_i ia ib
    exact ia.symm.trans ib
  · rename_i ia ib
    exact absurd ⟨reason, source⟩ (new x ha b y (fun e => ib e.symm) hb)
  · rename_i ia ib
    exact absurd ⟨reason.symm, source.symm⟩ (new y hb a x (fun e => ia e.symm) ha)
  · exact h a b x y ha hb reason source

theorem State.foldFault_keeps (i : RecordId) (s : State) : Keeps s (s.foldFault i) := by
  unfold State.foldFault
  split
  · rename_i r hr
    split
    · refine s.setFault_keeps fun distinct => State.setFault_distinct ?_ distinct
      rintro x hx j y apart hy ⟨reason, source⟩
      cases hx
      exact apart (distinct i j r y hr hy reason source).symm
    · exact .refl s
  · exact .refl s

theorem State.logFault_keeps (f : FaultReport) (s : State) : Keeps s (s.logFault f) := by
  unfold State.logFault
  split
  · exact s.foldFault_keeps _
  · rename_i unmatched
    split
    · refine s.setFault_keeps fun distinct => State.setFault_distinct ?_ distinct
      rintro x hx j y - hy ⟨reason, source⟩
      cases hx
      exact State.matchingRecord_none unmatched j y hy ⟨reason.symm, source.symm⟩
    · exact SameLawful.keeps (by constructor <;> rfl)

theorem State.stopIfFatal_keeps (reason : FaultReason) (s : State) : Keeps s (s.stopIfFatal reason) := by
  unfold State.stopIfFatal
  split
  · exact SameLawful.keeps (by constructor <;> rfl)
  · exact .refl s

theorem State.recordFault_keeps (f : FaultReport) (s : State) : Keeps s (s.recordFault f) :=
  (s.logFault_keeps f).trans (State.stopIfFatal_keeps _ _)

theorem State.freeRecord_keeps (i : RecordId) (s : State) : Keeps s (s.freeRecord i) := by
  unfold State.freeRecord
  split
  · exact s.setFault_keeps (State.setFault_distinct fun _ h => nomatch h)
  · exact .refl s

-- ## The end of an event

theorem State.flushTables_keeps (s : State) : Keeps s s.flushTables := by
  have courses : Keeps s s.flushCourses := Keeps.foldl (fun t _ => t.writeAnchor_keeps _ _ _) _ _
  have stations : Keeps s.flushCourses s.flushCourses.flushStations :=
    Keeps.foldl (fun t _ => t.writeAnchor_keeps _ _ _) _ _
  have service (t : State) : Keeps t t.flushService := by
    unfold State.flushService
    split
    · exact t.writeAnchor_keeps _ _ _
    · exact .refl t
  exact ((courses.trans stations).trans (service _)).trans (SameLawful.keeps (by constructor <;> rfl))

theorem State.flushNotice_keeps (s : State) : Keeps s s.flushNotice := by
  unfold State.flushNotice
  split
  · exact .refl s
  · exact (s.writeAnchor_keeps _ _ _).trans (SameLawful.keeps (by constructor <;> rfl))

theorem State.closeEvent_keeps (s : State) : Keeps s s.closeEvent := by
  have faults (t : State) : Keeps t t.flushFaults := Keeps.foldl (fun t _ => t.writeAnchor_keeps _ _ _) _ _
  exact ((s.flushTables_keeps.trans (faults _)).trans (State.flushNotice_keeps _)).trans
    (SameLawful.keeps (by constructor <;> rfl))

theorem State.event_keeps {f : State → State} {s : State} (h : Keeps s (f s)) : Keeps s (s.event f) :=
  h.trans (f s).closeEvent_keeps

theorem State.dropResponses_keeps (s : State) : Keeps s { s with responses := [] } :=
  SameLawful.keeps (by constructor <;> rfl)

theorem State.run_keeps {f : State → State} (h : ∀ s, Keeps s (f s)) (s : State) : Keeps s (s.run f) :=
  s.dropResponses_keeps.trans (State.event_keeps (h _))

theorem State.runLive_keeps {f : State → State} (h : ∀ s, Keeps s (f s)) (s : State) : Keeps s (s.runLive f) := by
  refine State.run_keeps (fun t => ?_) s
  split
  · exact .refl t
  · exact h t

-- ## Stations

theorem State.joinQueue_keeps (r : Nat) (st : StationId) (s : State) : Keeps s (s.joinQueue r st) := by
  unfold State.joinQueue
  split
  · refine s.updStation_keeps_slots ?_ ?_ <;> (unfold Station.join; split <;> rfl)
  · exact .refl s

theorem State.ackReload_keeps (st : StationId) (s : State) : Keeps s (s.ackReload st) := by
  unfold State.ackReload
  refine s.updStation_keeps_slots ?_ ?_ <;> split <;> rfl

theorem State.departTimer_keeps (st : StationId) (s : State) : Keeps s (s.departTimer st) := by
  unfold State.departTimer
  split
  · exact .refl s
  · exact s.updStation_keeps_slots rfl rfl

/-- The number of occupied slots after a change of one slot. -/
theorem Station.occupied_set (x : Station) (k : SlotId) (o : Option Nat) :
    ({ x with slots := x.slots.set k o } : Station).occupied + (if (x.slots[k]).isSome then 1 else 0)
      = x.occupied + (if o.isSome then 1 else 0) := by
  have count : ∀ l : List SlotId, l.Nodup →
      l.countP (fun j => ((x.slots.set k o)[j]).isSome) + (if k ∈ l ∧ (x.slots[k]).isSome then 1 else 0)
        = l.countP (fun j => (x.slots[j]).isSome) + (if k ∈ l ∧ o.isSome then 1 else 0) := by
    intro l distinct
    induction l with
    | nil => simp
    | cons j l ih =>
      obtain ⟨apart, distinct⟩ := List.nodup_cons.1 distinct
      have := ih distinct
      rw [List.countP_cons, List.countP_cons]
      by_cases same : k = j
      · subst same
        rw [getElem_set_fin_self]
        simp only [apart, false_and, if_false, List.mem_cons, true_or, true_and] at this ⊢
        omega
      · rw [getElem_set_fin_ne same]
        simp only [List.mem_cons, same, false_or] at this ⊢
        omega
  unfold Station.occupied
  simpa using count _ (List.nodup_finRange 16)

theorem Station.fill_even {x : Station} {k : SlotId} (r : Nat) (free : x.slots[k] = none)
    (even : x.tokens = x.occupied) : (x.fill k r).tokens = (x.fill k r).occupied := by
  have := x.occupied_set k (some r)
  rw [free] at this
  simp only [Option.isSome_none, Option.isSome_some, Bool.false_eq_true, if_false, if_true] at this
  calc x.tokens + 1 = x.occupied + 1 := by rw [even]
    _ = _ := this.symm

theorem Station.vacate_even {x : Station} (k : SlotId) (even : x.tokens = x.occupied) :
    (x.vacate k).tokens = (x.vacate k).occupied := by
  unfold Station.vacate
  split
  · rename_i taken
    have := x.occupied_set k none
    rw [if_pos taken] at this
    simp only [Option.isSome_none, Bool.false_eq_true, if_false] at this
    change x.tokens - 1 = ({ x with slots := x.slots.set k none } : Station).occupied
    omega
  · exact even

theorem State.vacate_keeps (st : StationId) (k : SlotId) (s : State) : Keeps s (s.updStation st (Station.vacate k)) :=
  s.updStation_keeps (Station.vacate_even k)

/-- The timer of a show leaves the slots. -/
theorem State.showTimer_slots (st : StationId) (s : State) :
    ((s.showTimer st).stations[st]).slots = (s.stations[st]).slots := by
  unfold State.showTimer
  split
  · rfl
  · rw [State.updStation_station_self]

theorem State.showTimer_keeps (st : StationId) (s : State) : Keeps s (s.showTimer st) := by
  unfold State.showTimer
  split
  · exact .refl s
  · exact s.updStation_keeps_slots rfl rfl

theorem State.markLate_keeps (r : Nat) (c : CourseId) (s : State) : Keeps s (s.markLate r c) := by
  unfold State.markLate
  split
  · split
    · exact .refl s
    · exact (s.updBatch_keeps _ _).trans (State.updCourse_keeps _ id)
  · exact .refl s

theorem State.judgeShow_keeps (r : Nat) (s : State) : Keeps s (s.judgeShow r) := by
  unfold State.judgeShow
  split
  · split
    · split
      · exact s.markLate_keeps _ _
      · exact .refl s
    · exact .refl s
  · exact .refl s

theorem State.showAt_keeps {st : StationId} {k : SlotId} {s : State} (r : Nat)
    (free : (s.stations[st]).slots[k] = none) : Keeps s (s.showAt st r k) := by
  have fills : Keeps (s.showTimer st) ((s.showTimer st).updStation st (fun x => (x.unqueue r).fill k r)) :=
    State.updStation_keeps _ (Station.fill_even (x := ((s.showTimer st).stations[st]).unqueue r) r
      (by rw [← free, ← s.showTimer_slots st]; rfl))
  exact ((((s.showTimer_keeps st).trans fills).trans (State.updBatch_keeps _ _ _)).trans
    (State.judgeShow_keeps _ _)).trans (State.clearBump_keeps _ _ _)

theorem Station.emptySlot_free {x : Station} {k : SlotId} (h : x.emptySlot? = some k) : x.slots[k] = none := by
  simpa using List.find?_some h

theorem State.showHead_keeps (st : StationId) (s : State) : Keeps s (s.showHead st) := by
  unfold State.showHead
  split
  · rename_i slot
    exact s.showAt_keeps _ (Station.emptySlot_free slot)
  · exact .refl s

theorem State.showLoop_keeps (st : StationId) (n : Nat) (s : State) : Keeps s (s.showLoop st n) := by
  induction n generalizing s with
  | zero => exact .refl s
  | succ n ih =>
    unfold State.showLoop
    split
    · exact (s.showHead_keeps st).trans (ih _)
    · exact .refl s

theorem State.checkShow_keeps (st : StationId) (s : State) : Keeps s (s.checkShow st) := s.showLoop_keeps st 16

theorem State.moveTo_keeps (r : Nat) (b : StationId) (s : State) : Keeps s (s.moveTo r b) :=
  ((s.updBatch_keeps _ _).trans (State.joinQueue_keeps _ _ _)).trans (State.checkShow_keeps _ _)

theorem State.strand_keeps (r : Nat) (st : StationId) (sub : Nat) (s : State) : Keeps s (s.strand r st sub) :=
  ((s.updBatch_keeps _ _).trans (State.updStation_keeps_slots _ rfl rfl)).trans (State.recordFault_keeps _ _)

theorem State.enterStation_keeps (r : Nat) (st : StationId) (s : State) : Keeps s (s.enterStation r st) := by
  have joins : Keeps s ((s.joinQueue r st).checkShow st) := (s.joinQueue_keeps r st).trans (State.checkShow_keeps _ _)
  unfold State.enterStation
  split
  · exact joins
  · exact joins
  · split
    · exact s.moveTo_keeps _ _
    · exact s.strand_keeps _ _ _
  · split
    · exact s.moveTo_keeps _ _
    · exact joins

theorem State.enter_keeps (r : Nat) (s : State) : Keeps s (s.enter r) := by
  unfold State.enter
  split
  · exact s.enterStation_keeps _ _
  · exact .refl s

theorem State.returnOpen_keeps (st : StationId) (s : State) : Keeps s (s.returnOpen st) :=
  (s.updStation_keeps_slots rfl rfl).trans (State.checkShow_keeps _ _)

theorem State.closeOut_keeps (st : StationId) (b : Option StationId) (r : Nat) (s : State) :
    Keeps s (s.closeOut st b r) := by
  unfold State.closeOut
  split
  · exact s.moveTo_keeps _ _
  · exact s.strand_keeps _ _ _

theorem State.stationOpen_keeps (st : StationId) (s : State) : Keeps s (s.stationOpen st).2 := by
  unfold State.stationOpen
  split
  · exact (s.updStation_keeps_slots rfl rfl).trans (State.checkShow_keeps _ _)
  · exact s.returnOpen_keeps _
  · exact .refl s
  · exact .refl s

theorem State.stationClose_keeps (st : StationId) (s : State) : Keeps s (s.stationClose st).2 := by
  unfold State.stationClose
  split
  · exact (s.updStation_keeps_slots
      (f := fun x => { x with state := .closed, retry := 0, progress := 0, prio := [], ordinary := [] }) rfl rfl).trans
      (Keeps.foldl (fun t r => t.closeOut_keeps _ _ r) _ _)
  · exact .refl s

theorem State.stationPause_keeps (st : StationId) (s : State) : Keeps s (s.stationPause st).2 := by
  unfold State.stationPause
  split
  · exact s.updStation_keeps_slots (f := fun x => { x with state := .paused }) rfl rfl
  · exact .refl s

theorem State.stationUnpause_keeps (st : StationId) (s : State) : Keeps s (s.stationUnpause st).2 := by
  unfold State.stationUnpause
  split
  · exact (s.updStation_keeps_slots (f := fun x => { x with state := .opened }) rfl rfl).trans
      (State.checkShow_keeps _ _)
  · exact .refl s

theorem State.stationBackup_keeps (st : StationId) (v : Nat) (s : State) : Keeps s (s.stationBackup st v).2 := by
  unfold State.stationBackup
  split
  · exact .refl s
  · exact s.updStation_keeps_slots
      (f := fun x => { x with plan := { x.plan with backup := toBackup v } }) rfl rfl

theorem State.stationCapacity_keeps (st : StationId) (v : Nat) (s : State) : Keeps s (s.stationCapacity st v).2 := by
  unfold State.stationCapacity
  split
  · exact .refl s
  · exact (s.updStation_keeps_slots
      (f := fun x => { x with plan := { x.plan with capacity := v } }) rfl rfl).trans (State.checkShow_keeps _ _)

theorem State.stationRelease_keeps (st : StationId) (v : Nat) (s : State) : Keeps s (s.stationRelease st v).2 := by
  unfold State.stationRelease
  split
  · exact .refl s
  · split
    · exact .refl s
    · exact (s.updStation_keeps_slots (f := fun x => { x with stranded := [] }) rfl rfl).trans
        (Keeps.foldl (fun t r => t.moveTo_keeps r _) _ _)

theorem State.stationCommand_keeps (a : StationAction) (st v : Nat) (s : State) :
    Keeps s (s.stationCommand a st v).2 := by
  unfold State.stationCommand
  split
  · exact .refl s
  · cases a with
    | opening => exact s.stationOpen_keeps _
    | close => exact s.stationClose_keeps _
    | pause => exact s.stationPause_keeps _
    | unpause => exact s.stationUnpause_keeps _
    | backup => exact s.stationBackup_keeps _ _
    | capacity => exact s.stationCapacity_keeps _ _
    | releaseStranded => exact s.stationRelease_keeps _ _

-- ## Acknowledgement and the ack timers

theorem State.acknowledge_keeps (st : StationId) (k : SlotId) (r : Nat) (s : State) :
    Keeps s (s.acknowledge st k r) := by
  have clears (t : State) : Keeps t (t.updStation st
      (fun x => if x.state = .opened ∨ x.state = .paused then { x with retry := 0 } else x)) := by
    refine t.updStation_keeps_slots ?_ ?_ <;> split <;> rfl
  exact ((s.updBatch_keeps _ _).trans (clears _)).trans (State.ackReload_keeps _ _)

theorem State.countReturn_keeps (st : StationId) (s : State) : Keeps s (s.countReturn st) := by
  unfold State.countReturn
  split
  · split
    · exact s.returnOpen_keeps _
    · exact s.updStation_keeps_slots rfl rfl
  · exact .refl s

theorem State.linkRead_keeps (st : StationId) (k : SlotId) (s : State) : Keeps s (s.linkRead st k) := by
  unfold State.linkRead
  split
  · refine Keeps.trans ?_ (State.countReturn_keeps _ _)
    split
    · exact s.acknowledge_keeps _ _ _
    · exact .refl s
  · exact s.countReturn_keeps _

theorem State.moveSlot_keeps (st b : StationId) (k : SlotId) (s : State) : Keeps s (s.moveSlot st b k) := by
  unfold State.moveSlot
  split
  · exact (s.vacate_keeps _ _).trans (State.moveTo_keeps _ _ _)
  · exact .refl s

theorem State.moveWork_keeps (st b : StationId) (s : State) : Keeps s (s.moveWork st b) :=
  ((Keeps.foldl (fun t k => t.moveSlot_keeps st b k) _ s).trans (State.updStation_keeps_slots _ rfl rfl)).trans
    (Keeps.foldl (fun t r => t.moveTo_keeps r b) _ _)

theorem State.goDown_keeps (st : StationId) (s : State) : Keeps s (s.goDown st) := by
  have down := ((s.updStation_keeps_slots (st := st) (f := fun x => { x with state := .down, progress := 0 })
    rfl rfl).trans (State.recordFault_keeps (s.downFault st) _)).trans
      (State.setCondition_keeps (fun n => { n with down := true }) _)
  unfold State.goDown
  simp only
  split
  · exact down.trans (State.moveWork_keeps _ _ _)
  · exact down.trans (State.recordFault_keeps _ _)

theorem State.expire_keeps (st : StationId) (s : State) : Keeps s (s.expire st) := by
  have retried : Keeps s (s.updStation st Station.retried) := s.updStation_keeps_slots rfl rfl
  have open_or_paused : Keeps s (if ((s.updStation st Station.retried).stations[st]).atLimit then
      (s.updStation st Station.retried).goDown st else s.updStation st Station.retried) := by
    split
    · exact retried.trans (State.goDown_keeps _ _)
    · exact retried
  unfold State.expire
  split
  · exact open_or_paused
  · exact open_or_paused
  · exact s.updStation_keeps_slots rfl rfl
  · exact .refl s

theorem State.takeTick_keeps (st : StationId) (s : State) : Keeps s (s.takeTick st) := by
  unfold State.takeTick
  split
  · exact .refl s
  · split
    · exact s.expire_keeps _
    · exact s.updStation_keeps_slots rfl rfl

theorem State.takeSparedTick_keeps (st : StationId) (s : State) : Keeps s (s.takeSparedTick st) := by
  unfold State.takeSparedTick
  split
  · exact .refl s
  · exact s.updStation_keeps_slots rfl rfl

theorem State.setTickMark_keeps (m : TickMark) (st : StationId) (s : State) : Keeps s (s.setTickMark m st) :=
  s.updStation_keeps_slots rfl rfl

theorem State.takeOwed_keeps (st : StationId) (s : State) : Keeps s (s.takeOwed st) := by
  unfold State.takeOwed
  split
  · exact (s.setTickMark_keeps _ _).trans (State.takeTick_keeps _ _)
  · exact (s.setTickMark_keeps _ _).trans (State.takeSparedTick_keeps _ _)
  all_goals exact .refl s

theorem State.payTick_keeps (st : StationId) (s : State) : Keeps s (s.payTick st) := by
  unfold State.payTick
  split
  · exact State.event_keeps (s.takeOwed_keeps st)
  · exact .refl s

theorem State.lowerTimer_keeps (st : StationId) (s : State) : Keeps s (s.lowerTimer st) := by
  have runs : ∀ n, Keeps s (if n ≤ 1 then s.setTickMark .owed st
      else s.updStation st (fun x => { x with timer := some (n - 1) })) := by
    intro n
    split
    · exact s.setTickMark_keeps _ _
    · exact s.updStation_keeps_slots rfl rfl
  unfold State.lowerTimer
  split
  · exact s.setTickMark_keeps _ _
  · exact (s.setTickMark_keeps _ _).trans (State.takeSparedTick_keeps _ _)
  all_goals
    split
    · exact .refl s
    · exact runs _

theorem State.ackTimerExpiry_keeps (st : StationId) (s : State) : Keeps s (s.ackTimerExpiry st) := by
  unfold State.ackTimerExpiry
  split
  · split
    · exact s.takeOwed_keeps _
    · exact s.takeOwed_keeps _
    · split
      · exact (s.setTickMark_keeps _ _).trans (State.expire_keeps _ _)
      · exact .refl s
    all_goals exact .refl s
  · exact .refl s

end Sys2Proof.Machine

/-! SUPPORT. The laws of the part along the operations of the Course Table, the Ticket Table and the Dish Cache, and along
the completion of a command. -/

namespace Sys2Proof.Machine

-- ## Courses

/-- A change of a course that makes it not live, or leaves its state. -/
theorem State.updCourse_keeps_state {s : State} {c : CourseId} {f : Course → Course}
    (h : (f s.courses[c]).state = (s.courses[c]).state) : Keeps s (s.updCourse c f) :=
  s.updCourse_keeps (by unfold Course.live; rw [h]; exact id)

theorem State.makeDue_keeps (r : Nat) (s : State) : Keeps s (s.makeDue r) := by
  unfold State.makeDue
  split
  · split
    · simp only
      split
      · exact (s.updBatch_keeps _ _).trans (State.markLate_keeps _ _ _)
      · exact s.updBatch_keeps _ _
    · exact .refl s
  · exact .refl s

theorem State.release_keeps (rs : List Nat) (s : State) : Keeps s (s.release rs) :=
  (Keeps.foldl (fun t r => t.makeDue_keeps r) rs s).trans (Keeps.foldl (fun t r => t.enter_keeps r) rs _)

theorem State.fireCourse_keeps {s : State} (c : CourseId) (n : Nat) (h : s.liveCount < Config.liveCourses) :
    Keeps s (s.fireCourse c n) := (s.updCourse_keeps_room _ h).trans (State.release_keeps _ _)

theorem State.autoFire_keeps (c : CourseId) (s : State) : Keeps s (s.autoFire c) := by
  unfold State.autoFire
  split
  · split
    · rename_i room
      exact State.fireCourse_keeps c 0 room
    · exact s.recordFault_keeps _
  · exact .refl s

theorem State.stage_keeps (c : CourseId) (s : State) : Keeps s (s.stage c) := by
  unfold State.stage
  split
  · exact s.updCourse_keeps (fun h => nomatch h)
  · exact .refl s

theorem State.call_keeps (c : CourseId) (s : State) : Keeps s (s.call c) := by
  unfold State.call
  split
  iterate 3 exact (s.stage_keeps c).trans (State.autoFire_keeps _ _)
  all_goals exact (s.updService_keeps _).trans (State.setCondition_keeps _ _)

theorem State.callCurrent_keeps (s : State) : Keeps s s.callCurrent := by
  unfold State.callCurrent
  split
  · exact s.call_keeps _
  · exact .refl s

theorem State.applyList_keeps (l : CourseList) (s : State) : Keeps s (s.applyList l) :=
  ((s.updService_keeps _).trans (Keeps.foldl (fun t c => t.stage_keeps c) _ _)).trans (State.callCurrent_keeps _)

theorem State.resolveStall_keeps (c : CourseId) (s : State) : Keeps s (s.resolveStall c) := by
  have stages := s.updCourse_keeps (c := c) (f := fun x => { x with state := .staged }) (fun h => nomatch h)
  unfold State.resolveStall
  split
  · exact (stages.trans (State.updService_keeps _ _)).trans (State.autoFire_keeps _ _)
  · exact .refl s

theorem State.clearIfDone_keeps (c : CourseId) (s : State) : Keeps s (s.clearIfDone c) := by
  have clears := s.updCourse_keeps (c := c) (f := fun x => { x with state := .cleared }) (fun h => nomatch h)
  unfold State.clearIfDone
  split
  · exact (clears.trans (State.setCondition_keeps _ _)).trans (State.resolveStall_keeps _ _)
  · exact .refl s

theorem State.boundary_keeps (s : State) : Keeps s s.boundary := by
  unfold State.boundary
  split
  · exact (s.updService_keeps _).trans (State.applyList_keeps _ _)
  · split
    · exact (s.updService_keeps _).trans (State.callCurrent_keeps _)
    · split
      · exact (s.updService_keeps _).trans (State.callCurrent_keeps _)
      · exact (s.updService_keeps _).trans (State.setCondition_keeps _ _)

theorem State.passAll_keeps (passing : List CourseId) (s : State) : Keeps s (s.passAll passing) := by
  have pass (t : State) (c : CourseId) : Keeps t (t.pass c) := t.updCourse_keeps (fun h => nomatch h)
  have passed := (Keeps.foldl pass passing s).trans (Keeps.foldl (fun t c => t.clearIfDone_keeps c) passing _)
  unfold State.passAll
  simp only
  split
  · exact passed.trans (State.boundary_keeps _)
  · exact passed

theorem State.courseTick_keeps (s : State) : Keeps s s.courseTick := by
  have counts (t : State) (c : CourseId) : Keeps t (t.countDown c) := State.updCourse_keeps_state rfl
  exact ((Keeps.foldl counts _ s).trans (State.release_keeps _ _)).trans (State.passAll_keeps _ _)

theorem State.lowerTimers_keeps (s : State) : Keeps s s.lowerTimers :=
  Keeps.foldl (fun t st => t.lowerTimer_keeps st) _ _

theorem State.tick_keeps (order : TickOrder) (s : State) : Keeps s (s.tick order) := by
  have takers (t : State) : Keeps t (t.takersTick order) := by
    cases order
    · exact t.courseTick_keeps.trans (State.lowerTimers_keeps _)
    · exact t.lowerTimers_keeps.trans (State.courseTick_keeps _)
  have taken : Keeps s { s with ticksDue := s.ticksDue - 1 } := SameLawful.keeps (by constructor <;> rfl)
  unfold State.tick
  split
  · exact .refl s
  · simp only
    split
    · exact taken.trans (takers _)
    · exact taken

theorem State.fireCommand_keeps (c n : Nat) (s : State) : Keeps s (s.fireCommand c n).2 := by
  unfold State.fireCommand
  split
  · exact .refl s
  · split
    · exact .refl s
    · split
      · exact .refl s
      · rename_i room
        exact State.fireCourse_keeps _ n (not_le.1 room)

theorem State.holdCommand_keeps (c : Nat) (s : State) : Keeps s (s.holdCommand c).2 := by
  unfold State.holdCommand
  split
  · exact .refl s
  · split
    · exact .refl s
    · rename_i fired
      refine s.updCourse_keeps (f := fun x => { x with state := .held }) fun _ => ?_
      unfold Course.live
      rw [not_not.1 fired]; rfl

theorem State.resumeCommand_keeps (c : Nat) (s : State) : Keeps s (s.resumeCommand c).2 := by
  unfold State.resumeCommand
  split
  · exact .refl s
  · split
    · exact .refl s
    · rename_i held
      refine s.updCourse_keeps (f := fun x => { x with state := .fired }) fun _ => ?_
      unfold Course.live
      rw [not_not.1 held]; rfl

theorem State.serviceCommand_keeps (count cycle : Nat) (cs : List Nat) (s : State) :
    Keeps s (s.serviceCommand count cycle cs).2 := by
  unfold State.serviceCommand
  split
  · exact .refl s
  · split
    · exact .refl s
    · split
      · exact .refl s
      · unfold State.serviceList
        split
        · exact s.applyList_keeps _
        · exact s.applyList_keeps _
        all_goals exact s.updService_keeps (fun v => { v with pending := some _ })

-- ## Tickets

theorem State.admitTicket_keeps (t : Ticket) (e : Nat) (bs : List Batch) (s : State) :
    Keeps s (s.admitTicket t e bs) :=
  (s.tables_keep fun ⟨tickets, pool⟩ =>
    ⟨Table.wfFrom_put (Nat.zero_le _) _ tickets, putBatches_wf _ pool⟩).trans (State.updCourse_keeps_state rfl)

theorem State.replaceBatches_keeps (t : Ticket) (e : Nat) (bs : List Batch) (s : State) :
    Keeps s (s.replaceBatches t e bs) := by
  unfold State.replaceBatches
  exact (s.tables_keep fun ⟨tickets, pool⟩ =>
    ⟨Table.wfFrom_put (Nat.zero_le _) _ tickets, putBatches_wf _ (eraseBatches_wf _ pool)⟩).trans
    (State.updCourse_keeps_state rfl)

theorem State.releaseNew_keeps (c : CourseId) (rs : List Nat) (s : State) : Keeps s (s.releaseNew c rs) := by
  unfold State.releaseNew
  split
  iterate 3 exact s.release_keeps _
  all_goals exact .refl s

theorem State.postCommit_keeps (t : Ticket) (d : DishRecord) (s : State) : Keeps s (s.postCommit t d).2 := by
  unfold State.postCommit
  split
  · exact s.unlock_keeps _
  · split
    · exact s.unlock_keeps _
    · split
      · exact s.unlock_keeps _
      · exact (s.admitTicket_keeps _ _ _).trans (State.releaseNew_keeps _ _ _)

theorem State.amendCommit_keeps (line : Nat) (f : AmendField) (v : Nat) (d : DishRecord) (s : State) :
    Keeps s (s.amendCommit line f v d).2 := by
  unfold State.amendCommit
  split
  · exact .refl s
  · split
    · exact .refl s
    · split
      · exact .refl s
      · split
        · exact .refl s
        · exact (s.replaceBatches_keeps _ _ _).trans (State.releaseNew_keeps _ _ _)

-- ## The Dish Cache

/-- A list without a dish holds no dish twice when the list held none twice. -/
theorem withoutDish_nodup (dish : Nat) {l : List CacheEntry} (h : (l.map (fun e => e.dish)).Nodup) :
    ((withoutDish dish l).map (fun e => e.dish)).Nodup := h.sublist (List.filter_sublist.map _)

theorem cons_withoutDish_nodup (dish : Nat) (d : DishRecord) {l : List CacheEntry}
    (h : (l.map (fun e => e.dish)).Nodup) :
    ((({ dish := dish, record := d } : CacheEntry) :: withoutDish dish l).map (fun e => e.dish)).Nodup := by
  rw [List.map_cons, List.nodup_cons]
  refine ⟨?_, withoutDish_nodup dish h⟩
  simp [withoutDish]

/-- A dish that is cached leaves a shorter list. -/
theorem withoutDish_length {dish : Nat} {d : DishRecord} {l : List CacheEntry} (h : cached? dish l = some d) :
    (withoutDish dish l).length < l.length := by
  unfold cached? at h
  split at h
  · rename_i e found
    unfold withoutDish
    refine lt_of_le_of_ne (List.length_filter_le _ _) fun all => ?_
    have out := List.length_filter_eq_length_iff.1 all e (List.mem_of_find?_eq_some found)
    have same := List.find?_some found
    simp_all
  · exact nomatch h

theorem State.touchDish_keeps {dish : Nat} {d : DishRecord} {s : State} (h : cached? dish s.cache = some d) :
    Keeps s (s.touchDish dish d) :=
  s.cache_keeps fun ⟨few, distinct⟩ =>
    ⟨(Nat.succ_le_of_lt (withoutDish_length h)).trans few, cons_withoutDish_nodup dish d distinct⟩

theorem State.insertRecord_keeps (dish : Nat) (d : DishRecord) (s : State) : Keeps s (s.insertRecord dish d) :=
  s.cache_keeps fun ⟨_, distinct⟩ =>
    ⟨List.length_take_le _ _, (cons_withoutDish_nodup dish d distinct).sublist ((List.take_sublist _ _).map _)⟩

theorem State.emptyCache_keeps (s : State) : Keeps s { s with cache := [] } :=
  s.cache_keeps fun _ => ⟨Nat.zero_le _, List.nodup_nil⟩

theorem State.flushCommand_keeps (k : FlushKind) (target : Nat) (s : State) : Keeps s (s.flushCommand k target).2 := by
  unfold State.flushCommand
  split
  · exact s.emptyCache_keeps
  · split
    · exact .refl s
    · exact s.cache_keeps fun ⟨few, distinct⟩ =>
        ⟨(List.length_filter_le _ _).trans few, withoutDish_nodup target distinct⟩
  · split
    · exact .refl s
    · exact s.emptyCache_keeps

-- ## POST and AMEND

theorem State.lineReturned_keeps (line : Nat) (bs : List Byte) (s : State) : Keeps s (s.lineReturned line bs).2 := by
  unfold State.lineReturned
  split
  · exact s.unlock_keeps _
  · unfold State.postLookup
    split
    · rename_i found
      exact (State.touchDish_keeps found).trans (State.postCommit_keeps _ _ _)
    · exact s.issue_keeps _

theorem State.postCommand_keeps (line : Nat) (s : State) : Keeps s (s.postCommand line).2 := by
  unfold State.postCommand
  split
  · exact .refl s
  · split
    · exact .refl s
    · split
      · exact .refl s
      · exact (s.lock_keeps _).trans (State.issue_keeps _ _)

theorem State.rushBatch_keeps (v : Bool) (r : Nat) (s : State) : Keeps s (s.rushBatch v r) := by
  unfold State.rushBatch
  split
  · split
    · exact s.updBatch_keeps _ _
    · refine ((s.updBatch_keeps _ _).trans (State.updStation_keeps_slots _ ?_ ?_)).trans (State.checkShow_keeps _ _) <;>
        (unfold Station.join; split <;> rfl)
    all_goals exact .refl s
  · exact .refl s

theorem State.retargetBatch_keeps (st : StationId) (r : Nat) (s : State) : Keeps s (s.retargetBatch st r) := by
  unfold State.retargetBatch
  split
  · split
    · exact .refl s
    · split
      · exact s.updBatch_keeps _ _
      · exact ((s.updStation_keeps_slots rfl rfl).trans (State.updBatch_keeps _ _ _)).trans
          (State.enterStation_keeps _ _ _)
      all_goals exact .refl s
  · exact .refl s

theorem State.amendResplit_keeps (line : Nat) (t : Ticket) (f : AmendField) (v : Nat) (s : State) :
    Keeps s (s.amendResplit line t f v).2 := by
  unfold State.amendResplit
  split
  · exact .refl s
  · split
    · rename_i found
      exact (State.touchDish_keeps found).trans (State.amendCommit_keeps _ _ _ _ _)
    · exact s.issue_keeps _

theorem State.amendCommand_keeps (f : AmendField) (line v : Nat) (s : State) :
    Keeps s (s.amendCommand f line v).2 := by
  unfold State.amendCommand
  split
  · exact .refl s
  · split
    · exact .refl s
    · split
      · exact .refl s
      · split
        · exact .refl s
        · cases f with
          | rush => exact (s.updTicket_keeps _ _).trans (Keeps.foldl (fun t r => t.rushBatch_keeps _ r) _ _)
          | station => exact (s.updTicket_keeps _ _).trans (Keeps.foldl (fun t r => t.retargetBatch_keeps _ r) _ _)
          | portions | special | tags | lead | wave => exact s.amendResplit_keeps _ _ _ _

-- ## Finishing and VOID

theorem State.freeEntry_keeps (e : Nat) (t : Ticket) (s : State) : Keeps s (s.freeEntry e t) := by
  have logged := s.writeAnchor_keeps .finishedLog (offFinished s.logIndex) (finishedBytes t (s.outcome t))
  have freed := State.tables_keep (s.writeAnchor .finishedLog (offFinished s.logIndex) (finishedBytes t (s.outcome t)))
    (tickets := Table.erase e s.tickets) (pool := eraseBatches t.batches s.pool)
    fun ⟨tickets, pool⟩ => ⟨Table.wfFrom_erase e tickets, eraseBatches_wf t.batches pool⟩
  exact (logged.trans freed).trans (SameLawful.keeps (by constructor <;> rfl))

theorem State.finishBatch_keeps (r : Nat) (st : BatchState) (s : State) : Keeps s (s.finishBatch r st) := by
  have counts (t : State) (e : Nat) (c : CourseId) : Keeps t (t.countFinish e c) :=
    (t.updTicket_keeps _ _).trans (State.updCourse_keeps_state rfl)
  unfold State.finishBatch
  split
  · exact .refl s
  · split
    · exact .refl s
    · have finished (e : Nat) (c : CourseId) :=
        (s.updBatch_keeps r (fun x => { x with state := st })).trans (counts _ e c)
      simp only
      refine Keeps.trans ?_ (State.clearIfDone_keeps _ _)
      split
      · exact (finished _ _).trans (State.freeEntry_keeps _ _ _)
      · exact finished _ _

theorem State.voidShown_keeps (r : Nat) (st : StationId) (k : SlotId) (s : State) : Keeps s (s.voidShown r st k) :=
  ((((s.vacate_keeps st k).trans (State.clearBump_keeps _ _ _)).trans (State.departTimer_keeps _ _)).trans
    (State.finishBatch_keeps _ _ _)).trans (State.checkShow_keeps _ _)

theorem State.voidBatch_keeps (r : Nat) (s : State) : Keeps s (s.voidBatch r) := by
  unfold State.voidBatch
  split
  · exact .refl s
  · split
    · exact s.finishBatch_keeps _ _
    · exact (s.updStation_keeps_slots rfl rfl).trans (State.finishBatch_keeps _ _ _)
    · exact (s.updStation_keeps_slots
        (f := fun x => { x with stranded := x.stranded.filter (fun q => q != r) }) rfl rfl).trans
        (State.finishBatch_keeps _ _ _)
    · exact s.voidShown_keeps _ _ _
    · exact s.updBatch_keeps _ _
    all_goals exact .refl s

theorem State.voidCommand_keeps (line : Nat) (s : State) : Keeps s (s.voidCommand line).2 := by
  unfold State.voidCommand
  split
  · exact .refl s
  · split
    · exact .refl s
    · split
      · exact .refl s
      · exact (s.updTicket_keeps _ _).trans (Keeps.foldl (fun t r => t.voidBatch_keeps r) _ _)

-- ## Bumps

theorem State.doneBump_keeps (st : StationId) (k : SlotId) (r : Nat) (b : Batch) (s : State) :
    Keeps s (s.doneBump st k r b) := by
  unfold State.doneBump
  simp only
  refine ((Keeps.trans ?_ (State.vacate_keeps _ _ _)).trans (State.finishBatch_keeps _ _ _)).trans
    (State.checkShow_keeps _ _)
  split
  · exact s.acknowledge_keeps _ _ _
  · exact .refl s

theorem State.rejectBump_keeps (st : StationId) (k : SlotId) (r : Nat) (b : Batch) (s : State) :
    Keeps s (s.rejectBump st k r b) := by
  have places (t : State) : Keeps t (t.placeRejected st r b) := by
    unfold State.placeRejected
    split
    · exact t.finishBatch_keeps _ _
    · split
      · exact t.moveTo_keeps _ _
      · exact t.strand_keeps _ _ _
  unfold State.rejectBump
  simp only
  refine (Keeps.trans ?_ (places _)).trans (State.checkShow_keeps _ _)
  split
  · exact (s.vacate_keeps st k).trans (State.departTimer_keeps _ _)
  · exact s.vacate_keeps st k

theorem State.bumpEffect_keeps (p : WindowPlace) (code r : Nat) (b : Batch) (s : State) :
    Keeps s (s.bumpEffect p code r b) := by
  unfold State.bumpEffect
  split
  · exact s.doneBump_keeps _ _ _ _
  · split
    · exact s.rejectBump_keeps _ _ _ _
    · exact .refl s

-- ## Completion

/-- The head of the ring after a completion is a place of the ring. -/
theorem State.advanceHead_keeps (s : State) : Keeps s s.advanceHead := by
  refine s.setup_keeps (by constructor <;> rfl) ?_
  rintro ⟨unset, reading, sound⟩
  refine ⟨fun none => ?_, reading, fun u hu => ?_⟩
  · have count : s.ringCount = 0 := by unfold State.ringCount; rw [show s.setup = .none from none]
    exact if_neg (by rw [count]; omega)
  · have count : s.ringCount = u.ringCount := by unfold State.ringCount; rw [show s.setup = some u from hu]
    obtain ⟨head, fields⟩ := sound u hu
    refine ⟨?_, fields⟩
    change s.nextHead < u.ringCount
    unfold State.nextHead
    rw [count]
    split <;> omega

theorem State.tryFetch_keeps (s : State) : Keeps s s.tryFetch := by
  unfold State.tryFetch
  split
  · exact (s.issue_keeps _).trans (SameLawful.keeps (by constructor <;> rfl))
  · exact .refl s

theorem State.complete_keeps (notify : Bool) (status : Status) (result : Nat) (s : State) :
    Keeps s (s.complete notify status result) := by
  have notes (t : State) : Keeps t (t.notifyIf notify) := by
    unfold State.notifyIf
    split
    · exact t.setCondition_keeps _
    · exact .refl t
  have status : Keeps s (s.writeStatus status result) := s.flushTables_keeps.trans (State.issue_keeps _ _)
  exact (((status.trans (State.advanceHead_keeps _)).trans (State.writeAnchor_keeps _ _ _ _)).trans (notes _)).trans
    (State.tryFetch_keeps _)

theorem State.finishCommand_keeps (notify : Bool) (e : CommandEnd × State) :
    Keeps e.2 (State.finishCommand notify e) := by
  unfold State.finishCommand
  split
  · exact State.complete_keeps _ _ _ _
  · exact SameLawful.keeps (by constructor <;> rfl)

theorem State.lineFetched_keeps (a : Answer) (m : MemRequest) (bs : List Byte) (s : State) :
    Keeps s (s.lineFetched a m bs) := by
  unfold State.lineFetched
  split
  · split
    · split
      · exact .refl s
      · exact (s.lineReturned_keeps _ _).trans (State.finishCommand_keeps _ _)
    · simp only
      split
      · exact s.recordFault_keeps _
      · exact ((s.recordFault_keeps _).trans (State.unlock_keeps _ _)).trans
          (State.finishCommand_keeps _ (CommandEnd.ended .memoryError 0, _))
  · exact .refl s

theorem State.fillReturned_keeps {s : State} (notify : Bool) (dish : Nat) (bs : List Byte) {fail : State → State}
    {commit : DishRecord → State → CommandEnd × State} (hf : ∀ t, Keeps t (fail t))
    (hc : ∀ d t, Keeps t (commit d t).2) : Keeps s (s.fillReturned notify dish bs fail commit) := by
  unfold State.fillReturned
  split
  · split
    · exact .refl s
    · exact (hf s).trans (State.finishCommand_keeps _ (CommandEnd.ended .badDish _, _))
  · simp only
    split
    · exact s.insertRecord_keeps _ _
    · exact ((s.insertRecord_keeps _ _).trans (hc _ _)).trans (State.finishCommand_keeps _ _)

theorem State.fillFailed_keeps {s : State} (notify : Bool) (f : FaultReport) {fail : State → State}
    (hf : ∀ t, Keeps t (fail t)) : Keeps s (s.fillFailed notify f fail) := by
  unfold State.fillFailed
  simp only
  split
  · exact s.recordFault_keeps _
  · exact ((s.recordFault_keeps _).trans (hf _)).trans
      (State.finishCommand_keeps _ (CommandEnd.ended .memoryError 0, _))

theorem State.dishFilled_keeps (a : Answer) (m : MemRequest) (bs : List Byte) (s : State) :
    Keeps s (s.dishFilled a m bs) := by
  unfold State.dishFilled
  split
  · split
    · exact State.fillReturned_keeps _ _ _ (State.unlock_keeps _) (fun _ t => t.postCommit_keeps _ _)
    · exact State.fillFailed_keeps _ _ (State.unlock_keeps _)
  · split
    · exact State.fillReturned_keeps _ _ _ Keeps.refl (fun _ t => t.amendCommit_keeps _ _ _ _)
    · exact State.fillFailed_keeps _ _ Keeps.refl
  · exact .refl s

end Sys2Proof.Machine

/-! SUPPORT. O54 to O59, O1 and O2: the laws of the part along start-up, the front port and every command, and so along
every step. -/

namespace Sys2Proof.Machine

-- ## Reset of the tables

theorem freshCourses_live {s : State} (h : s.courses = Vector.replicate 16 (Course.fresh unplannedCourse)) :
    s.FourLive := by
  unfold State.FourLive State.liveCount
  rw [h]
  decide

theorem Station.fresh_even (p : StationPlan) : (Station.fresh p).tokens = (Station.fresh p).occupied := by
  have empty : ∀ k : SlotId, ((Station.fresh p).slots[k]).isSome = false := by simp [Station.fresh]
  unfold Station.occupied
  rw [List.countP_eq_zero.2 fun k _ => by rw [empty k]; exact Bool.false_ne_true]
  rfl

theorem freshStations_even {s : State} (h : s.stations = Vector.replicate 32 (Station.fresh resetStationPlan)) :
    s.TokensAreSlots := by
  intro st
  rw [h, Fin.getElem_fin, Vector.getElem_replicate]
  exact Station.fresh_even _

theorem State.resetTables_keeps (s : State) : Keeps s s.resetTables where
  pending := rfl
  dram := id
  tables := fun _ => ⟨rfl, rfl⟩
  live := fun _ => freshCourses_live rfl
  setup := fun _ => ⟨fun _ => rfl, fun _ => rfl, fun _ h => nomatch h⟩
  tokens := fun _ => freshStations_even rfl
  lines := id
  names := id
  lists := id
  cache := fun _ => ⟨Nat.zero_le _, List.nodup_nil⟩
  faults := by
    intro _ i j x y hi
    simp [State.resetTables] at hi

/-- Start-up begins with no setup in force. -/
theorem State.enterStart_keeps {s : State} (h : s.setup = none) : Keeps s s.enterStart := by
  refine (State.enqueueAll_keeps (startUpRequests s.straps) s).trans (State.setup_keeps _ (by constructor <;> rfl) ?_)
  rintro ⟨unset, _, _⟩
  exact ⟨unset, fun _ => h, fun u hu => nomatch h.symm.trans hu⟩

/-- The port is replaced by one that keeps its two laws. -/
theorem State.port_keeps {s : State} {p : MemPort} (lines : DistinctLines s.port.issued → DistinctLines p.issued)
    (names : s.port.Named → p.Named) : Keeps s { s with port := p } where
  pending := rfl
  dram := id
  tables := id
  live := id
  setup := id
  tokens := id
  lines := lines
  names := names
  lists := id
  cache := id
  faults := id

theorem State.restart_keeps (s : State) : Keeps s s.restart :=
  (s.resetTables_keeps.trans (State.port_keeps (p := s.port.restarted) s.port.restarted_lines
    MemPort.Named.restarted)).trans (State.enterStart_keeps rfl)

theorem State.rstFall_keeps (s : State) : Keeps s s.rstFall := by
  have dropped := (s.resetTables_keeps.trans (State.port_keeps (p := s.port.fallen) (fun _ => s.port.fallen_lines)
    MemPort.Named.fallen)).trans (State.flights_keep _ (flights := Vector.replicate 64 []) fun _ tag => by simp)
  exact dropped.trans (SameLawful.keeps (by constructor <;> rfl))

theorem State.rstRise_keeps (straps : BitVec 8) (s : State) : Keeps s (s.rstRise straps) := by
  have strapped : Keeps s.resetTables { s.resetTables with rstLow := false, straps := straps } :=
    ⟨rfl, id, id, id, fun _ => ⟨fun _ => rfl, fun _ => rfl, fun _ h => nomatch h⟩, id, id, id, id, id, id⟩
  exact (s.resetTables_keeps.trans strapped).trans (State.enterStart_keeps rfl)

-- ## Plans and the setup

/-- The loader goes on to something else than a setup read. -/
theorem State.loader_keeps {s : State} {l : Loader} (h : l ≠ .setupLow ∧ ∀ low, l ≠ .setupHigh low) :
    Keeps s { s with loader := l } := by
  refine State.setup_keeps _ (by constructor <;> rfl) ?_
  rintro ⟨unset, _, sound⟩
  exact ⟨unset, fun reads => (reads.elim h.1 fun ⟨low, e⟩ => h.2 low e).elim, sound⟩

theorem State.enterIdle_keeps (s : State) : Keeps s s.enterIdle where
  pending := rfl
  dram := id
  tables := id
  live := fun _ => freshCourses_live rfl
  setup := (State.loader_keeps (l := .idle) ⟨nofun, nofun⟩ : Keeps s _).setup
  tokens := fun _ => freshStations_even rfl
  lines := id
  names := id
  lists := id
  cache := fun _ => ⟨Nat.zero_le _, List.nodup_nil⟩
  faults := id

theorem State.endLoad_keeps (o : PlanOrigin) (status : Status) (s : State) : Keeps s (s.endLoad o status) := by
  cases o
  · exact .refl s
  · exact s.complete_keeps _ _ _

theorem State.idleLoader_keeps (s : State) : Keeps s { s with loader := .idle } := State.loader_keeps ⟨nofun, nofun⟩

theorem State.planInForce_keeps (o : PlanOrigin) (s : State) : Keeps s (s.planInForce o) :=
  (s.idleLoader_keeps.trans (SameLawful.keeps (by constructor <;> rfl))).trans (State.endLoad_keeps _ _ _)

theorem State.readPlanLine_keeps (l : PlanLoad) (s : State) : Keeps s (s.readPlanLine l) :=
  (State.loader_keeps (l := .planning l) ⟨nofun, nofun⟩).trans (State.issue_keeps _ _)

theorem State.loadFailed_keeps (l : PlanLoad) (s : State) : Keeps s (s.loadFailed l) := by
  have recorded := s.recordFault_keeps { reason := .ownReadFailed, source := 63, sub := 2, addr := l.lineAddr }
  unfold State.loadFailed
  simp only
  split
  · exact recorded
  · split
    · exact (recorded.trans (State.enterIdle_keeps _)).trans (State.endLoad_keeps _ _ _)
    · exact (recorded.trans (State.idleLoader_keeps _)).trans (State.endLoad_keeps _ _ _)

theorem State.loadInvalid_keeps (o : PlanOrigin) (f : PlanFailure) (addr : Nat) (s : State) :
    Keeps s (s.loadInvalid o f addr) := by
  unfold State.loadInvalid
  split
  · exact (s.recordFault_keeps _).trans (State.enterIdle_keeps _)
  · exact s.idleLoader_keeps.trans (State.endLoad_keeps _ _ _)

theorem State.putPlanLine_keeps (l : PlanLoad) (bs : List Byte) (s : State) : Keeps s (s.putPlanLine l bs) := by
  have course (t : State) (j : Nat) : Keeps t (loadCourse l.header l.line bs t j) :=
    t.updCourse_keeps (fun h => nomatch h)
  have station (t : State) (j : Nat) : Keeps t (loadStation l.line bs t j) :=
    t.updStation_keeps (fun _ => Station.fresh_even _)
  unfold State.putPlanLine
  split
  · exact s.emptyCache_keeps.trans (SameLawful.keeps (by constructor <;> rfl))
  · split
    · exact Keeps.foldl course _ _
    · exact Keeps.foldl station _ _

theorem State.lineLoaded_keeps (l : PlanLoad) (bs : List Byte) (s : State) : Keeps s (s.lineLoaded l bs) := by
  unfold State.lineLoaded
  split
  · split
    · exact s.readPlanLine_keeps _
    · exact s.readPlanLine_keeps _
  · split
    · exact (s.putPlanLine_keeps _ _).trans (State.readPlanLine_keeps _ _)
    · exact (s.putPlanLine_keeps _ _).trans (State.planInForce_keeps _ _)

theorem State.planLineReturned_keeps (a : Answer) (m : MemRequest) (bs : List Byte) (s : State) :
    Keeps s (s.planLineReturned a m bs) := by
  unfold State.planLineReturned
  split
  · split
    · split
      · exact .refl s
      · unfold State.lineChecked
        split
        · split
          · exact s.loadInvalid_keeps _ _ _
          · exact s.loadFailed_keeps _
        · exact s.lineLoaded_keeps _ _
    · split
      · exact s.recordFault_keeps _
      · exact s.loadFailed_keeps _
  · exact .refl s

theorem State.planCommand_keeps (addr : Nat) (s : State) : Keeps s (s.planCommand addr).2 := by
  unfold State.planCommand
  split
  · exact .refl s
  · split
    · exact .refl s
    · split
      · exact .refl s
      · exact s.readPlanLine_keeps _

theorem State.enterTransparent_keeps (s : State) : Keeps s s.enterTransparent :=
  s.idleLoader_keeps.trans (SameLawful.keeps (by constructor <;> rfl))

/-- A setup that passes its check comes into force while none is, with the head at 0. -/
theorem State.SetupSound.of_check {s t : State} {bs : List Byte} {u : Setup} {low : List Byte} (sound : s.SetupSound)
    (reading : s.loader = .setupHigh low) (passes : setupCheck s.straps bs u = none) (straps : t.straps = s.straps)
    (setup : t.setup = some u) (head : t.intake.head = s.intake.head)
    (loader : t.loader ≠ .setupLow ∧ ∀ low, t.loader ≠ .setupHigh low) : t.SetupSound := by
  obtain ⟨unset, reads, _⟩ := sound
  have zero : t.intake.head = 0 := head.trans (unset (reads (.inr ⟨low, reading⟩)))
  refine ⟨fun none => (nomatch setup.symm.trans none), fun h => (h.elim loader.1 fun ⟨l, e⟩ => loader.2 l e).elim, ?_⟩
  intro v hv
  obtain rfl : u = v := Option.some.inj (setup.symm.trans hv)
  rw [zero, straps]
  exact ⟨Nat.two_pow_pos _, setupCheck_none passes⟩

theorem State.putSetup_keeps {s : State} {bs low : List Byte} {u : Setup} (reading : s.loader = .setupHigh low)
    (passes : setupCheck s.straps bs u = none) : Keeps s (s.putSetup u) := by
  unfold State.putSetup
  simp only
  split
  · have recorded := State.recordFault_mild_work { reason := .planInvalid, source := 63, sub := 1, addr := u.planAddr }
      ({ s with setup := some u, tickPhase := 0 } : State) rfl
    exact { State.loadInvalid_keeps .startUp { check := 1, course := 0, station := 0 } u.planAddr
        ({ s with setup := some u, tickPhase := 0 } : State) with
      setup := fun sound => State.SetupSound.of_check sound reading passes recorded.straps recorded.setup
        (congrArg Intake.head recorded.intake) ⟨nofun, nofun⟩ }
  · exact { State.readPlanLine_keeps _ ({ s with setup := some u, tickPhase := 0 } : State) with
      setup := fun sound => State.SetupSound.of_check sound reading passes rfl rfl rfl ⟨nofun, nofun⟩ }

theorem State.setupReturned_keeps (a : Answer) (m : MemRequest) (bs : List Byte) (s : State) :
    Keeps s (s.setupReturned a m bs) := by
  have failed : Keeps s
      (s.recordFault { reason := .ownReadFailed, source := 63, sub := 1, addr := m.addr }).enterTransparent :=
    (s.recordFault_keeps _).trans (State.enterTransparent_keeps _)
  unfold State.setupReturned
  split
  · rename_i reading
    split
    · refine Keeps.trans (State.setup_keeps (t := { s with loader := .setupHigh bs }) _ (by constructor <;> rfl) ?_)
        (State.issue_keeps _ _)
      rintro ⟨unset, reads, sound⟩
      exact ⟨unset, fun _ => reads (.inl reading), sound⟩
    · exact failed
  · rename_i low reading
    split
    · unfold State.setupRead
      split
      · exact (s.recordFault_keeps _).trans (State.enterTransparent_keeps _)
      · rename_i passes
        exact State.putSetup_keeps reading passes
    · exact failed
  all_goals exact .refl s

-- ## The entries of the ring

theorem State.perform_keeps (c : Command) (s : State) : Keeps s (s.perform c).2 := by
  unfold State.perform
  split
  case h_2 => exact s.postCommand_keeps _
  case h_3 => exact s.amendCommand_keeps _ _ _
  case h_4 => unfold State.amendOtherCommand; split <;> [skip; split] <;> exact .refl s
  case h_5 => exact s.voidCommand_keeps _
  case h_6 => exact s.fireCommand_keeps _ _
  case h_7 => exact s.holdCommand_keeps _
  case h_8 => exact s.resumeCommand_keeps _
  case h_9 => exact s.serviceCommand_keeps _ _ _
  case h_10 => exact s.stationCommand_keeps _ _ _
  case h_12 => exact s.flushCommand_keeps _ _
  case h_14 => unfold State.fenceCommand; split <;> exact .refl s
  case h_15 => exact s.planCommand_keeps _
  all_goals exact .refl s

theorem State.takeCommand_keeps (notify : Bool) (c : Command) (s : State) : Keeps s (s.takeCommand notify c) := by
  have judged : Keeps s (s.judge c).2 := by
    unfold State.judge
    split
    · exact .refl s
    · split
      · exact .refl s
      · exact s.perform_keeps c
  exact judged.trans (State.finishCommand_keeps _ _)

theorem State.entryFetched_keeps (a : Answer) (m : MemRequest) (bs : List Byte) (s : State) :
    Keeps s (s.entryFetched a m bs) := by
  unfold State.entryFetched
  split
  · split
    · exact .refl s
    · exact s.takeCommand_keeps _ _
  · simp only
    split
    · exact s.recordFault_keeps _
    · exact (s.recordFault_keeps _).trans (State.complete_keeps _ _ _ _)

theorem State.ownWriteReturned_keeps (a : Answer) (m : MemRequest) (bs : List Byte) (s : State) :
    Keeps s (s.ownWriteReturned a m bs) := by
  have failed (t : State) : Keeps t (t.ownWriteFailed m) := by
    unfold State.ownWriteFailed
    split
    · split
      · exact t.recordFault_keeps _
      · exact .refl t
    all_goals exact .refl t
  have answered (t : State) : Keeps t (t.fenceAnswered m.id a.isOkay) := by
    unfold State.fenceAnswered
    split
    · split
      · simp only
        split
        · exact t.complete_keeps _ _ _
        · exact SameLawful.keeps (by constructor <;> rfl)
      · exact .refl t
    · exact .refl t
  unfold State.ownWriteReturned
  refine Keeps.trans ?_ (answered _)
  split
  · exact .refl s
  · exact failed s

-- ## The front port

theorem splitReturned_length (fs : List Flight) : (splitReturned fs).2.length ≤ fs.length := by
  induction fs with
  | nil => exact Nat.le_refl _
  | cons f fs ih =>
    unfold splitReturned
    split
    · exact ih.trans (Nat.le_succ _)
    · exact Nat.le_refl _

theorem State.respond_keeps (tag : Tag) (id : Nat) (r : Response) (s : State) : Keeps s (s.respond tag id r) := by
  refine (s.flights_keep (flights := s.flights.set tag (splitReturned (completeFlight id r s.flights[tag])).2)
    fun bounded x => ?_).trans (SameLawful.keeps (by constructor <;> rfl))
  rw [getElem_set_fin]
  split
  · exact (splitReturned_length _).trans (by unfold completeFlight; rw [List.length_map]; exact bounded tag)
  · exact bounded x

theorem State.joinList_keeps {s : State} {r : Request} (room : s.hasRoom r.tag = true) : Keeps s (s.joinList r) := by
  refine (s.flights_keep (flights := s.flights.set r.tag
    (s.flights[r.tag] ++ [{ id := s.arrivals, req := r, response := none }])) fun bounded x => ?_).trans
    (SameLawful.keeps (by constructor <;> rfl))
  rw [getElem_set_fin]
  split
  · rw [List.length_append]
    exact of_decide_eq_true room
  · exact bounded x

theorem State.takeClear_keeps (bs : List Byte) (s : State) : Keeps s (s.takeClear bs) := by
  have freed := Keeps.foldl (fun t i => t.freeRecord_keeps i) ((List.finRange 8).filter (fun i => bitOf bs 1 i.val)) s
  exact freed.trans (SameLawful.keeps (by constructor <;> rfl))

theorem State.latchWords_keeps (r : Request) (s : State) : Keeps s (s.latchWords r) := by
  have takesTail (v : Nat) (t : State) : Keeps t (t.takeTail v) := by
    have accepted : Keeps t (({ t with intake := { t.intake with tail := v } } : State).tryFetch) :=
      (SameLawful.keeps (by constructor <;> rfl)).trans (State.tryFetch_keeps _)
    unfold State.takeTail
    split
    · exact .refl t
    · exact SameLawful.keeps (by constructor <;> rfl)
    all_goals
      split
      · exact t.recordFault_keeps _
      · split
        · exact t.recordFault_keeps _
        · exact accepted
  have tail (t : State) : Keeps t (t.latchTail r) := by
    unfold State.latchTail
    split
    · exact Keeps.trans (SameLawful.keeps (by constructor <;> rfl)) (takesTail _ _)
    · exact .refl t
  have mask (t : State) : Keeps t (t.latchMask r) := by
    unfold State.latchMask
    split
    · exact SameLawful.keeps (by constructor <;> rfl)
    · exact .refl t
  have clear (t : State) : Keeps t (t.latchClear r) := by
    unfold State.latchClear
    split
    · exact Keeps.trans (SameLawful.keeps (by constructor <;> rfl)) (State.takeClear_keeps _ _)
    · exact .refl t
  have takesRestart (bs : List Byte) (t : State) : Keeps t (t.takeRestart bs) := by
    unfold State.takeRestart
    split
    · exact t.restart_keeps
    · exact .refl t
  have restart (t : State) : Keeps t (t.latchRestart r) := by
    unfold State.latchRestart
    split
    · exact Keeps.trans (SameLawful.keeps (by constructor <;> rfl)) (takesRestart _ _)
    · exact .refl t
  exact (((tail s).trans (mask _)).trans (clear _)).trans (restart _)

theorem State.translateRead_keeps (id : Nat) (tag : Tag) (len : Nat) (p : WindowPlace) (s : State) :
    Keeps s (s.translateRead id tag len p) := by
  have effect (t : State) : Keeps t (t.readEffect tag p) := by
    unfold State.readEffect
    split
    · exact t.linkRead_keeps _ _
    · exact .refl t
  have opens (x : Assembly) : Keeps s (s.openAssembly x) := by
    unfold State.openAssembly
    split
    · exact s.respond_keeps _ _ _
    · exact (State.enqueueAll_keeps x.reads s).trans (SameLawful.keeps (by constructor <;> rfl))
  unfold State.translateRead
  split
  · exact (s.respond_keeps _ _ _).trans (effect _)
  · exact (opens _).trans (effect _)

theorem State.refuse_keeps (id : Nat) (r : Request) (f : FaultReport) (s : State) : Keeps s (s.refuse id r f) :=
  (s.respond_keeps _ _ _).trans (State.recordFault_keeps _ _)

theorem State.translateBump_keeps (id : Nat) (r : Request) (p : WindowPlace) (s : State) :
    Keeps s (s.translateBump id r p) := by
  unfold State.translateBump
  split
  · exact s.refuse_keeps _ _ _
  · split
    · exact s.refuse_keeps _ _ _
    · split
      · exact s.refuse_keeps _ _ _
      · exact (s.issue_keeps _).trans (State.bumpEffect_keeps _ _ _ _ _)

theorem State.treat_keeps (id : Nat) (r : Request) (v : Verdict) (s : State) : Keeps s (s.treat id r v) := by
  unfold State.treat
  split
  · exact s.refuse_keeps _ _ _
  · exact s.issue_keeps _
  · exact (s.issue_keeps _).trans (State.latchWords_keeps _ _)
  · unfold State.translate
    split
    · exact s.translateRead_keeps _ _ _ _
    · exact s.translateBump_keeps _ _ _

theorem State.accept_keeps {s : State} {r : Request} (room : s.hasRoom r.tag = true) : Keeps s (s.accept r) :=
  (State.joinList_keeps room).trans (State.treat_keeps _ _ _ _)

theorem State.present_keeps (r : Request) (s : State) : Keeps s (s.present r) := by
  unfold State.present
  split
  · rename_i room
    exact State.accept_keeps room
  · exact SameLawful.keeps (by constructor <;> rfl)

theorem State.admitLoop_keeps (n : Nat) (s : State) : Keeps s (s.admitLoop n) := by
  induction n generalizing s with
  | zero => exact .refl s
  | succ n ih =>
    unfold State.admitLoop
    split
    · exact .refl s
    · rename_i r found
      have room : s.hasRoom r.tag = true := List.find?_some (p := fun q : Request => s.hasRoom q.tag) found
      have left : Keeps s { s with portWaiting := s.portWaiting.erase r } :=
        SameLawful.keeps (by constructor <;> rfl)
      exact (left.trans (State.event_keeps (State.accept_keeps room))).trans (ih _)

theorem State.memReturned_keeps (a : Answer) (m : MemRequest) (bs : List Byte) (s : State) :
    Keeps s (s.memReturned a m bs) := by
  unfold State.memReturned
  split
  · exact s.respond_keeps _ _ _
  · exact .refl s

theorem State.assemblyReturned_keeps (a : Answer) (m : MemRequest) (bs : List Byte) (s : State) :
    Keeps s (s.assemblyReturned a m bs) := by
  unfold State.assemblyReturned
  split
  · exact .refl s
  · simp only
    split
    · exact Keeps.trans (SameLawful.keeps (by constructor <;> rfl)) (State.respond_keeps _ _ _ _)
    · exact SameLawful.keeps (by constructor <;> rfl)

-- ## One command

/-- DRAM is replaced by one in canonical form. -/
theorem State.dram_keeps {s : State} {d : Memory} (h : s.DramCanonical → Memory.wf d = true) :
    Keeps s { s with dram := d } where
  pending := rfl
  dram := h
  tables := id
  live := id
  setup := id
  tokens := id
  lines := id
  names := id
  lists := id
  cache := id
  faults := id

theorem State.memAnswer_keeps {act : MemRequest → List Byte → State → State} (h : ∀ m bs s, Keeps s (act m bs s))
    (id : Nat) (a : Answer) (owns : Owner → Bool) (s : State) : Keeps s (s.memAnswer id a owns act) := by
  have served (m : MemRequest) (p : MemPort) : Keeps { s with port := p } { s with port := p, dram := serve m a s.dram } :=
    State.dram_keeps (serve_wf m a)
  unfold State.memAnswer
  split
  · rename_i m _
    have left : Keeps s { s with port := s.port.answered id } :=
      State.port_keeps (s.port.answered_lines id) (MemPort.Named.answered · id)
    simp only
    split
    · exact left.trans (served _ _)
    · exact (left.trans (served _ _)).trans (h _ _ _)
  · split
    · exact (State.port_keeps (p := { s.port with orphans := s.port.orphans.filter (fun x => x.id != id) })
        (fun h => h) (fun h => h)).trans (served _ _)
    · exact .refl s

theorem State.entryFetchStep_keeps (id : Nat) (a : Answer) (s : State) : Keeps s (s.entryFetchStep id a) :=
  s.run_keeps (State.memAnswer_keeps (State.entryFetched_keeps a) id a _)

theorem State.takeAs_keeps (notify : Bool) (c : Command) (s : State) : Keeps s (s.takeAs notify c) := by
  unfold State.takeAs
  split
  · split
    · exact s.entryFetchStep_keeps _ _
    · exact s.dropResponses_keeps
  · exact s.dropResponses_keeps

theorem State.requestStep_keeps (r : Request) (s : State) : Keeps s (s.requestStep r) :=
  s.runLive_keeps (State.present_keeps r)

/-- A tick, after the ticks that stations still owe. -/
theorem State.paidTick_keeps (s : State) (order : TickOrder) :
    Keeps s ((if s.rstLow || s.part != .ready || s.ticksDue == 0 then { s with responses := [] }
      else (List.finRange 32).foldl State.payTick { s with responses := [] }).event
      (fun t => if t.rstLow then t else t.tick order)) := by
  have ticks (t : State) : Keeps t (if t.rstLow then t else t.tick order) := by
    split
    · exact .refl t
    · exact t.tick_keeps order
  refine Keeps.trans ?_ (State.event_keeps (ticks _))
  split
  · exact s.dropResponses_keeps
  · exact s.dropResponses_keeps.trans (Keeps.foldl (fun t st => t.payTick_keeps st) _ _)

theorem State.trefPeriod_keeps (s : State) : Keeps s s.trefPeriod := by
  unfold State.trefPeriod
  simp only
  split
  · unfold State.divide
    split <;> exact SameLawful.keeps (by constructor <;> rfl)
  · exact SameLawful.keeps (by constructor <;> rfl)

/-- Every command keeps every law of the part and the queue of waiting commands. -/
theorem exec_keeps (c : Instr) (s : State) : ∃ t, exec c s = .next t ∧ Keeps s t := by
  cases c with
  | requestArrival | tailWord | noticeMask | clearWord | restartWord | windowRead | bumpWrite =>
    exact ⟨_, rfl, s.requestStep_keeps _⟩
  | forwardedResponse id a =>
    exact ⟨_, rfl, (s.run_keeps (State.memAnswer_keeps (State.memReturned_keeps a) id a _)).trans
      (State.admitLoop_keeps _ _)⟩
  | assemblyReadReturn id a =>
    exact ⟨_, rfl, (s.run_keeps (State.memAnswer_keeps (State.assemblyReturned_keeps a) id a _)).trans
      (State.admitLoop_keeps _ _)⟩
  | redirectedBumpDone id a =>
    exact ⟨_, rfl, (s.run_keeps (State.memAnswer_keeps (State.memReturned_keeps a) id a _)).trans
      (State.admitLoop_keeps _ _)⟩
  | entryFetchDone id a => exact ⟨_, rfl, s.entryFetchStep_keeps id a⟩
  | lineFetchDone id a => exact ⟨_, rfl, s.run_keeps (State.memAnswer_keeps (State.lineFetched_keeps a) id a _)⟩
  | dishFillDone id a => exact ⟨_, rfl, s.run_keeps (State.memAnswer_keeps (State.dishFilled_keeps a) id a _)⟩
  | planLineReadDone id a =>
    exact ⟨_, rfl, s.run_keeps (State.memAnswer_keeps (State.planLineReturned_keeps a) id a _)⟩
  | ownWriteDone id a => exact ⟨_, rfl, s.run_keeps (State.memAnswer_keeps (State.ownWriteReturned_keeps a) id a _)⟩
  | setupReadDone id a => exact ⟨_, rfl, s.run_keeps (State.memAnswer_keeps (State.setupReturned_keeps a) id a _)⟩
  | trefPeriod => exact ⟨_, rfl, s.runLive_keeps State.trefPeriod_keeps⟩
  | tick order => exact ⟨_, rfl, s.paidTick_keeps order⟩
  | ackTimerExpiry st => exact ⟨_, rfl, s.runLive_keeps (State.ackTimerExpiry_keeps st)⟩
  | rstFall => exact ⟨_, rfl, s.runLive_keeps State.rstFall_keeps⟩
  | rstRise straps =>
    refine ⟨_, rfl, s.run_keeps fun t => ?_⟩
    split
    · exact t.rstRise_keeps straps
    · exact .refl t
  | _ => exact ⟨_, rfl, s.takeAs_keeps _ _⟩

/-- Every law of the part holds after a step when it held before. -/
theorem step_keeps {s t : State} (h : step s = .next t) : Keeps { s with pending := t.pending } t := by
  unfold step at h
  split at h
  · cases h
    exact .refl s
  · rename_i c rest _
    obtain ⟨u, runs, kept⟩ := exec_keeps c { s with pending := rest }
    obtain rfl : u = t := by simpa using runs.symm.trans h
    rw [kept.pending]
    exact kept

-- ## The statements

/-- Settles O54. -/
theorem stepKeepsCanonicalForm : Obligations.StepKeepsCanonicalForm :=
  fun _ _ dram tables taken => ⟨(step_keeps taken).dram dram, (step_keeps taken).tables tables⟩

/-- Settles O55. -/
theorem stepKeepsFourLive : Obligations.StepKeepsFourLive := fun _ _ live taken => (step_keeps taken).live live

/-- Settles O56. -/
theorem stepKeepsSetupSound : Obligations.StepKeepsSetupSound := fun _ _ sound taken => (step_keeps taken).setup sound

/-- Settles O57. -/
theorem stepKeepsTokensAreSlots : Obligations.StepKeepsTokensAreSlots :=
  fun _ _ even taken => (step_keeps taken).tokens even

/-- Settles O58. -/
theorem stepKeepsOneRequestPerLine : Obligations.StepKeepsOneRequestPerLine :=
  fun _ _ lines names taken => ⟨(step_keeps taken).lines lines, (step_keeps taken).names names⟩

/-- Settles O59: each of the three laws by itself. -/
theorem stepKeepsTablesBounded : Obligations.StepKeepsTablesBounded :=
  ⟨fun _ _ lists taken => (step_keeps taken).lists lists, fun _ _ cache taken => (step_keeps taken).cache cache,
    fun _ _ faults taken => (step_keeps taken).faults faults⟩

/-- Settles O2. -/
theorem commandsKeepTheQueue : Obligations.CommandsKeepTheQueue := fun c s =>
  let ⟨t, runs, kept⟩ := exec_keeps c s
  ⟨t, runs, kept.pending⟩

/-- Settles O1, by the two branches of `step`. -/
theorem stepRunsTheFrontCommand : Obligations.StepRunsTheFrontCommand :=
  fun s => ⟨fun c rest front => by unfold step; rw [front], fun empty => by unfold step; rw [empty]⟩

end Sys2Proof.Machine

/-! SUPPORT. O3, O4 and O47: what the end of an event leaves, the requests that start-up enters, the tables after RST, and
the tick divider. -/

namespace Sys2Proof.Machine

-- ## The end of an event

/-- The end of an event reports and changes nothing else. -/
theorem State.closeEvent_reported (s : State) : ReportedFrom s s.closeEvent := by
  unfold ReportedFrom
  rw [State.closeEvent_only]

/-- The notice word that the end of an event leaves is that of the shown conditions (R170). -/
theorem State.closeEvent_noticeShown (s : State) : s.closeEvent.noticeShown = s.shown := by rw [State.closeEvent_only]

section CloseEvent
variable (s : State)

@[simp] theorem State.closeEvent_part : s.closeEvent.part = s.part := by rw [State.closeEvent_only]
@[simp] theorem State.closeEvent_rstLow : s.closeEvent.rstLow = s.rstLow := by rw [State.closeEvent_only]
@[simp] theorem State.closeEvent_straps : s.closeEvent.straps = s.straps := by rw [State.closeEvent_only]
@[simp] theorem State.closeEvent_setup : s.closeEvent.setup = s.setup := by rw [State.closeEvent_only]
@[simp] theorem State.closeEvent_plan : s.closeEvent.plan = s.plan := by rw [State.closeEvent_only]
@[simp] theorem State.closeEvent_loader : s.closeEvent.loader = s.loader := by rw [State.closeEvent_only]
@[simp] theorem State.closeEvent_latched : s.closeEvent.latched = s.latched := by rw [State.closeEvent_only]
@[simp] theorem State.closeEvent_faults : s.closeEvent.faults = s.faults := by rw [State.closeEvent_only]
@[simp] theorem State.closeEvent_overflow : s.closeEvent.overflow = s.overflow := by rw [State.closeEvent_only]
@[simp] theorem State.closeEvent_conditions : s.closeEvent.conditions = s.conditions := by rw [State.closeEvent_only]
@[simp] theorem State.closeEvent_flights : s.closeEvent.flights = s.flights := by rw [State.closeEvent_only]
@[simp] theorem State.closeEvent_portWaiting : s.closeEvent.portWaiting = s.portWaiting := by rw [State.closeEvent_only]
@[simp] theorem State.closeEvent_responses : s.closeEvent.responses = s.responses := by rw [State.closeEvent_only]
@[simp] theorem State.closeEvent_arrivals : s.closeEvent.arrivals = s.arrivals := by rw [State.closeEvent_only]
@[simp] theorem State.closeEvent_assemblies : s.closeEvent.assemblies = s.assemblies := by rw [State.closeEvent_only]
@[simp] theorem State.closeEvent_dram : s.closeEvent.dram = s.dram := by rw [State.closeEvent_only]
@[simp] theorem State.closeEvent_tickets : s.closeEvent.tickets = s.tickets := by rw [State.closeEvent_only]
@[simp] theorem State.closeEvent_locks : s.closeEvent.locks = s.locks := by rw [State.closeEvent_only]
@[simp] theorem State.closeEvent_pool : s.closeEvent.pool = s.pool := by rw [State.closeEvent_only]
@[simp] theorem State.closeEvent_logIndex : s.closeEvent.logIndex = s.logIndex := by rw [State.closeEvent_only]
@[simp] theorem State.closeEvent_cache : s.closeEvent.cache = s.cache := by rw [State.closeEvent_only]
@[simp] theorem State.closeEvent_courses : s.closeEvent.courses = s.courses := by rw [State.closeEvent_only]
@[simp] theorem State.closeEvent_service : s.closeEvent.service = s.service := by rw [State.closeEvent_only]
@[simp] theorem State.closeEvent_tickPhase : s.closeEvent.tickPhase = s.tickPhase := by rw [State.closeEvent_only]
@[simp] theorem State.closeEvent_ticksDue : s.closeEvent.ticksDue = s.ticksDue := by rw [State.closeEvent_only]
@[simp] theorem State.closeEvent_stations : s.closeEvent.stations = s.stations := by rw [State.closeEvent_only]
@[simp] theorem State.closeEvent_intake : s.closeEvent.intake = s.intake := by rw [State.closeEvent_only]

@[simp] theorem State.closeEvent_shown : s.closeEvent.shown = s.shown :=
  State.shown_eq s.closeEvent_faults s.closeEvent_overflow s.closeEvent_conditions s.closeEvent_latched

@[simp] theorem State.closeEvent_holding : s.closeEvent.holding = s.holding := by
  unfold State.holding State.faultHolds
  rw [State.closeEvent_faults, State.closeEvent_overflow, State.closeEvent_conditions]

end CloseEvent

/-- The tables that a notice word reports are those of the event's end. -/
theorem State.flushFaults_shown (s : State) : s.flushTables.flushFaults.shown = s.shown := by
  have h := s.flushTables.flushFaults_work
  apply State.shown_eq
  · rw [h.faults, s.flushTables_only]
  · rw [h.overflow, s.flushTables_only]
  · rw [h.conditions, s.flushTables_only]
  · rw [h.latched, s.flushTables_only]

/-- The end of an event writes the notice word when the shown conditions are not those last written (R170). -/
theorem State.closeEvent_writesNotice {s0 s : State} (hn : s0.port.nextId ≤ s.port.nextId)
    (changed : s.shown ≠ s.noticeShown) :
    Issues s0 s.closeEvent (anchorWrite s.straps .noticeWord offNotice (noticeBytes s.shown)) := by
  have work := s.flushTables_work.toCommandWork.trans (s.flushTables.flushFaults_work).toCommandWork
  have differs : ¬s.flushTables.flushFaults.shown = s.flushTables.flushFaults.noticeShown := by
    rw [s.flushFaults_shown, work.noticeShown]
    exact changed
  have entered := Entered.issue (s := s0) (t := s.flushTables.flushFaults) (hn.trans work.port.nextId)
    (anchorWrite s.flushTables.flushFaults.straps .noticeWord offNotice
      (noticeBytes s.flushTables.flushFaults.shown))
  have closes : s.closeEvent.port = (s.flushTables.flushFaults.writeAnchor .noticeWord offNotice
      (noticeBytes s.flushTables.flushFaults.shown)).port := by
    unfold State.closeEvent State.flushNotice
    simp only
    rw [if_neg differs]
  rw [s.flushFaults_shown, work.straps] at entered
  rw [State.writeAnchor, s.flushFaults_shown, work.straps] at closes
  exact ⟨_, entered.1, by rw [State.requests, closes]; exact entered.2⟩

/-- The end of an event writes the marked fault-log mirror entries (R168). -/
theorem State.closeEvent_writesFault {s0 s : State} {i : RecordId} (hn : s0.port.nextId ≤ s.port.nextId)
    (mark : i ∈ s.marks.faults) :
    Issues s0 s.closeEvent (anchorWrite s.straps (.faultMirror i) (offFault i) (faultBytes s.faults[i])) := by
  have work := s.flushTables_work
  have faults : s.flushTables.faults = s.faults := by rw [s.flushTables_only]
  have writes := State.flushFaults_writes (s0 := s0) (s := s.flushTables) (i := i)
    (by rw [s.flushTables_only]; exact mark) (hn.trans work.port.nextId)
  rw [work.straps] at writes
  simp only [faults] at writes
  refine writes.mono ?_
  unfold State.closeEvent State.flushNotice
  simp only
  split
  · exact .refl _
  · exact (State.writeAnchor_work _ _ _ _).port

/-- A command that the part sees, with RST high. -/
theorem State.runLive_high {s : State} (high : s.rstLow = false) (f : State → State) :
    s.runLive f = (f { s with responses := [] }).closeEvent := by
  change (if s.rstLow then _ else _ : State).closeEvent = _
  rw [high]
  rfl

-- ## Requests entered in a row

section EnterAll
variable (ms : List MemRequest) (p : MemPort)

theorem MemPort.enqueueAll_nextId : p.nextId ≤ (p.enqueueAll ms).nextId := by
  induction ms generalizing p with
  | nil => exact Nat.le_refl _
  | cons m ms ih => exact le_trans (by simp) (ih (p.enqueue m))

theorem MemPort.enqueueAll_kept {x : MemRequest} (h : x ∈ p.all) : x ∈ (p.enqueueAll ms).all := by
  induction ms generalizing p with
  | nil => exact h
  | cons m ms ih => exact ih (p.enqueue m) ((p.mem_enqueue m x).2 (.inl h))

/-- Each of the requests enters, under a name of its own. -/
theorem MemPort.enqueueAll_enters {m : MemRequest} (h : m ∈ ms) :
    ∃ id, p.nextId ≤ id ∧ { m with id := id } ∈ (p.enqueueAll ms).all := by
  induction ms generalizing p with
  | nil => exact nomatch h
  | cons x ms ih =>
    rcases List.mem_cons.1 h with rfl | h
    · exact ⟨p.nextId, le_rfl, (p.enqueue m).enqueueAll_kept ms ((p.mem_enqueue m _).2 (.inr rfl))⟩
    · obtain ⟨id, later, entered⟩ := ih (p.enqueue x) h
      exact ⟨id, le_trans (by simp) later, entered⟩

/-- What stands at the port after the requests have entered stood there before or has a new name. -/
theorem MemPort.enqueueAll_fresh {x : MemRequest} (h : x ∈ (p.enqueueAll ms).all) : x ∈ p.all ∨ p.nextId ≤ x.id := by
  induction ms generalizing p with
  | nil => exact .inl h
  | cons m ms ih =>
    rcases ih (p.enqueue m) h with old | later
    · exact ((p.mem_enqueue m x).1 old).imp id fun e => by rw [e]
    · exact .inr (le_trans (by simp) later)

end EnterAll

-- ## The tables after RST and after a restart

/-- With no fault and no condition, no station shows anything and ATTN is low (R98, R171). -/
theorem State.shown_clear {s : State} (faults : s.faults = Vector.replicate 8 none) (overflow : s.overflow = false)
    (conditions : s.conditions = Conditions.clear) : s.shown = 0 := by
  have none_holds : s.holding = 0 := by
    unfold State.holding State.faultHolds
    rw [faults, overflow, conditions]
    decide
  unfold State.shown
  rw [none_holds]
  simp

/-- Whatever the part state, the pins, the loader, the port and the front port hold, the tables are reset. -/
theorem State.resetTables_tablesReset (s : State) (low : Bool) (straps : BitVec 8) (part : PartState) (loader : Loader)
    (port : MemPort) (flights : Vector (List Flight) 64) (waiting : List Request) (assemblies : List Assembly) :
    ({ s.resetTables with
      rstLow := low, straps := straps, part := part, loader := loader, port := port, flights := flights
      portWaiting := waiting, assemblies := assemblies } : State).TablesReset where
  setup := rfl
  tickets := rfl
  locks := rfl
  pool := rfl
  logIndex := rfl
  cache := rfl
  courses := by
    intro c
    simp [State.resetTables, Course.fresh]
  service := ⟨rfl, rfl, rfl, rfl⟩
  stations := by
    intro st
    simp only [State.resetTables, Fin.getElem_fin, Vector.getElem_replicate]
    decide
  latched := rfl
  faults := by
    intro i
    simp [State.resetTables]
  overflow := rfl
  conditions := rfl
  intake := rfl
  attn := by
    unfold State.attn
    rw [State.shown_clear rfl rfl rfl]
    simp
  alerts := by
    intro st
    refine State.alertLevel_of_off (State.alertPattern_closed ?_)
    simp [State.resetTables, Station.fresh, resetStationPlan]

/-- Reports leave the tables reset. -/
theorem ReportedFrom.tablesReset {u t : State} (h : ReportedFrom u t) (r : u.TablesReset) : t.TablesReset := by
  rw [h]
  exact ⟨r.setup, r.tickets, r.locks, r.pool, r.logIndex, r.cache, r.courses, r.service, r.stations, r.latched,
    r.faults, r.overflow, r.conditions, r.intake, r.attn, r.alerts⟩

/-- An event after which nothing is marked and the shown conditions are those last reported issues nothing. -/
theorem State.closeEvent_quiet {s : State} (marks : s.marks = Marks.empty) (shown : s.shown = s.noticeShown) :
    s.closeEvent = s := by
  have courses : s.flushCourses = s := by unfold State.flushCourses; rw [marks]; rfl
  have stations : s.flushStations = s := by unfold State.flushStations; rw [marks]; rfl
  have service : s.flushService = s := by unfold State.flushService; rw [marks]; rfl
  have tables : s.flushTables = s := by
    unfold State.flushTables
    rw [courses, stations, service, marks]
    cases s; cases marks; rfl
  have faults : s.flushFaults = s := by unfold State.flushFaults; rw [marks]; rfl
  unfold State.closeEvent
  simp only
  rw [tables, faults, State.flushNotice, if_pos shown]
  cases s; cases marks; rfl

-- ## Reset

/-- Settles O3: reset is the reset of the tables, with start-up's requests entered at an idle port. -/
theorem resetLeavesTablesResetAndLawful : Obligations.ResetLeavesTablesResetAndLawful := by
  unfold Obligations.ResetLeavesTablesResetAndLawful
  have idle : MemPort.empty.Named := ⟨List.nodup_nil, fun _ h => nomatch h⟩
  have named (ms : List MemRequest) (p : MemPort) (h : p.Named) : (p.enqueueAll ms).Named := by
    induction ms generalizing p with
    | nil => exact h
    | cons m ms ih => exact ih _ (h.enqueue m)
  have lines (ms : List MemRequest) (p : MemPort) (h : DistinctLines p.issued) :
      DistinctLines (p.enqueueAll ms).issued := by
    induction ms generalizing p with
    | nil => exact h
    | cons m ms ih => exact ih _ (p.enqueue_lines m h)
  refine ⟨⟨?tables, rfl, rfl, ?lists, ?requests⟩, rfl, ⟨rfl, rfl⟩, freshCourses_live rfl, ?faults,
    freshStations_even rfl, lines _ _ List.Pairwise.nil, named _ _ idle, ?bounded, ⟨Nat.zero_le _, List.nodup_nil⟩,
    ?setup⟩
  case tables => exact State.resetTables_tablesReset State.reset _ _ _ _ _ _ _ _
  case lists => intro tag; simp [State.reset]
  case requests =>
    intro m hm
    obtain ⟨id, -, entered⟩ := MemPort.empty.enqueueAll_enters _ hm
    exact ⟨id, entered⟩
  case faults => intro i j x y hi; simp [State.reset] at hi
  case bounded => intro tag; simp [State.reset]
  case setup => exact ⟨fun _ => rfl, fun _ => rfl, fun _ h => nomatch h⟩

/-- Settles O4: the tables of both events are those of `resetTables`. -/
theorem rstFallAndRise : Obligations.RstFallAndRise := by
  unfold Obligations.RstFallAndRise
  refine ⟨fun s high => ?fall, fun straps s low => ?rise⟩
  case fall =>
    have reset : ({ s with responses := [] } : State).rstFall.TablesReset :=
      State.resetTables_tablesReset _ _ _ _ _ _ _ _ _
    have quiet : ({ s with responses := [] } : State).rstFall.closeEvent = ({ s with responses := [] } : State).rstFall :=
      State.closeEvent_quiet rfl (State.shown_clear rfl rfl rfl)
    refine ⟨s.runLive State.rstFall, rfl, ?_⟩
    rw [State.runLive_high high, quiet]
    exact ⟨rfl, reset, fun tag => by simp [State.rstFall], rfl, rfl, rfl, rfl, rfl, rfl, rfl⟩
  case rise =>
    have risen : s.run (fun t => if t.rstLow then t.rstRise straps else t)
        = (({ s with responses := [] } : State).rstRise straps).closeEvent := by
      change (if s.rstLow then _ else _ : State).closeEvent = _
      rw [low]
      rfl
    have reset : (({ s with responses := [] } : State).rstRise straps).TablesReset :=
      State.resetTables_tablesReset _ _ _ _ _ _ _ _ _
    have quiet : (({ s with responses := [] } : State).rstRise straps).closeEvent
        = ({ s with responses := [] } : State).rstRise straps :=
      State.closeEvent_quiet rfl (State.shown_clear rfl rfl rfl)
    refine ⟨_, rfl, ?_⟩
    rw [risen, quiet]
    exact ⟨rfl, rfl, rfl, rfl, reset, fun m hm => s.port.enqueueAll_enters _ hm, rfl, rfl⟩

-- ## The tick divider

/-- Settles O47, by the branches of `divide`. -/
theorem trefPeriodDivides : Obligations.TrefPeriodDivides := by
  unfold Obligations.TrefPeriodDivides
  intro s high
  have runs : exec .trefPeriod s = .next (({ s with responses := [] } : State).trefPeriod).closeEvent :=
    congrArg Host.Outcome.next (State.runLive_high high _)
  have reported {u : State} (h : ({ s with responses := [] } : State).trefPeriod = u) :
      ∃ t, exec .trefPeriod s = .next t ∧ ReportedFrom u t := ⟨_, runs, h ▸ State.closeEvent_reported _⟩
  refine ⟨fun none => reported ?_, fun u some rises => reported ?_, fun u some returns => reported ?_⟩
  · simp only [State.trefPeriod, none]
  · simp only [State.trefPeriod, some, State.divide, if_pos rises]
  · simp only [State.trefPeriod, some, State.divide, if_neg (not_lt.2 returns)]

end Sys2Proof.Machine

/-! SUPPORT. O5, O11, O12 and O13: the four watched words. What a word write carries, bit by bit (R129); that it acts on its
own word alone; and what the tail, the mask, the clear word and the restart word then do. -/

namespace Sys2Proof.Machine

-- ## Bits of bytes

/-- The bits of a little-endian number are the bits of its bytes. -/
theorem leNat_testBit (bs : List Byte) (k n i : Nat) (h : i < 8 * n) :
    (leNat bs k n).testBit i = (bs.getD (k + i / 8) 0).getLsbD (i % 8) := by
  induction n generalizing k i with
  | zero => omega
  | succ n ih =>
    have small : byteAt bs k < 2 ^ 8 := (bs.getD k 0).isLt
    have shape : leNat bs k (n + 1) = 2 ^ 8 * leNat bs (k + 1) n + byteAt bs k := by
      simp only [leNat]; omega
    rw [shape, Nat.testBit_two_pow_mul_add _ small]
    by_cases low : i < 8
    · rw [if_pos low, Nat.div_eq_of_lt low, Nat.mod_eq_of_lt low]
      rfl
    · rw [if_neg low, ih (k + 1) (i - 8) (by omega)]
      rw [show k + 1 + (i - 8) / 8 = k + i / 8 by omega, show (i - 8) % 8 = i % 8 by omega]

/-- The bytes of a number, one by one. -/
theorem leBytes_getD (n v j : Nat) (h : j < n) : (leBytes n v).getD j 0 = BitVec.ofNat 8 (v / 256 ^ j) := by
  induction n generalizing v j with
  | zero => omega
  | succ n ih =>
    cases j with
    | zero => simp [leBytes]
    | succ j =>
      rw [leBytes, List.getD_cons_succ, ih (v / 256) j (by omega), Nat.div_div_eq_div_mul, Nat.pow_succ, Nat.mul_comm]

theorem leBytes_getLsbD (n v j i : Nat) (h : j < n) (hi : i < 8) :
    ((leBytes n v).getD j 0).getLsbD i = v.testBit (8 * j + i) := by
  rw [leBytes_getD n v j h, BitVec.getLsbD_ofNat, decide_eq_true hi, Bool.true_and,
    show (256 : Nat) ^ j = 2 ^ (8 * j) by rw [pow_mul]; rfl, Nat.testBit_div_two_pow, Nat.add_comm]

-- ## What a word write carries

/-- Byte `i` of a word. -/
def wordByte (v : BitVec 32) (i : Nat) : Byte := v.extractLsb' (8 * i) 8

theorem leBytes_wordByte (v : BitVec 32) (i : Nat) (h : i < 4) : (leBytes 4 v.toNat).getD i 0 = wordByte v i := by
  refine BitVec.eq_of_getLsbD_eq fun j hj => ?_
  rw [leBytes_getLsbD 4 v.toNat i j h hj, BitVec.testBit_toNat, wordByte, BitVec.getLsbD_extractLsb', decide_eq_true hj,
    Bool.true_and]

/-- A word write carries, of each byte of its word, the byte of its data where it is enabled (R129). -/
theorem carried_wordRequest {a : Nat} (h : a < 2 ^ 40) (w : WordWrite) :
    carried (wordRequest a w) a
      = (List.range 4).map (fun i => if w.enable.getLsbD i = true then some (wordByte w.data i) else none) := by
  refine List.map_congr_left fun i hi => ?_
  have small : i < 4 := List.mem_range.1 hi
  have enabled : (wordRequest a w).enables.getD i false = w.enable.getLsbD i := by
    simp [wordRequest, List.getD_eq_getElem?_getD, List.getElem?_range small]
  have datum : (wordRequest a w).data.getD i 0 = wordByte w.data i := leBytes_wordByte w.data i small
  have len : (wordRequest a w).len = 4 := rfl
  unfold Request.enabledByte
  rw [wordRequest_addr h, Nat.add_sub_cancel_left, enabled, datum, len]
  by_cases on : w.enable.getLsbD i = true
  · rw [if_pos ⟨Nat.le_add_right _ _, Nat.add_lt_add_left small a, on⟩, if_pos on]
  · rw [if_neg fun all => on all.2.2, if_neg on]

/-- The bytes that a word write carries, a byte not enabled counting as zero (R129). -/
theorem carriedBytes_getD {a : Nat} (h : a < 2 ^ 40) (w : WordWrite) (j : Nat) (hj : j < 4) :
    (carriedBytes (wordRequest a w) a).getD j 0 = if w.enable.getLsbD j = true then wordByte w.data j else 0 := by
  unfold carriedBytes
  rw [carried_wordRequest h, List.map_map, List.getD_eq_getElem?_getD, List.getElem?_map, List.getElem?_range hj]
  simp only [Option.map_some, Option.getD_some, Function.comp_apply]
  split <;> rfl

/-- Bit `i` of byte `j` of what a word write carries. -/
theorem bitOf_carriedBytes {a : Nat} (h : a < 2 ^ 40) (w : WordWrite) (j i : Nat) (hj : j < 4) (hi : i < 8) :
    bitOf (carriedBytes (wordRequest a w) a) j i = (w.enable.getLsbD j && w.data.getLsbD (8 * j + i)) := by
  unfold bitOf
  rw [carriedBytes_getD h w j hj]
  cases w.enable.getLsbD j with
  | false => simp
  | true => simp [wordByte, hi]

/-- The enabled bytes of a word write replace those of the latched word (R129). -/
theorem mergeWord_getLsbD {a : Nat} (h : a < 2 ^ 40) (w : WordWrite) (old : BitVec 32) (i : Nat) (hi : i < 32) :
    (mergeWord old (carried (wordRequest a w) a)).getLsbD i
      = if w.enable.getLsbD (i / 8) = true then w.data.getLsbD i else old.getLsbD i := by
  have place : i / 8 < 4 := by omega
  have whole : 8 * (i / 8) + i % 8 = i := by omega
  have bit : i % 8 < 8 := by omega
  have new : (carried (wordRequest a w) a)[i / 8]?
      = some (if w.enable.getLsbD (i / 8) = true then some (wordByte w.data (i / 8)) else none) := by
    rw [carried_wordRequest h, List.getElem?_map, List.getElem?_range place]
    rfl
  have last : (leBytes 4 old.toNat)[i / 8]? = some (wordByte old (i / 8)) := by
    have := leBytes_wordByte old (i / 8) place
    rw [List.getD_eq_getElem?_getD] at this
    rw [List.getElem?_eq_getElem (by simpa using place)] at this ⊢
    exact congrArg some this
  have both : ((carried (wordRequest a w) a).zip (leBytes 4 old.toNat))[i / 8]?
      = some (if w.enable.getLsbD (i / 8) = true then some (wordByte w.data (i / 8)) else none,
          wordByte old (i / 8)) := List.getElem?_zip_eq_some.2 ⟨new, last⟩
  have bitOfByte (v : BitVec 32) : (wordByte v (i / 8)).getLsbD (i % 8) = v.getLsbD i := by
    simp [wordByte, bit, whole]
  unfold mergeWord
  rw [BitVec.getLsbD_ofNat, decide_eq_true hi, Bool.true_and, leNat_testBit _ 0 4 i (by omega), Nat.zero_add,
    List.getD_eq_getElem?_getD, List.getElem?_map, both]
  simp only [Option.map_some, Option.getD_some]
  split
  · exact bitOfByte w.data
  · exact bitOfByte old

-- ## The event of a word write

/-- The state in which a request that has joined its requester's list has been forwarded (R120, R124). -/
def State.arrived (r : Request) (s : State) : State :=
  (({ s with responses := [] } : State).joinList r).forward s.arrivals r

theorem State.arrived_grows (r : Request) (s : State) : s.port.nextId ≤ (s.arrived r).port.nextId
    ∧ ∀ x ∈ s.port.all, x ∈ (s.arrived r).port.all := by
  refine ⟨?_, fun x hx => (s.port.mem_enqueue _ x).2 (.inl hx)⟩
  change s.port.nextId ≤ (s.port.enqueue _).nextId
  simp

theorem State.arrived_enters (r : Request) (s : State) :
    Entered s (s.arrived r) (forwardOf s.arrivals r) s.port.nextId :=
  Entered.issue (t := ({ s with responses := [] } : State).joinList r) le_rfl _

section Arrived
variable (r : Request) (s : State)

@[simp] theorem State.arrived_pending : (s.arrived r).pending = s.pending := (rfl)
@[simp] theorem State.arrived_part : (s.arrived r).part = s.part := (rfl)
@[simp] theorem State.arrived_rstLow : (s.arrived r).rstLow = s.rstLow := (rfl)
@[simp] theorem State.arrived_straps : (s.arrived r).straps = s.straps := (rfl)
@[simp] theorem State.arrived_setup : (s.arrived r).setup = s.setup := (rfl)
@[simp] theorem State.arrived_plan : (s.arrived r).plan = s.plan := (rfl)
@[simp] theorem State.arrived_loader : (s.arrived r).loader = s.loader := (rfl)
@[simp] theorem State.arrived_latched : (s.arrived r).latched = s.latched := (rfl)
@[simp] theorem State.arrived_faults : (s.arrived r).faults = s.faults := (rfl)
@[simp] theorem State.arrived_overflow : (s.arrived r).overflow = s.overflow := (rfl)
@[simp] theorem State.arrived_conditions : (s.arrived r).conditions = s.conditions := (rfl)
@[simp] theorem State.arrived_noticeShown : (s.arrived r).noticeShown = s.noticeShown := (rfl)
@[simp] theorem State.arrived_portWaiting : (s.arrived r).portWaiting = s.portWaiting := (rfl)
@[simp] theorem State.arrived_assemblies : (s.arrived r).assemblies = s.assemblies := (rfl)
@[simp] theorem State.arrived_dram : (s.arrived r).dram = s.dram := (rfl)
@[simp] theorem State.arrived_tickets : (s.arrived r).tickets = s.tickets := (rfl)
@[simp] theorem State.arrived_locks : (s.arrived r).locks = s.locks := (rfl)
@[simp] theorem State.arrived_pool : (s.arrived r).pool = s.pool := (rfl)
@[simp] theorem State.arrived_logIndex : (s.arrived r).logIndex = s.logIndex := (rfl)
@[simp] theorem State.arrived_cache : (s.arrived r).cache = s.cache := (rfl)
@[simp] theorem State.arrived_courses : (s.arrived r).courses = s.courses := (rfl)
@[simp] theorem State.arrived_service : (s.arrived r).service = s.service := (rfl)
@[simp] theorem State.arrived_tickPhase : (s.arrived r).tickPhase = s.tickPhase := (rfl)
@[simp] theorem State.arrived_blink : (s.arrived r).blink = s.blink := (rfl)
@[simp] theorem State.arrived_ticksDue : (s.arrived r).ticksDue = s.ticksDue := (rfl)
@[simp] theorem State.arrived_stations : (s.arrived r).stations = s.stations := (rfl)
@[simp] theorem State.arrived_intake : (s.arrived r).intake = s.intake := (rfl)
@[simp] theorem State.arrived_marks : (s.arrived r).marks = s.marks := (rfl)
@[simp] theorem State.arrived_holding : (s.arrived r).holding = s.holding := (rfl)
@[simp] theorem State.arrived_anchor : (s.arrived r).anchor = s.anchor := (rfl)
@[simp] theorem State.arrived_responses : (s.arrived r).responses = [] := (rfl)
@[simp] theorem State.arrived_arrivals : (s.arrived r).arrivals = s.arrivals + 1 := (rfl)

end Arrived

/-- The latched words are replaced. -/
def State.latch (l : Latched) (s : State) : State := { s with latched := l }

section Latch
variable (l : Latched) (s : State)

@[simp] theorem State.latch_pending : (s.latch l).pending = s.pending := (rfl)
@[simp] theorem State.latch_part : (s.latch l).part = s.part := (rfl)
@[simp] theorem State.latch_rstLow : (s.latch l).rstLow = s.rstLow := (rfl)
@[simp] theorem State.latch_straps : (s.latch l).straps = s.straps := (rfl)
@[simp] theorem State.latch_setup : (s.latch l).setup = s.setup := (rfl)
@[simp] theorem State.latch_plan : (s.latch l).plan = s.plan := (rfl)
@[simp] theorem State.latch_loader : (s.latch l).loader = s.loader := (rfl)
@[simp] theorem State.latch_latched : (s.latch l).latched = l := (rfl)
@[simp] theorem State.latch_faults : (s.latch l).faults = s.faults := (rfl)
@[simp] theorem State.latch_overflow : (s.latch l).overflow = s.overflow := (rfl)
@[simp] theorem State.latch_conditions : (s.latch l).conditions = s.conditions := (rfl)
@[simp] theorem State.latch_noticeShown : (s.latch l).noticeShown = s.noticeShown := (rfl)
@[simp] theorem State.latch_portWaiting : (s.latch l).portWaiting = s.portWaiting := (rfl)
@[simp] theorem State.latch_assemblies : (s.latch l).assemblies = s.assemblies := (rfl)
@[simp] theorem State.latch_dram : (s.latch l).dram = s.dram := (rfl)
@[simp] theorem State.latch_tickets : (s.latch l).tickets = s.tickets := (rfl)
@[simp] theorem State.latch_locks : (s.latch l).locks = s.locks := (rfl)
@[simp] theorem State.latch_pool : (s.latch l).pool = s.pool := (rfl)
@[simp] theorem State.latch_logIndex : (s.latch l).logIndex = s.logIndex := (rfl)
@[simp] theorem State.latch_cache : (s.latch l).cache = s.cache := (rfl)
@[simp] theorem State.latch_courses : (s.latch l).courses = s.courses := (rfl)
@[simp] theorem State.latch_service : (s.latch l).service = s.service := (rfl)
@[simp] theorem State.latch_tickPhase : (s.latch l).tickPhase = s.tickPhase := (rfl)
@[simp] theorem State.latch_blink : (s.latch l).blink = s.blink := (rfl)
@[simp] theorem State.latch_ticksDue : (s.latch l).ticksDue = s.ticksDue := (rfl)
@[simp] theorem State.latch_stations : (s.latch l).stations = s.stations := (rfl)
@[simp] theorem State.latch_intake : (s.latch l).intake = s.intake := (rfl)
@[simp] theorem State.latch_marks : (s.latch l).marks = s.marks := (rfl)
@[simp] theorem State.latch_port : (s.latch l).port = s.port := (rfl)
@[simp] theorem State.latch_flights : (s.latch l).flights = s.flights := (rfl)
@[simp] theorem State.latch_responses : (s.latch l).responses = s.responses := (rfl)
@[simp] theorem State.latch_arrivals : (s.latch l).arrivals = s.arrivals := (rfl)
@[simp] theorem State.latch_holding : (s.latch l).holding = s.holding := (rfl)
@[simp] theorem State.latch_anchor : (s.latch l).anchor = s.anchor := (rfl)

end Latch

/-- A word write outside START is forwarded, and then acts on the words it touches (R122, R129). -/
theorem State.requestStep_word {s : State} {off : Nat} (high : s.rstLow = false) (room : s.hasRoom 0 = true)
    (hp : s.part ≠ .start) (lo : 0x80 ≤ off) (hi : off + 3 < 0xA0) (aligned : off % 4 = 0) (w : WordWrite) :
    s.requestStep (wordRequest (s.anchor + off) w)
      = ((s.arrived (wordRequest (s.anchor + off) w)).latchWords (wordRequest (s.anchor + off) w)).closeEvent := by
  unfold State.requestStep
  rw [State.runLive_high high]
  exact congrArg State.closeEvent (State.present_latched (s := { s with responses := [] }) room
    (State.classify_wordRequest (s := { s with responses := [] }) hp lo hi aligned w))

section Words
variable (s : State) (w : WordWrite)

/-- A word write touches its own word and no word apart from it (R129). -/
theorem touches_own (off : Nat) (h : off < 0x2000) :
    (wordRequest (s.anchor + off) w).touchesWord (s.anchor + off) = true :=
  (wordRequest_touchesWord (s.anchor_add_lt h) w _).2 (by omega)

theorem touches_apart {off x : Nat} (h : off < 0x2000) (apart : off + 4 ≤ x ∨ x + 4 ≤ off) :
    ¬(wordRequest (s.anchor + off) w).touchesWord (s.anchor + x) = true := by
  rw [wordRequest_touchesWord (s.anchor_add_lt h)]
  omega

theorem State.latchRestart_apart {s : State} {r : Request} (h : ¬r.touchesWord (s.anchor + offRestart) = true) :
    s.latchRestart r = s := if_neg h

end Words

-- ## The records that the clear word frees

/-- Only fault records and the marks of their mirror entries are changed. -/
def ClearsFaults (s t : State) : Prop := t = { s with faults := t.faults, marks := t.marks }

theorem State.freeRecord_clears (i : RecordId) (s : State) : ClearsFaults s (s.freeRecord i) := by
  unfold ClearsFaults State.freeRecord
  split <;> rfl

theorem State.freeRecords_clears (l : List RecordId) (s : State) : ClearsFaults s (l.foldl State.freeRecord s) := by
  refine foldl_rel (R := ClearsFaults) (fun _ => rfl) (fun h g => ?_) (fun t i => t.freeRecord_clears i) l s
  unfold ClearsFaults at *
  rw [g, h]

theorem State.freeRecord_faults (i j : RecordId) (s : State) :
    (s.freeRecord i).faults[j] = if i = j then none else s.faults[j] := by
  unfold State.freeRecord
  split
  · exact getElem_set_fin _ _ _ _
  · rename_i free
    split
    · rename_i same
      subst same
      simpa using free
    · rfl

theorem State.freeRecords_faults (l : List RecordId) (j : RecordId) (s : State) :
    (l.foldl State.freeRecord s).faults[j] = if j ∈ l then none else s.faults[j] := by
  induction l generalizing s with
  | nil => rfl
  | cons i l ih =>
    rw [List.foldl_cons, ih, State.freeRecord_faults]
    by_cases same : i = j
    · simp [same]
    · simp [same, Ne.symm same]

/-- A freed record's mirror entry is marked, and a mark stays. -/
theorem State.freeRecords_marks (l : List RecordId) {j : RecordId} {s : State}
    (h : j ∈ s.marks.faults ∨ j ∈ l ∧ s.faults[j] ≠ none) : j ∈ (l.foldl State.freeRecord s).marks.faults := by
  have grows (i : RecordId) (t : State) (m : j ∈ t.marks.faults) : j ∈ (t.freeRecord i).marks.faults := by
    unfold State.freeRecord
    split
    · simp only [State.setFault, addTo]
      split
      · exact m
      · exact List.mem_append_left _ m
    · exact m
  induction l generalizing s with
  | nil => exact h.elim id fun h => nomatch h.1
  | cons i l ih =>
    refine ih ?_
    rcases h with m | ⟨named, valid⟩
    · exact .inl (grows i s m)
    · by_cases same : i = j
      · subst same
        refine .inl ?_
        unfold State.freeRecord
        rw [if_pos (Option.isSome_iff_ne_none.2 valid)]
        simp only [State.setFault, addTo]
        split
        · assumption
        · exact List.mem_append_right _ List.mem_cons_self
      · refine .inr ⟨(List.mem_cons.1 named).resolve_left (Ne.symm same), ?_⟩
        rw [State.freeRecord_faults, if_neg same]
        exact valid

-- ## A word write acts on its own word

section OwnWord
variable (s : State) (w : WordWrite)

theorem State.latchTail_anchor (r : Request) : (s.latchTail r).anchor = s.anchor := by
  unfold State.latchTail
  split
  · exact congrArg anchorOf (State.takeTail_work _ _).straps
  · rfl

theorem State.latchMask_anchor (r : Request) : (s.latchMask r).anchor = s.anchor := by
  unfold State.latchMask
  split <;> rfl

theorem State.latchClear_anchor (r : Request) : (s.latchClear r).anchor = s.anchor := by
  unfold State.latchClear State.takeClear
  split
  · have freed (t : State) (l : List RecordId) := congrArg State.anchor (t.freeRecords_clears l)
    exact freed _ _
  · rfl

/-- The write of the tail word acts on the tail word alone. -/
theorem State.latchWords_tail :
    s.latchWords (wordRequest (s.anchor + offTail) w) = s.latchTail (wordRequest (s.anchor + offTail) w) := by
  have apart {x : Nat} := @touches_apart s w offTail x (by decide)
  have anchor := s.latchTail_anchor (wordRequest (s.anchor + offTail) w)
  unfold State.latchWords
  rw [State.latchMask_apart (by rw [anchor]; exact apart (by decide)),
    State.latchClear_apart (by rw [anchor]; exact apart (by decide)),
    State.latchRestart_apart (by rw [anchor]; exact apart (by decide))]

/-- The write of the notice mask acts on the notice mask alone. -/
theorem State.latchWords_mask :
    s.latchWords (wordRequest (s.anchor + offMask) w) = s.latchMask (wordRequest (s.anchor + offMask) w) := by
  have apart {x : Nat} := @touches_apart s w offMask x (by decide)
  have anchor := s.latchMask_anchor (wordRequest (s.anchor + offMask) w)
  unfold State.latchWords
  rw [State.latchTail_apart (apart (by decide)),
    State.latchClear_apart (by rw [anchor]; exact apart (by decide)),
    State.latchRestart_apart (by rw [anchor]; exact apart (by decide))]

/-- The write of the clear word acts on the clear word alone. -/
theorem State.latchWords_clear :
    s.latchWords (wordRequest (s.anchor + offClear) w) = s.latchClear (wordRequest (s.anchor + offClear) w) := by
  have apart {x : Nat} := @touches_apart s w offClear x (by decide)
  have anchor := s.latchClear_anchor (wordRequest (s.anchor + offClear) w)
  unfold State.latchWords
  rw [State.latchTail_apart (apart (by decide)), State.latchMask_apart (apart (by decide)),
    State.latchRestart_apart (by rw [anchor]; exact apart (by decide))]

end OwnWord

-- ## The notice mask and the clear word

section Latched
variable (s : State) (w : WordWrite)

/-- The state in which a mask write has been latched (R129). -/
def State.maskLatched : State :=
  (s.arrived (wordRequest (s.anchor + offMask) w)).latch { s.latched with
    mask := mergeWord s.latched.mask (carried (wordRequest (s.anchor + offMask) w) (s.anchor + offMask)) }

/-- The state in which a clear word write has been latched (R129). -/
def State.clearLatched : State :=
  (s.arrived (wordRequest (s.anchor + offClear) w)).latch { s.latched with
    clear := mergeWord s.latched.clear (carried (wordRequest (s.anchor + offClear) w) (s.anchor + offClear)) }

/-- The state after a clear word write has acted on the bytes that it carries (R172). -/
def State.cleared : State :=
  (s.clearLatched w).takeClear (carriedBytes (wordRequest (s.anchor + offClear) w) (s.anchor + offClear))

end Latched

theorem exec_noticeMask {s : State} (high : s.rstLow = false) (room : s.hasRoom 0 = true) (hp : s.part ≠ .start)
    (w : WordWrite) : exec (.noticeMask w) s = .next (s.maskLatched w).closeEvent := by
  have own := (s.arrived (wordRequest (s.anchor + offMask) w)).latchWords_mask w
  exact congrArg Host.Outcome.next ((State.requestStep_word high room hp (by decide) (by decide) (by decide) w).trans
    (congrArg State.closeEvent (own.trans (if_pos (touches_own s w offMask (by decide))))))

theorem exec_clearWord {s : State} (high : s.rstLow = false) (room : s.hasRoom 0 = true) (hp : s.part ≠ .start)
    (w : WordWrite) : exec (.clearWord w) s = .next (s.cleared w).closeEvent := by
  have own := (s.arrived (wordRequest (s.anchor + offClear) w)).latchWords_clear w
  exact congrArg Host.Outcome.next ((State.requestStep_word high room hp (by decide) (by decide) (by decide) w).trans
    (congrArg State.closeEvent (own.trans (if_pos (touches_own s w offClear (by decide))))))

/-- Settles O12: the mask is latched, and the end of the event reports what it shows. -/
theorem noticeMaskSelectsShown : Obligations.NoticeMaskSelectsShown := by
  unfold Obligations.NoticeMaskSelectsShown
  intro s w high room hp
  refine ⟨_, exec_noticeMask high room hp w, ?bits, ?holding, ?attn, ?shown, ?issues, ?_, ?_, ?_, ?_⟩
  case bits =>
    intro i hi
    simp only [State.closeEvent_latched, State.maskLatched, State.latch_latched]
    exact mergeWord_getLsbD (s.anchor_add_lt (by decide)) w s.latched.mask i hi
  case holding => simp [State.maskLatched]
  case attn => simp [State.attn, State.shown, State.maskLatched, high]
  case shown => rw [State.closeEvent_noticeShown, State.closeEvent_shown]
  case issues =>
    intro changed
    rw [State.closeEvent_shown] at changed ⊢
    have writes := State.closeEvent_writesNotice (s0 := s) (s := s.maskLatched w)
      (by simpa only [State.maskLatched, State.latch_port] using (s.arrived_grows _).1)
      (by simpa only [State.maskLatched, State.latch_noticeShown, State.arrived_noticeShown] using changed)
    simpa only [State.maskLatched, State.latch_straps, State.arrived_straps] using writes
  all_goals simp [State.maskLatched]

/-- What the clear word's action changes (R172). -/
theorem State.takeClear_only (bs : List Byte) (s : State) :
    s.takeClear bs = { s with
      faults := (s.takeClear bs).faults, marks := (s.takeClear bs).marks, overflow := s.overflow && !bitOf bs 2 0
      conditions := s.conditions.afterClear bs } := by
  have freed := s.freeRecords_clears ((List.finRange 8).filter (fun i => bitOf bs 1 i.val))
  unfold ClearsFaults at freed
  unfold State.takeClear
  simp only
  rw [freed]

theorem State.takeClear_faults (bs : List Byte) (i : RecordId) (s : State) :
    (s.takeClear bs).faults[i] = if bitOf bs 1 i.val = true then none else s.faults[i] := by
  have freed := s.freeRecords_faults ((List.finRange 8).filter (fun i => bitOf bs 1 i.val)) i
  simp only [List.mem_filter, List.mem_finRange, true_and] at freed
  exact freed

theorem State.takeClear_marks {bs : List Byte} {i : RecordId} {s : State} (h : bitOf bs 1 i.val = true)
    (valid : s.faults[i] ≠ none) : i ∈ (s.takeClear bs).marks.faults :=
  State.freeRecords_marks _ (.inr ⟨by simpa using h, valid⟩)

/-- Settles O13: the bits of the clear word that the write carries. -/
theorem clearWordClears : Obligations.ClearWordClears := by
  unfold Obligations.ClearWordClears
  intro s w bit high room hp named
  have bits (j i : Nat) (hj : j < 4) (hi : i < 8) :
      bitOf (carriedBytes (wordRequest (s.anchor + offClear) w) (s.anchor + offClear)) j i = bit (8 * j + i) := by
    rw [bitOf_carriedBytes (s.anchor_add_lt (by decide)) w j i hj hi, named, show (8 * j + i) / 8 = j by omega]
  have only := (s.clearLatched w).takeClear_only (carriedBytes (wordRequest (s.anchor + offClear) w) (s.anchor + offClear))
  rw [← State.cleared] at only
  have faults (i : RecordId) : (s.cleared w).faults[i] = if bit (8 + i.val) = true then none else s.faults[i] := by
    rw [State.cleared, State.takeClear_faults, bits 1 i (by decide) i.isLt]
    simp only [State.clearLatched, State.latch_faults, State.arrived_faults]
  refine ⟨_, exec_clearWord high room hp w, ?records, ?overflow, ?conditions, ?mirrors, ?_, ?_, ?_, ?_⟩
  case records => intro i; rw [← faults i]; simp only [State.closeEvent_faults]
  case overflow =>
    rw [State.closeEvent_overflow, only, bits 2 0 (by decide) (by decide)]
    simp only [State.clearLatched, State.latch_overflow, State.arrived_overflow]
  case conditions =>
    rw [State.closeEvent_conditions, only, Conditions.afterClear, bits 0 2 (by decide) (by decide),
      bits 0 3 (by decide) (by decide), bits 0 4 (by decide) (by decide), bits 0 5 (by decide) (by decide),
      bits 0 6 (by decide) (by decide)]
    simp only [State.clearLatched, State.latch_conditions, State.arrived_conditions, Nat.mul_zero, Nat.zero_add]
  case mirrors =>
    intro i freed valid
    have mark : i ∈ (s.cleared w).marks.faults :=
      State.takeClear_marks (by rw [bits 1 i (by decide) i.isLt]; exact freed)
        (by simpa only [State.clearLatched, State.latch_faults, State.arrived_faults] using valid)
    have grown : s.port.nextId ≤ (s.cleared w).port.nextId := by
      rw [only]
      simpa only [State.clearLatched, State.latch_port] using (s.arrived_grows _).1
    have straps : (s.cleared w).straps = s.straps := by
      rw [only]
      simp only [State.clearLatched, State.latch_straps, State.arrived_straps]
    have writes := State.closeEvent_writesFault grown mark
    rw [faults i, if_pos freed, straps] at writes
    exact writes
  all_goals
    simp only [State.closeEvent_intake, State.closeEvent_stations, State.closeEvent_tickets, State.closeEvent_dram]
    rw [only]
    simp [State.clearLatched]

end Sys2Proof.Machine

/-! SUPPORT. O5 and O11: the tail word, which may start a fetch (R153, R154), and the restart word (R129, R136). -/

namespace Sys2Proof.Machine

-- ## The tail word

section Tail
variable {s : State}

/-- The fetch is not issued when one of its conditions fails (R154). -/
theorem State.tryFetch_stays (h : s.takesEntries = false ∨ s.intake.progress.isSome ∨ s.intake.head = s.intake.tail) :
    s.tryFetch = s := by
  refine if_neg fun all => ?_
  simp only [Bool.and_eq_true, bne_iff_ne, ne_eq, Option.isNone_iff_eq_none] at all
  obtain ⟨⟨takes, idle⟩, apart⟩ := all
  rcases h with h | h | h
  · simp [h] at takes
  · simp [idle] at h
  · exact apart h

@[simp] theorem State.tryFetch_head : s.tryFetch.intake.head = s.intake.head := by
  unfold State.tryFetch; split <;> rfl

@[simp] theorem State.tryFetch_tail : s.tryFetch.intake.tail = s.intake.tail := by
  unfold State.tryFetch; split <;> rfl

/-- The tail is replaced. -/
def State.setTail (v : Nat) (s : State) : State := { s with intake := { s.intake with tail := v } }

theorem State.takeTail_transparent (h : s.part = .transparent) (v : Nat) : s.takeTail v = s.setTail v := by
  cases s; cases h; rfl

/-- A tail value is judged in IDLE, READY and STOPPED alike (R153). -/
theorem State.takeTail_judged (start : s.part ≠ .start) (transparent : s.part ≠ .transparent) (v : Nat) :
    s.takeTail v = if s.ringCount ≤ v then s.badTail 1
      else if v = s.intake.head ∧ s.intake.progress.isSome then s.badTail 2 else (s.setTail v).tryFetch := by
  unfold State.takeTail
  split
  · rename_i h; exact absurd h start
  · rename_i h; exact absurd h transparent
  all_goals rfl

theorem State.badTail_logs (sub : Nat) (s : State) :
    Logs s (s.badTail sub) { reason := .badTail, source := 0, sub := sub, addr := s.anchor + offTail } :=
  State.recordFault_logs _ _

theorem State.badTail_intake (sub : Nat) (s : State) : (s.badTail sub).intake = s.intake :=
  (State.recordFault_mild_work _ _ rfl).intake

end Tail

/-- The state in which a tail write has been latched (R129). -/
def State.tailLatched (w : WordWrite) (s : State) : State :=
  (s.arrived (wordRequest (s.anchor + offTail) w)).latch { s.latched with
    tail := mergeWord s.latched.tail (carried (wordRequest (s.anchor + offTail) w) (s.anchor + offTail)) }

theorem exec_tailWord {s : State} (high : s.rstLow = false) (room : s.hasRoom 0 = true) (hp : s.part ≠ .start)
    (w : WordWrite) :
    exec (.tailWord w) s = .next ((s.tailLatched w).takeTail (s.tailLatched w).latched.tail.toNat).closeEvent := by
  have own := (s.arrived (wordRequest (s.anchor + offTail) w)).latchWords_tail w
  exact congrArg Host.Outcome.next ((State.requestStep_word high room hp (by decide) (by decide) (by decide) w).trans
    (congrArg State.closeEvent (own.trans (if_pos (touches_own s w offTail (by decide))))))

/-- What the taking of a tail value does to the intake and to the log, for a state that stands as `s` does. -/
theorem State.takeTail_closed {s u : State} (v : Nat) (start : s.part ≠ .start) (part : u.part = s.part)
    (intake : u.intake = s.intake) (setup : u.setup = s.setup) (anchor : u.anchor = s.anchor)
    (faults : u.faults = s.faults) (overflow : u.overflow = s.overflow) (port : s.port.nextId ≤ u.port.nextId) :
    (s.part = .transparent → (u.takeTail v).closeEvent.intake = { s.intake with tail := v })
    ∧ (s.part ≠ .transparent → s.ringCount ≤ v → (u.takeTail v).closeEvent.intake = s.intake
        ∧ Logs s (u.takeTail v).closeEvent { reason := .badTail, source := 0, sub := 1, addr := s.anchor + 0x80 })
    ∧ (s.part ≠ .transparent → v < s.ringCount → v = s.intake.head → s.intake.progress.isSome →
        (u.takeTail v).closeEvent.intake = s.intake
          ∧ Logs s (u.takeTail v).closeEvent { reason := .badTail, source := 0, sub := 2, addr := s.anchor + 0x80 })
    ∧ (s.part ≠ .transparent → v < s.ringCount → ¬(v = s.intake.head ∧ s.intake.progress.isSome) →
        (u.takeTail v).closeEvent.intake.tail = v ∧ (u.takeTail v).closeEvent.intake.head = s.intake.head
          ∧ (u.takeTail v).closeEvent.faults = s.faults
          ∧ (s.takesEntries = false ∨ s.intake.progress.isSome ∨ s.intake.head = v →
              (u.takeTail v).closeEvent.intake.progress = s.intake.progress)
          ∧ (s.takesEntries = true → s.intake.progress = none → s.intake.head ≠ v →
              ∃ i, (u.takeTail v).closeEvent.intake.progress = some (.fetching i)
                ∧ Entered s (u.takeTail v).closeEvent (ownRequest .entryFetch .read s.headAddr 32 []) i)) := by
  have count : u.ringCount = s.ringCount := by unfold State.ringCount; rw [setup]
  have takes : u.takesEntries = s.takesEntries := by unfold State.takesEntries; rw [part]
  have bad (sub : Nat) : (u.badTail sub).closeEvent.intake = s.intake
      ∧ Logs s (u.badTail sub).closeEvent { reason := .badTail, source := 0, sub := sub, addr := s.anchor + 0x80 } := by
    refine ⟨by rw [State.closeEvent_intake, State.badTail_intake, intake], ?_⟩
    rw [← anchor]
    exact (u.badTail_logs sub).congr faults.symm overflow.symm (State.closeEvent_faults _) (State.closeEvent_overflow _)
  simp only [State.closeEvent_intake, State.closeEvent_faults] at bad ⊢
  have judged (other : s.part ≠ .transparent) := State.takeTail_judged (part ▸ start) (part ▸ other) v
  rw [count, intake] at judged
  refine ⟨fun transparent => ?_, fun other above => ?_, fun other below same busy => ?_, fun other below apart => ?_⟩
  · rw [State.takeTail_transparent (part.trans transparent), State.setTail, intake]
  · rw [judged other, if_pos above]
    exact bad 1
  · rw [judged other, if_neg (not_le.2 below), if_pos ⟨same, busy⟩]
    exact bad 2
  · rw [judged other, if_neg (not_le.2 below), if_neg apart]
    have only := (u.setTail v).tryFetch_only
    refine ⟨?_, ?_, ?_, fun idle => ?_, fun takesNow free differs => ?_⟩
    · rw [State.tryFetch_tail]; rfl
    · rw [State.tryFetch_head]; exact (congrArg Intake.head intake : u.intake.head = _)
    · rw [only]; exact faults
    · have stays : (u.setTail v).tryFetch = u.setTail v := by
        refine State.tryFetch_stays ?_
        change u.takesEntries = false ∨ u.intake.progress.isSome ∨ u.intake.head = v
        rwa [takes, intake]
      rw [stays]
      exact (congrArg Intake.progress intake : u.intake.progress = _)
    · have goes : (u.setTail v).tryFetch = { (u.setTail v).readOwn .entryFetch (u.setTail v).headAddr 32 with
          intake := { (u.setTail v).intake with progress := some (.fetching (u.setTail v).port.nextId) } } := by
        refine State.tryFetch_goes (takes.trans takesNow) ?_ ?_
        · exact ((congrArg Intake.progress intake).trans free : u.intake.progress = none)
        · change u.intake.head ≠ v
          rwa [intake]
      have addr : (u.setTail v).headAddr = s.headAddr := by
        unfold State.headAddr State.ringBase State.setTail
        rw [setup, intake]
      refine ⟨u.port.nextId, by rw [goes]; rfl, Entered.mono ?_ (State.closeEvent_port _)⟩
      rw [goes, addr]
      exact Entered.issue (t := u) port _

/-- Settles O11: the word is latched, and what is taken is judged. -/
theorem tailWordIsJudged : Obligations.TailWordIsJudged := by
  unfold Obligations.TailWordIsJudged
  intro s w high room start
  have work := (s.tailLatched w).takeTail_work (s.tailLatched w).latched.tail.toNat
  have port : (s.tailLatched w).port = (s.arrived (wordRequest (s.anchor + offTail) w)).port := State.latch_port _ _
  have grown : s.port.nextId ≤ (s.tailLatched w).port.nextId := by rw [port]; exact (s.arrived_grows _).1
  have latched : ((s.tailLatched w).takeTail (s.tailLatched w).latched.tail.toNat).closeEvent.latched
      = (s.tailLatched w).latched := (State.closeEvent_latched _).trans work.latched
  have arrives : Entered s (s.tailLatched w) (forwardOf s.arrivals (wordRequest (s.anchor + offTail) w)) s.port.nextId := by
    have := s.arrived_enters (wordRequest (s.anchor + offTail) w)
    unfold Entered State.requests at this ⊢
    rwa [port]
  refine ⟨_, _, exec_tailWord high room start w, by rw [latched], ?bits,
    ⟨_, (arrives.mono work.port).mono (State.closeEvent_port _)⟩, ?_⟩
  case bits =>
    intro i hi
    rw [latched, State.tailLatched, State.latch_latched]
    exact mergeWord_getLsbD (s.anchor_add_lt (by decide)) w s.latched.tail i hi
  refine State.takeTail_closed _ start ?_ ?_ ?_ ?_ ?_ ?_ grown <;> simp [State.tailLatched]

-- ## The restart word

/-- The state in which a restart word write has been latched (R129). -/
def State.restartLatched (w : WordWrite) (s : State) : State :=
  (s.arrived (wordRequest (s.anchor + offRestart) w)).latch { s.latched with
    restart := mergeWord s.latched.restart (carried (wordRequest (s.anchor + offRestart) w) (s.anchor + offRestart)) }

/-- A restart word write with a nonzero enabled byte restarts the part (R129, R136). -/
theorem exec_restartWord {s : State} (high : s.rstLow = false) (room : s.hasRoom 0 = true) (hp : s.part ≠ .start)
    {w : WordWrite} (nonzero : ∃ i < 4, w.enable.getLsbD i = true ∧ w.data.extractLsb' (8 * i) 8 ≠ 0#8) :
    exec (.restartWord w) s = .next (s.restartLatched w).restart.closeEvent := by
  obtain ⟨i, small, on, data⟩ := nonzero
  have carries : (carriedBytes (wordRequest (s.anchor + offRestart) w) (s.anchor + offRestart)).any (fun b => b != 0)
      = true := by
    have byte := carriedBytes_getD (s.anchor_add_lt (off := offRestart) (by decide)) w i small
    have inside : i < (carriedBytes (wordRequest (s.anchor + offRestart) w) (s.anchor + offRestart)).length := by
      simpa [carriedBytes, carried] using small
    rw [if_pos on, List.getD_eq_getElem?_getD, List.getElem?_eq_getElem inside, Option.getD_some] at byte
    exact List.any_eq_true.2 ⟨_, List.getElem_mem inside, bne_iff_ne.2 (byte ▸ data)⟩
  have own := (s.arrived (wordRequest (s.anchor + offRestart) w)).latchWords_restartWord w
  have restarts : (s.arrived (wordRequest (s.anchor + offRestart) w)).latchRestart
      (wordRequest (s.anchor + offRestart) w) = (s.restartLatched w).restart :=
    (if_pos (touches_own s w offRestart (by decide))).trans (if_pos carries)
  exact congrArg Host.Outcome.next ((State.requestStep_word high room hp (by decide) (by decide) (by decide) w).trans
    (congrArg State.closeEvent (own.trans restarts)))

/-- The requests of agents stand through a restart (R136). -/
theorem MemPort.restarted_kept {p : MemPort} {m : MemRequest} (agent : m.isOwn = false) (h : m ∈ p.all) :
    m ∈ p.restarted.all := by
  unfold MemPort.restarted
  rw [MemPort.settle_all]
  unfold MemPort.all at h ⊢
  rcases List.mem_append.1 h with issued | waiting
  · exact List.mem_append_left _ (List.mem_map.2 ⟨m, issued, by simp [agent]⟩)
  · exact List.mem_append_right _ (List.mem_filter.2 ⟨waiting, by simp [agent]⟩)

/-- Own requests that stand through a restart have their responses discarded (R136). -/
theorem MemPort.restarted_discards {p : MemPort} {m : MemRequest} (own : m.isOwn = true) (h : m ∈ p.restarted.all) :
    m.discard = true := by
  unfold MemPort.restarted at h
  rw [MemPort.settle_all] at h
  unfold MemPort.all at h
  rcases List.mem_append.1 h with issued | waiting
  · obtain ⟨x, -, rfl⟩ := List.mem_map.1 issued
    split
    · rfl
    · rename_i agent
      rw [if_neg agent] at own
      exact absurd own agent
  · simp [own] at waiting

/-- Settles O5: the tables are reset, the port is restarted, and start-up's requests enter behind what is left. -/
theorem restartWordRestarts : Obligations.RestartWordRestarts := by
  unfold Obligations.RestartWordRestarts
  intro w s high start room nonzero
  obtain ⟨u, hu⟩ : ∃ u, s.restartLatched w = u := ⟨_, rfl⟩
  have port : u.port = (s.arrived (wordRequest (s.anchor + offRestart) w)).port := by
    rw [← hu, State.restartLatched, State.latch_port]
  have grown : s.port.nextId ≤ u.port.nextId := by rw [port]; exact (s.arrived_grows _).1
  have straps : u.straps = s.straps := by rw [← hu]; simp [State.restartLatched]
  have closed := u.restart.closeEvent_port
  have flights : u.flights = (({ s with responses := [] } : State).joinList
      (wordRequest (s.anchor + offRestart) w)).flights := by
    rw [← hu, State.restartLatched, State.latch_flights]; rfl
  refine ⟨_, exec_restartWord high room start nonzero, ?_⟩
  rw [hu]
  refine ⟨State.closeEvent_part _, State.closeEvent_loader _,
    u.restart.closeEvent_reported.tablesReset (State.resetTables_tablesReset _ _ _ _ _ _ _ _ _),
    (State.closeEvent_straps _).trans straps, ?_, ?_, ?_, fun tag other => ?_, ?_, fun m hm => ?_, fun m hm own older => ?_⟩
  · rw [State.closeEvent_dram]; change u.dram = _; rw [← hu]; simp [State.restartLatched]
  · rw [State.closeEvent_assemblies]; change u.assemblies = _; rw [← hu]; simp [State.restartLatched]
  · simp only [State.closeEvent_flights]
    change u.flights[(0 : Tag)] = _
    simp only [flights]
    exact getElem_set_fin_self _ _ _
  · simp only [State.closeEvent_flights]
    change u.flights[tag] = _
    simp only [flights]
    exact getElem_set_fin_ne (fun e => other e.symm) _ _
  · have arrives := s.arrived_enters (wordRequest (s.anchor + offRestart) w)
    rw [Entered, State.requests, ← port] at arrives
    exact ⟨s.port.nextId, arrives.1, closed.kept _ (MemPort.enqueueAll_kept _ _ (MemPort.restarted_kept rfl arrives.2))⟩
  · rw [← straps] at hm
    obtain ⟨id, later, entered⟩ := u.port.restarted.enqueueAll_enters _ hm
    exact ⟨id, grown.trans later, closed.kept _ entered⟩
  · rcases closed.fresh m hm with left | ⟨later, -⟩
    · rcases MemPort.enqueueAll_fresh _ _ left with left | later
      · exact MemPort.restarted_discards own left
      · exact absurd (grown.trans later) (not_le.2 older)
    · have entered := MemPort.enqueueAll_nextId (startUpRequests u.straps) u.port.restarted
      exact absurd ((grown.trans entered).trans later) (not_le.2 older)

end Sys2Proof.Machine

/-! SUPPORT. O53 and O60: the answers to the part's own writes (R134), and what a command does to DRAM: at most what the one
answer of the DRAM controller that it carries does (R124, R126). -/

namespace Sys2Proof.Machine

-- ## Answers as events

/-- A command that is the answer to a live request. -/
theorem State.run_memAnswer_live {s : State} {id : Nat} {m : MemRequest} {owns : Owner → Bool} (a : Answer)
    (act : MemRequest → List Byte → State → State)
    (found : s.port.issued.find? (fun m => m.id == id && owns m.owner) = some m) (live : m.discard = false) :
    s.run (State.memAnswer id a owns act)
      = (act m (s.bytesAt m)
          { s with responses := [], port := s.port.answered id, dram := serve m a s.dram }).closeEvent :=
  congrArg State.closeEvent (State.memAnswer_live (s := { s with responses := [] }) a act found live)

-- ## The part's own writes

/-- A write that no FENCE waits for changes no FENCE (R162). -/
theorem State.fenceAnswered_apart {s : State} (h : ∀ n ws k, s.intake.progress ≠ some (.running n (.fence ws k)))
    (id : Nat) (okay : Bool) : s.fenceAnswered id okay = s := by
  unfold State.fenceAnswered
  split
  · rename_i n ws k running
    exact absurd running (h n ws k)
  · rfl

theorem State.recordFault_intake (f : FaultReport) (s : State) : (s.recordFault f).intake = s.intake := by
  have work := s.logFault_work f
  unfold State.recordFault State.stopIfFatal
  split <;> exact work.intake

/-- The recording of a fault leaves the tables. -/
theorem State.recordFault_tables (f : FaultReport) (s : State) : (s.recordFault f).tickets = s.tickets
    ∧ (s.recordFault f).courses = s.courses ∧ (s.recordFault f).stations = s.stations
    ∧ (s.recordFault f).pool = s.pool ∧ (s.recordFault f).port = s.port := by
  have fold (i : RecordId) : (s.foldFault i).courses = s.courses ∧ (s.foldFault i).stations = s.stations
      ∧ (s.foldFault i).pool = s.pool ∧ (s.foldFault i).port = s.port := by
    unfold State.foldFault
    split
    · split <;> exact ⟨rfl, rfl, rfl, rfl⟩
    · exact ⟨rfl, rfl, rfl, rfl⟩
  have logged : (s.logFault f).courses = s.courses ∧ (s.logFault f).stations = s.stations
      ∧ (s.logFault f).pool = s.pool ∧ (s.logFault f).port = s.port := by
    unfold State.logFault
    split
    · exact fold _
    · split <;> exact ⟨rfl, rfl, rfl, rfl⟩
  obtain ⟨courses, stations, pool, port⟩ := logged
  have tickets := (s.logFault_work f).tickets
  unfold State.recordFault State.stopIfFatal
  split <;> exact ⟨tickets, courses, stations, pool, port⟩

/-- Settles O53, by whether the write's owner records a failure. -/
theorem ownWriteIsAnswered : Obligations.OwnWriteIsAnswered := by
  unfold Obligations.OwnWriteIsAnswered
  intro s id m o a found live owner apart
  have isWrite : o.isWrite = true := by
    have := List.find?_some found
    simp only [owner, Owner.isOwnWrite, Bool.and_eq_true] at this
    exact this.2
  have runs := State.run_memAnswer_live a (State.ownWriteReturned a) found live
  generalize ht : ({ s with responses := [], port := s.port.answered id, dram := serve m a s.dram } : State) = t at runs
  have intake : t.intake = s.intake := by rw [← ht]
  have quiet {u : State} (h : u.intake = s.intake) : u.fenceAnswered m.id a.isOkay = u :=
    State.fenceAnswered_apart (by rw [h]; exact apart) _ _
  have unchanged (h : State.ownWriteReturned a m (s.bytesAt m) t = t) : ∃ v, exec (.ownWriteDone id a) s = .next v
      ∧ ReportedFrom { s with responses := [], dram := serve m a s.dram } v := by
    refine ⟨_, congrArg Host.Outcome.next runs, ?_⟩
    rw [h]
    have reported := t.closeEvent_reported
    unfold ReportedFrom at reported ⊢
    rw [← ht] at reported ⊢
    exact reported
  have fails (bad : a ≠ .okay) : State.ownWriteReturned a m (s.bytesAt m) t =
    (t.ownWriteFailed m).fenceAnswered m.id a.isOkay := by
    cases a with
    | okay => exact absurd rfl bad
    | error left => rfl
  refine ⟨?good, ?recorded, ?silent⟩
  case good =>
    rintro rfl
    exact unchanged (quiet intake)
  case silent =>
    intro bad mirror
    refine unchanged ?_
    rw [fails bad, State.ownWriteFailed_notice owner mirror]
    exact quiet intake
  case recorded =>
    intro bad noMirror noNotice
    have records {f : FaultReport} (hf : o.writeFault m = some f) :
        exec (.ownWriteDone id a) s = .next (t.recordFault f).closeEvent ∧ Logs s (t.recordFault f).closeEvent f
          ∧ (t.recordFault f).closeEvent.intake = s.intake ∧ (t.recordFault f).closeEvent.tickets = s.tickets
          ∧ (t.recordFault f).closeEvent.courses = s.courses
          ∧ (t.recordFault f).closeEvent.stations = s.stations := by
      have records : t.ownWriteFailed m = t.recordFault f := by
        unfold State.ownWriteFailed
        rw [owner]
        simp only [hf]
      obtain ⟨tickets, courses, stations, -, -⟩ := t.recordFault_tables f
      rw [State.closeEvent_intake, State.closeEvent_tickets, State.closeEvent_courses, State.closeEvent_stations,
        tickets, courses, stations, State.recordFault_intake, ← ht]
      refine ⟨congrArg Host.Outcome.next ?_, ?_, rfl, rfl, rfl, rfl⟩
      · rw [ht, ← records, ← quiet (u := t.ownWriteFailed m) (by rw [records, State.recordFault_intake, intake]),
          ← fails bad]
        exact runs
      · refine (t.recordFault_logs f).congr ?_ ?_ ?_ ?_
        · rw [← ht]
        · rw [← ht]
        · rw [State.closeEvent_faults, ← ht]
        · rw [State.closeEvent_overflow, ← ht]
    cases o with
    | setupRead | planRead | entryFetch | lineFetch | dishFill => exact nomatch isWrite
    | faultMirror i => exact absurd rfl (noMirror i)
    | noticeWord => exact absurd rfl noNotice
    | _ =>
      obtain ⟨runs, logs, rest⟩ := records rfl
      exact ⟨_, _, runs, logs, rfl, rfl, rfl, by simp, by simp, by simp, by simp, by simp, by simp, by simp, by simp,
        rest⟩

-- ## DRAM

/-- The bytes that a write puts, where they are enabled (R118). -/
def enabledBytes (enables : List Bool) (bs : List Byte) : List (Option Byte) :=
  (enables.zip bs).map (fun e => if e.1 then some e.2 else none)

/-- The bytes that an answered write puts: its data, or what a failed one has left (R126; log 4). -/
def MemRequest.puts (m : MemRequest) : Answer → List (Option Byte)
  | .okay => enabledBytes m.enables m.data
  | .error left => enabledBytes m.enables left

theorem serve_write {m : MemRequest} (write : m.kind = .write) (a : Answer) (d : Memory) :
    serve m a d = Memory.writeBytes d m.addr (m.puts a) := by
  unfold serve
  rw [write]
  cases a <;> rfl

theorem enabledBytes_length (enables : List Bool) (bs : List Byte) :
    (enabledBytes enables bs).length ≤ enables.length := by
  rw [enabledBytes, List.length_map, List.length_zip]
  exact Nat.min_le_left _ _

theorem enabledBytes_some {enables : List Bool} {bs : List Byte} {i : Nat} {b : Byte} (on : enables[i]? = some true)
    (datum : bs[i]? = some b) : (enabledBytes enables bs)[i]? = some (some b) := by
  have pair : (enables.zip bs)[i]? = some (true, b) := List.getElem?_zip_eq_some.2 ⟨on, datum⟩
  rw [enabledBytes, List.getElem?_map, pair]
  rfl

/-- A position at which nothing is put. -/
theorem enabledBytes_none {enables : List Bool} {bs : List Byte} {i : Nat} {o : Option Byte}
    (free : enables[i]? = some true → bs[i]? = none) (h : (enabledBytes enables bs)[i]? = some o) : o = none := by
  rw [enabledBytes, List.getElem?_map] at h
  obtain ⟨⟨on, b⟩, pair, value⟩ := Option.map_eq_some_iff.1 h
  obtain ⟨onAt, datum⟩ := List.getElem?_zip_eq_some.1 pair
  cases on with
  | false => exact value.symm
  | true => exact nomatch (free onAt).symm.trans datum

/-- A request that serves no byte of an address leaves it (R124, R126). -/
theorem serve_apart {m : MemRequest} {x : Nat} (a : Answer) (d : Memory)
    (h : m.kind = .write → x < m.addr ∨ m.addr + m.enables.length ≤ x) :
    Memory.read x (serve m a d) = Memory.read x d := by
  cases kind : m.kind with
  | read => rw [serve_read m a d kind]
  | write =>
    have short : (m.puts a).length ≤ m.enables.length := by cases a <;> exact enabledBytes_length _ _
    rw [serve_write kind]
    have apart := h kind
    exact Memory.read_writeBytes_other _ (by omega) d

/-- What one command does to DRAM: nothing, or what one answered write does. -/
def Serves (s t : State) : Prop :=
  t.dram = s.dram ∨ ∃ m ∈ s.port.issued ++ s.port.orphans, ∃ a, t.dram = serve m a s.dram

section Dram
variable (s : State)

theorem State.event_dram {f : State → State} (h : (f s).dram = s.dram) : (s.event f).dram = s.dram :=
  (State.closeEvent_dram _).trans h

theorem State.runLive_dram {f : State → State} (h : ∀ t, (f t).dram = t.dram) : (s.runLive f).dram = s.dram := by
  have seen (t : State) : (if t.rstLow then t else f t).dram = t.dram := by
    split
    · rfl
    · exact h t
  exact (State.closeEvent_dram _).trans (seen { s with responses := [] })

/-- An answer does to DRAM what it says, when its owner leaves DRAM. -/
theorem State.run_memAnswer_serves (id : Nat) (a : Answer) (owns : Owner → Bool)
    {act : MemRequest → List Byte → State → State} (h : ∀ m bs t, (act m bs t).dram = t.dram) :
    Serves s (s.run (State.memAnswer id a owns act)) := by
  have closed : (s.run (State.memAnswer id a owns act)).dram
      = (({ s with responses := [] } : State).memAnswer id a owns act).dram := State.closeEvent_dram _
  unfold Serves
  rw [closed]
  unfold State.memAnswer
  split
  · rename_i m found
    refine .inr ⟨m, List.mem_append_left _ (List.mem_of_find?_eq_some found), a, ?_⟩
    simp only
    split
    · rfl
    · exact h _ _ _
  · split
    · rename_i m found
      exact .inr ⟨m, List.mem_append_right _ (List.mem_of_find?_eq_some found), a, rfl⟩
    · exact .inl rfl

theorem State.setupReturned_dram (a : Answer) (m : MemRequest) (bs : List Byte) :
    (s.setupReturned a m bs).dram = s.dram := by
  have recorded (f : FaultReport) := (s.recordFault_work f).dram
  unfold State.setupReturned
  split
  · split
    · rfl
    · exact recorded _
  · split
    · unfold State.setupRead
      split
      · exact recorded _
      · unfold State.putSetup
        simp only
        split
        · exact (State.loadInvalid_work _ _ _ _).dram
        · rfl
    · exact recorded _
  all_goals rfl

theorem State.memReturned_dram (a : Answer) (m : MemRequest) (bs : List Byte) :
    (s.memReturned a m bs).dram = s.dram := by
  unfold State.memReturned
  split <;> rfl

theorem State.assemblyReturned_dram (a : Answer) (m : MemRequest) (bs : List Byte) :
    (s.assemblyReturned a m bs).dram = s.dram := by
  unfold State.assemblyReturned
  split
  · rfl
  · simp only
    split <;> rfl

theorem State.latchWords_dram (r : Request) : (s.latchWords r).dram = s.dram := by
  have tail (t : State) : (t.latchTail r).dram = t.dram := by
    unfold State.latchTail
    split
    · exact (State.takeTail_work _ _).dram
    · rfl
  have mask (t : State) : (t.latchMask r).dram = t.dram := by unfold State.latchMask; split <;> rfl
  have clear (t : State) : (t.latchClear r).dram = t.dram := by
    unfold State.latchClear
    split
    · simp only
      rw [State.takeClear_only]
    · rfl
  have restart (t : State) : (t.latchRestart r).dram = t.dram := by
    unfold State.latchRestart State.takeRestart
    split
    · split <;> rfl
    · rfl
  exact (restart _).trans ((clear _).trans ((mask _).trans (tail s)))

theorem State.treat_dram (id : Nat) (r : Request) (v : Verdict) : (s.treat id r v).dram = s.dram := by
  have refused (f : FaultReport) : (s.refuse id r f).dram = s.dram := (State.recordFault_work _ _).dram
  cases v with
  | refused c => exact refused _
  | forwarded => rfl
  | latched => exact State.latchWords_dram _ _
  | translated p =>
    change (s.translate id r p).dram = s.dram
    unfold State.translate
    split
    · have effect (t : State) : (t.readEffect r.tag p).dram = t.dram := by
        unfold State.readEffect
        split
        · exact (t.linkRead_work _ _).dram
        · rfl
      unfold State.translateRead
      split
      · exact effect _
      · refine (effect _).trans ?_
        unfold State.openAssembly
        split <;> rfl
    · unfold State.translateBump
      split
      · exact refused _
      · split
        · exact refused _
        · split
          · exact refused _
          · exact (State.bumpEffect_work _ _ _ _ _).dram

theorem State.present_dram (r : Request) : (s.present r).dram = s.dram := by
  unfold State.present
  split
  · exact State.treat_dram _ _ _ _
  · rfl

theorem State.admitLoop_dram (n : Nat) : (s.admitLoop n).dram = s.dram := by
  induction n generalizing s with
  | zero => rfl
  | succ n ih =>
    unfold State.admitLoop
    split
    · rfl
    · refine (ih _).trans ?_
      exact State.event_dram { s with portWaiting := s.portWaiting.erase _ } (State.treat_dram _ _ _ _)

theorem State.paidTick_dram (order : TickOrder) :
    ((if s.rstLow || s.part != .ready || s.ticksDue == 0 then { s with responses := [] }
      else (List.finRange 32).foldl State.payTick { s with responses := [] }).event
      (fun t => if t.rstLow then t else t.tick order)).dram = s.dram := by
  have pays (t : State) (st : StationId) : (t.payTick st).dram = t.dram := by
    unfold State.payTick
    split
    · exact t.event_dram (t.takeOwed_work st).dram
    · rfl
  have ticks (t : State) : (if t.rstLow then t else t.tick order).dram = t.dram := by
    split
    · rfl
    · unfold State.tick
      split
      · rfl
      · simp only
        split
        · exact (State.takersTick_work _ _).dram
        · rfl
  refine (State.event_dram _ (ticks _)).trans ?_
  split
  · rfl
  · exact foldl_rel (R := fun a b => b.dram = a.dram) (fun _ => rfl) (fun h g => g.trans h) pays _ _

end Dram

/-- Every command does to DRAM at most what one answer does. -/
theorem exec_serves (c : Instr) (s : State) : ∃ t, exec c s = .next t ∧ Serves s t := by
  have admitted {t : State} (h : Serves s t) : Serves s t.admitWaiting := by
    unfold Serves State.admitWaiting
    rw [State.admitLoop_dram]
    exact h
  have taken (n : Bool) (k : Command) : Serves s (s.takeAs n k) := by
    unfold State.takeAs
    split
    · split
      · exact s.run_memAnswer_serves _ _ _ fun m bs t => (t.entryFetched_work _ m bs).dram
      · exact .inl rfl
    · exact .inl rfl
  cases c with
  | requestArrival | tailWord | noticeMask | clearWord | restartWord | windowRead | bumpWrite =>
    exact ⟨_, rfl, .inl (s.runLive_dram fun t => t.present_dram _)⟩
  | forwardedResponse id a =>
    exact ⟨_, rfl, admitted (s.run_memAnswer_serves id a _ fun m bs t => t.memReturned_dram a m bs)⟩
  | assemblyReadReturn id a =>
    exact ⟨_, rfl, admitted (s.run_memAnswer_serves id a _ fun m bs t => t.assemblyReturned_dram a m bs)⟩
  | redirectedBumpDone id a =>
    exact ⟨_, rfl, admitted (s.run_memAnswer_serves id a _ fun m bs t => t.memReturned_dram a m bs)⟩
  | entryFetchDone id a => exact ⟨_, rfl, s.run_memAnswer_serves id a _ fun m bs t => (t.entryFetched_work a m bs).dram⟩
  | lineFetchDone id a => exact ⟨_, rfl, s.run_memAnswer_serves id a _ fun m bs t => (t.lineFetched_work a m bs).dram⟩
  | dishFillDone id a => exact ⟨_, rfl, s.run_memAnswer_serves id a _ fun m bs t => (t.dishFilled_work a m bs).dram⟩
  | planLineReadDone id a =>
    exact ⟨_, rfl, s.run_memAnswer_serves id a _ fun m bs t => (t.planLineReturned_work a m bs).dram⟩
  | ownWriteDone id a =>
    exact ⟨_, rfl, s.run_memAnswer_serves id a _ fun m bs t => (t.ownWriteReturned_work a m bs).dram⟩
  | setupReadDone id a => exact ⟨_, rfl, s.run_memAnswer_serves id a _ fun m bs t => t.setupReturned_dram a m bs⟩
  | trefPeriod =>
    refine ⟨_, rfl, .inl (s.runLive_dram fun t => ?_)⟩
    unfold State.trefPeriod State.divide
    simp only
    split
    · split <;> rfl
    · rfl
  | tick order => exact ⟨_, rfl, .inl (s.paidTick_dram order)⟩
  | ackTimerExpiry st => exact ⟨_, rfl, .inl (s.runLive_dram fun t => (t.ackTimerExpiry_work st).dram)⟩
  | rstFall => exact ⟨_, rfl, .inl (s.runLive_dram fun t => rfl)⟩
  | rstRise straps =>
    refine ⟨_, rfl, .inl (State.event_dram { s with responses := [] } ?_)⟩
    split <;> rfl
  | _ => exact ⟨_, rfl, taken _ _⟩

/-- An answered write leaves its enabled bytes in DRAM, and every other byte (R124). -/
theorem serve_okay_write {m : MemRequest} (write : m.kind = .write) {d : Memory} (canonical : Memory.wf d = true) :
    (∀ (i : Nat) (b : Byte), m.enables[i]? = some true → m.data[i]? = some b →
      Memory.read (m.addr + i) (serve m .okay d) = b)
    ∧ ∀ x, (∀ i, m.addr + i = x → m.enables[i]? = some true → m.data[i]? = none) →
      Memory.read x (serve m .okay d) = Memory.read x d := by
  rw [serve_write write]
  refine ⟨fun i b on datum => ?_, fun x free => ?_⟩
  · obtain ⟨inside, byte⟩ := List.getElem?_eq_some_iff.1 (enabledBytes_some on datum)
    rw [Memory.read_writeBytes (m.puts .okay) m.addr i inside canonical]
    exact (congrArg (fun o : Option Byte => o.getD (Memory.read (m.addr + i) d)) byte : _)
  · by_cases inside : m.addr ≤ x ∧ x - m.addr < (m.puts .okay).length
    · obtain ⟨above, inside⟩ := inside
      have place : m.addr + (x - m.addr) = x := Nat.add_sub_cancel' above
      have byte : (m.puts .okay)[x - m.addr] = none :=
        enabledBytes_none (free _ place) (List.getElem?_eq_getElem inside)
      have value := Memory.read_writeBytes (m.puts .okay) m.addr (x - m.addr) inside canonical
      rw [place, byte] at value
      exact value
    · exact Memory.read_writeBytes_other (m.puts .okay) (by omega) d

/-- A command that is the answer to an issued request serves it, whether its response is discarded or not. -/
theorem State.run_memAnswer_dram {s : State} {id : Nat} {m : MemRequest} {owns : Owner → Bool} (a : Answer)
    {act : MemRequest → List Byte → State → State} (h : ∀ m bs t, (act m bs t).dram = t.dram)
    (found : s.port.issued.find? (fun x => x.id == id && owns x.owner) = some m) :
    (s.run (State.memAnswer id a owns act)).dram = serve m a s.dram := by
  refine (State.closeEvent_dram _).trans ?_
  cases live : m.discard with
  | false =>
    rw [State.memAnswer_live (s := { s with responses := [] }) a act found live]
    exact h _ _ _
  | true => rw [State.memAnswer_discarded (s := { s with responses := [] }) a act found live]

/-- Settles O60: a byte changes under a served write alone. -/
theorem dramChangesOnlyUnderWrites : Obligations.DramChangesOnlyUnderWrites := by
  unfold Obligations.DramChangesOnlyUnderWrites
  refine ⟨fun c s t x runs apart => ?_, fun s id c owns m row found write canonical => ?_⟩
  · obtain ⟨u, runs', serves⟩ := exec_serves c s
    obtain rfl : t = u := by simpa using runs.symm.trans runs'
    rcases serves with same | ⟨m, inFlight, a, served⟩
    · rw [same]
    · rw [served]
      exact serve_apart a _ (apart m inFlight)
  · have served : ∃ t, exec c s = .next t ∧ t.dram = serve m .okay s.dram := by
      rcases row with ⟨rfl, rfl⟩ | ⟨rfl, rfl⟩ | ⟨rfl, rfl⟩
      · exact ⟨_, rfl, (State.admitLoop_dram _ _).trans
          (s.run_memAnswer_dram .okay (fun m bs t => t.memReturned_dram .okay m bs) found)⟩
      · exact ⟨_, rfl, (State.admitLoop_dram _ _).trans
          (s.run_memAnswer_dram .okay (fun m bs t => t.memReturned_dram .okay m bs) found)⟩
      · exact ⟨_, rfl, s.run_memAnswer_dram .okay (fun m bs t => (t.ownWriteReturned_work .okay m bs).dram) found⟩
    obtain ⟨t, runs, dram⟩ := served
    exact ⟨t, runs, dram ▸ serve_okay_write write canonical⟩

end Sys2Proof.Machine

/-! SUPPORT. O20: the bytes that the part forms, read back byte by byte (R142, R143, R185, R186). -/

namespace Sys2Proof.Machine

-- ## Reading fields out of a layout

theorem byteAt_append_right {as bs : List Byte} {i : Nat} (h : as.length ≤ i) :
    byteAt (as ++ bs) i = byteAt bs (i - as.length) := by
  simp only [byteAt, List.getD_append_right as bs 0 i h]

theorem leNat_append_right {as bs : List Byte} {i : Nat} (h : as.length ≤ i) (n : Nat) :
    leNat (as ++ bs) i n = leNat bs (i - as.length) n := by
  induction n generalizing i with
  | zero => rfl
  | succ n ih =>
    rw [leNat, leNat, byteAt_append_right h, ih (Nat.le_succ_of_le h), Nat.succ_sub h]

/-- The field at the front of a layout holds its value, as far as its bytes hold it. -/
theorem leNat_leBytes_append (n v : Nat) (bs : List Byte) : leNat (leBytes n v ++ bs) 0 n = v % 256 ^ n := by
  induction n generalizing v with
  | zero => rw [Nat.pow_zero, Nat.mod_one]; rfl
  | succ n ih =>
    have first : byteAt (leBytes (n + 1) v ++ bs) 0 = v % 256 := BitVec.toNat_ofNat v 8
    have rest : leNat (leBytes (n + 1) v ++ bs) 1 n = leNat (leBytes n (v / 256) ++ bs) 0 n :=
      leNat_append_right (as := [BitVec.ofNat 8 v]) (Nat.le_refl 1) n
    rw [leNat, first, rest, ih, Nat.pow_succ', Nat.mod_mul]

theorem byteAt_leBytes_append (v : Nat) (bs : List Byte) : byteAt (leBytes 1 v ++ bs) 0 = v % 256 := BitVec.toNat_ofNat v 8

theorem byteAt_zeros (n i : Nat) : byteAt (zeros n) i = 0 := by
  rw [byteAt, zeros, List.getD_eq_getElem?_getD, List.getElem?_getD_replicate_default_eq]
  rfl

theorem byteAt_append_zeros {as : List Byte} {i : Nat} (h : as.length ≤ i) (n : Nat) :
    byteAt (as ++ zeros n) i = 0 := by
  rw [byteAt_append_right h, byteAt_zeros]

theorem byteAt_zeros_append {n i : Nat} (h : i < n) (bs : List Byte) : byteAt (zeros n ++ bs) i = 0 := by
  rw [byteAt, List.getD_append _ _ _ _ (by rw [length_zeros]; exact h)]
  exact byteAt_zeros n i

/-- A layout's last field. -/
theorem leNat_leBytes (n v : Nat) : leNat (leBytes n v) 0 n = v % 256 ^ n := by
  have := leNat_leBytes_append n v []
  rwa [List.append_nil] at this

-- ## The layouts

theorem Course.mirrorBytes_layout (c : Course) : c.mirrorBytes.length = 16
    ∧ byteAt c.mirrorBytes 0 = (match c.state with
        | .idle => 0 | .staged => 1 | .fired => 2 | .held => 3 | .passed => 4 | .cleared => 5)
    ∧ (c.countdown < 65536 → leNat c.mirrorBytes 2 2 = c.countdown)
    ∧ (c.late < 65536 → leNat c.mirrorBytes 4 2 = c.late)
    ∧ (c.openCount < 65536 → leNat c.mirrorBytes 6 2 = c.openCount)
    ∧ (∀ i, i = 1 ∨ 8 ≤ i → byteAt c.mirrorBytes i = 0) := by
  refine ⟨by simp [Course.mirrorBytes], ?state, fun h => ?countdown, fun h => ?late, fun h => ?openCount,
    fun i hi => ?reserved⟩
  case reserved =>
    rcases hi with rfl | hi
    · simp [Course.mirrorBytes, byteAt_append_right, byteAt_zeros_append]
    · exact byteAt_append_zeros (by simp; exact hi) 8
  case state =>
    simp only [Course.mirrorBytes, List.append_assoc, byteAt_leBytes_append]
    cases c.state <;> rfl
  all_goals
    simp [Course.mirrorBytes, leNat_append_right, leNat_leBytes_append]
    exact h

theorem Station.mirrorBytes_layout (x : Station) : x.mirrorBytes.length = 16
    ∧ byteAt x.mirrorBytes 0 = (match x.state with | .closed => 0 | .opened => 1 | .paused => 2 | .down => 3)
    ∧ (x.tokens < 256 → byteAt x.mirrorBytes 1 = x.tokens)
    ∧ (x.queue.length < 65536 → leNat x.mirrorBytes 2 2 = x.queue.length)
    ∧ (x.stranded.length < 65536 → leNat x.mirrorBytes 4 2 = x.stranded.length)
    ∧ (x.retry < 256 → byteAt x.mirrorBytes 6 = x.retry)
    ∧ (∀ i, 7 ≤ i → byteAt x.mirrorBytes i = 0) := by
  refine ⟨by simp [Station.mirrorBytes], ?state, fun h => ?tokens, fun h => ?queue, fun h => ?stranded,
    fun h => ?retry, fun i hi => byteAt_append_zeros (by simp; exact hi) 9⟩
  case state =>
    simp only [Station.mirrorBytes, List.append_assoc, byteAt_leBytes_append]
    cases x.state <;> rfl
  case queue =>
    rw [Station.queue, List.length_append] at h ⊢
    simp [Station.mirrorBytes, leNat_append_right, leNat_leBytes_append]
    exact h
  case stranded =>
    simp [Station.mirrorBytes, leNat_append_right, leNat_leBytes_append]
    exact h
  all_goals
    simp [Station.mirrorBytes, byteAt_append_right, byteAt_leBytes_append]
    exact h

theorem Service.mirrorBytes_layout (v : Service) : v.mirrorBytes.length = 16
    ∧ byteAt v.mirrorBytes 0 = (match v.state with | .none => 0 | .running => 1 | .stalled => 2 | .ended => 3)
    ∧ (v.position < 256 → byteAt v.mirrorBytes 1 = v.position)
    ∧ byteAt v.mirrorBytes 2 = (if v.pending = none then 0 else 1)
    ∧ (∀ i, 3 ≤ i → byteAt v.mirrorBytes i = 0) := by
  refine ⟨by simp [Service.mirrorBytes], ?state, fun h => ?position, ?pending,
    fun i hi => byteAt_append_zeros (by simp; exact hi) 13⟩
  case state =>
    simp only [Service.mirrorBytes, List.append_assoc, byteAt_leBytes_append]
    cases v.state <;> rfl
  case position =>
    simp [Service.mirrorBytes, byteAt_append_right, byteAt_leBytes_append]
    exact h
  case pending =>
    simp only [Service.mirrorBytes, List.append_assoc, byteAt_append_right, byteAt_leBytes_append, length_leBytes,
      Nat.reduceLeDiff, Nat.reduceSub]
    cases v.pending <;> rfl

theorem faultBytes_layout (x : FaultRecord) : (faultBytes (some x)).length = 32
    ∧ byteAt (faultBytes (some x)) 0 = 1
    ∧ byteAt (faultBytes (some x)) 1 = (match x.report.reason with
        | .accessRefused => 1 | .badTail => 2 | .ownReadFailed => 3 | .ownWriteFailed => 4 | .stationDown => 5
        | .noBackup => 6 | .stranded => 7 | .badBump => 8 | .liveLimit => 9 | .setupInvalid => 10
        | .planInvalid => 11)
    ∧ byteAt (faultBytes (some x)) 2 = x.report.source.val
    ∧ (x.report.sub < 256 → byteAt (faultBytes (some x)) 3 = x.report.sub)
    ∧ (x.report.station < 256 → byteAt (faultBytes (some x)) 4 = x.report.station)
    ∧ (x.report.course < 256 → byteAt (faultBytes (some x)) 5 = x.report.course)
    ∧ (x.report.line < 65536 → leNat (faultBytes (some x)) 6 2 = x.report.line)
    ∧ (x.report.addr < 2 ^ 40 → leNat (faultBytes (some x)) 8 5 = x.report.addr)
    ∧ (x.count < 256 → byteAt (faultBytes (some x)) 13 = x.count)
    ∧ (∀ i, 14 ≤ i → byteAt (faultBytes (some x)) i = 0) := by
  refine ⟨by simp [faultBytes], by simp [faultBytes, byteAt_leBytes_append], ?reason, ?source, fun h => ?sub,
    fun h => ?station, fun h => ?course, fun h => ?line, fun h => ?addr, fun h => ?count,
    fun i hi => byteAt_append_zeros (by simp; exact hi) 18⟩
  case reason =>
    simp only [faultBytes, List.append_assoc, byteAt_append_right, byteAt_leBytes_append, length_leBytes,
      Nat.reduceSub, Nat.le_refl]
    cases x.report.reason <;> rfl
  case source =>
    have small := x.report.source.isLt
    simp [faultBytes, byteAt_append_right, byteAt_leBytes_append]
    omega
  case line | addr =>
    simp [faultBytes, leNat_append_right, leNat_leBytes_append]
    exact h
  all_goals
    simp [faultBytes, byteAt_append_right, byteAt_leBytes_append]
    exact h

theorem finishedBytes_layout (k : Ticket) (o : TicketOutcome) : (finishedBytes k o).length = 8
    ∧ leNat (finishedBytes k o) 0 2 = k.hostId.toNat
    ∧ (k.line < 65536 → leNat (finishedBytes k o) 2 2 = k.line)
    ∧ byteAt (finishedBytes k o) 4 = k.course.val
    ∧ byteAt (finishedBytes k o) 5 = (match o with | .allDone => 1 | .partVoid => 2 | .allVoid => 3)
    ∧ (∀ i, 6 ≤ i → byteAt (finishedBytes k o) i = 0) := by
  refine ⟨by simp [finishedBytes], ?hostId, fun h => ?line, ?course, ?outcome,
    fun i hi => byteAt_append_zeros (by simp; exact hi) 2⟩
  case hostId =>
    simp [finishedBytes, leNat_leBytes_append]
    exact k.hostId.isLt
  case line =>
    simp [finishedBytes, leNat_append_right, leNat_leBytes_append]
    exact h
  case course =>
    have small := k.course.isLt
    simp [finishedBytes, byteAt_append_right, byteAt_leBytes_append]
    omega
  case outcome =>
    simp only [finishedBytes, List.append_assoc, byteAt_append_right, byteAt_leBytes_append, length_leBytes,
      Nat.reduceLeDiff, Nat.reduceSub, Nat.le_refl]
    cases o <;> rfl

theorem bitIf_eq (b : Bool) (i : Nat) : bitIf b i = if b then 2 ^ i else 0 := rfl

theorem viewFlags_lt (b : Batch) : b.viewFlags < 256 := by
  simp only [Batch.viewFlags, bitIf_eq]
  split <;> split <;> split <;> split <;> split <;> decide

theorem State.synthBytes_layout (s : State) (k : Ticket) (b : Batch) (fits : b.number < 32) :
    (s.synthBytes k b).length = 8
    ∧ leNat (s.synthBytes k b) 0 2 = k.hostId.toNat
    ∧ byteAt (s.synthBytes k b) 2 = b.number + (if b.number + 1 = k.batches.length then 128 else 0)
    ∧ byteAt (s.synthBytes k b) 3 = (if b.late then 1 else 0) + (if b.kind = .special then 2 else 0)
        + (if b.voided then 4 else 0) + (if b.moved then 8 else 0) + (if b.rush then 16 else 0)
    ∧ (b.portions < 65536 → leNat (s.synthBytes k b) 4 2 = b.portions)
    ∧ ((s.courses[k.course]).countdown < 65536 →
        leNat (s.synthBytes k b) 6 2 = (s.courses[k.course]).countdown - (s.courses[k.course]).plan.marks[k.wave]) := by
  refine ⟨by simp [State.synthBytes], ?hostId, ?number, ?flags, fun h => ?portions, fun h => ?timeToPass⟩
  case hostId =>
    simp [State.synthBytes, leNat_leBytes_append]
    exact k.hostId.isLt
  case number =>
    simp [State.synthBytes, byteAt_append_right, byteAt_leBytes_append, bitIf_eq]
    split <;> omega
  case flags =>
    have field : byteAt (s.synthBytes k b) 3 = b.viewFlags := by
      simp [State.synthBytes, byteAt_append_right, byteAt_leBytes_append]
      exact viewFlags_lt b
    rw [field]
    simp only [Batch.viewFlags, bitIf_eq, beq_iff_eq, Nat.reducePow]
  case portions =>
    simp [State.synthBytes, leNat_append_right, leNat_leBytes_append]
    exact h
  case timeToPass =>
    simp [State.synthBytes, leNat_append_right, leNat_leBytes]
    exact Nat.mod_eq_of_lt (Nat.lt_of_le_of_lt (Nat.sub_le _ _) h)

/-- Settles O20, layout by layout. -/
theorem synthesizedBytes : Obligations.SynthesizedBytes := by
  unfold Obligations.SynthesizedBytes
  exact ⟨State.synthBytes_layout, Course.mirrorBytes_layout, Station.mirrorBytes_layout, Service.mirrorBytes_layout,
    ⟨byteAt_zeros 32, length_zeros 32, faultBytes_layout⟩, finishedBytes_layout,
    rfl, fun _ => rfl, fun _ => rfl, fun _ => rfl, fun _ => rfl, fun _ _ => rfl⟩

end Sys2Proof.Machine

/-! SUPPORT. O8, O9 and O10: the front port. A request that has room arrives and is judged; the answer to a memory request
completes its request in flight and returns what is complete at the front of its list (R120, R122, R127). -/

namespace Sys2Proof.Machine

-- ## A request's event

/-- A request's joining of its list, as a row of the table begins it. -/
def State.joined (r : Request) (s : State) : State := ({ s with responses := [] } : State).joinList r

section Joined
variable (r : Request) (s : State)

@[simp] theorem State.joined_faults : (s.joined r).faults = s.faults := (rfl)
@[simp] theorem State.joined_overflow : (s.joined r).overflow = s.overflow := (rfl)
@[simp] theorem State.joined_port : (s.joined r).port = s.port := (rfl)
@[simp] theorem State.joined_responses : (s.joined r).responses = [] := (rfl)
@[simp] theorem State.joined_pool : (s.joined r).pool = s.pool := (rfl)
@[simp] theorem State.joined_tickets : (s.joined r).tickets = s.tickets := (rfl)
@[simp] theorem State.joined_stations : (s.joined r).stations = s.stations := (rfl)
@[simp] theorem State.joined_courses : (s.joined r).courses = s.courses := (rfl)

theorem State.joined_flights : (s.joined r).flights
    = s.flights.set r.tag (s.flights[r.tag] ++ [{ id := s.arrivals, req := r, response := none }]) := (rfl)

theorem State.joined_list : (s.joined r).flights[r.tag]
    = s.flights[r.tag] ++ [{ id := s.arrivals, req := r, response := none }] :=
  getElem_set_fin_self _ _ _

end Joined

/-- What the Classifier reads of the state. -/
theorem State.classify_congr {s t : State} (part : t.part = s.part) (straps : t.straps = s.straps)
    (setup : t.setup = s.setup) (locks : t.locks = s.locks) (r : Request) : t.classify r = s.classify r := by
  have region (a : Nat) : t.regionOf a = s.regionOf a := by
    unfold State.regionOf State.anchor State.knownSetup?
    rw [part, straps, setup]
  have write (tag : Tag) (a : Nat) (g : Region) : t.judgeWrite tag a g = s.judgeWrite tag a g := by
    unfold State.judgeWrite State.locked State.poolLine State.poolBase
    rw [locks, setup]
  have judge (g : Region) : t.judgeRegion r.tag r.kind r.addr.toNat g = s.judgeRegion r.tag r.kind r.addr.toNat g := by
    unfold State.judgeRegion State.judgeWindow
    rw [setup, part, write]
  unfold State.classify
  rw [region, region, judge]

theorem State.hasRoom_congr {s t : State} (flights : t.flights = s.flights) (tag : Tag) :
    t.hasRoom tag = s.hasRoom tag := by
  unfold State.hasRoom
  rw [flights]

/-- A request with room arrives and is treated by its judgement (R120, R122). -/
theorem State.requestStep_room {s : State} {r : Request} (high : s.rstLow = false) (room : s.hasRoom r.tag = true) :
    s.requestStep r = ((s.joined r).treat s.arrivals r (s.classify r)).closeEvent := by
  have room' := (State.hasRoom_congr (t := { s with responses := [] }) rfl r.tag).trans room
  have judged := State.classify_congr (s := s) (t := { s with responses := [] }) rfl rfl rfl rfl r
  unfold State.requestStep
  rw [State.runLive_high high, State.present, if_pos room', State.accept, judged]
  rfl

/-- A request without room waits at the front port (log 14). -/
theorem State.requestStep_full {s : State} {r : Request} (high : s.rstLow = false) (full : s.hasRoom r.tag = false) :
    s.requestStep r = ({ s with portWaiting := s.portWaiting ++ [r], responses := [] } : State).closeEvent := by
  have full' := (State.hasRoom_congr (t := { s with responses := [] }) rfl r.tag).trans full
  unfold State.requestStep
  rw [State.runLive_high high, State.present, if_neg (Bool.eq_false_iff.1 full')]

-- ## O9

theorem State.arrived_flights (r : Request) (s : State) : (s.arrived r).flights
    = s.flights.set r.tag (s.flights[r.tag] ++ [{ id := s.arrivals, req := r, response := none }]) := (rfl)

/-- Settles O9: a forwarded request by its event, a request without room by its waiting. -/
theorem forwardedRequestIsUnchanged : Obligations.ForwardedRequestIsUnchanged := by
  unfold Obligations.ForwardedRequestIsUnchanged
  refine ⟨fun s r high room judged => ?_, fun s r c high full row => ?_⟩
  · have runs : s.requestStep r = (s.arrived r).closeEvent := by
      rw [State.requestStep_room high room, judged]
      rfl
    have entered : Issues s (s.arrived r).closeEvent (forwardOf s.arrivals r) :=
      Issues.mono ⟨_, s.arrived_enters r⟩ (State.closeEvent_port _)
    have flights := State.closeEvent_flights (s.arrived r)
    rw [State.arrived_flights] at flights
    refine ⟨_, _, congrArg Host.Outcome.next runs, entered, rfl, rfl, rfl, rfl, rfl, rfl, ?_, fun tag apart => ?_, ?_⟩
    · rw [flights, getElem_set_fin_self]
    · rw [flights, getElem_set_fin_ne (Ne.symm apart)]
    · have reported := (s.arrived r).closeEvent_reported
      unfold ReportedFrom at reported ⊢
      rw [flights]
      exact reported
  · have noRoom : s.hasRoom r.tag = false := decide_eq_false (Nat.not_lt.2 full)
    have isRow : exec c s = .next (s.requestStep r) := by
      rcases row with rfl | ⟨tag, addr, len, rfl, rfl⟩ | ⟨tag, addr, len, en, data, rfl, rfl⟩
        | ⟨w, ⟨rfl, rfl⟩ | ⟨rfl, rfl⟩ | ⟨rfl, rfl⟩ | ⟨rfl, rfl⟩⟩ <;> rfl
    refine ⟨_, isRow, ?_⟩
    rw [State.requestStep_full high noRoom]
    exact State.closeEvent_reported _

-- ## A requester's list

theorem splitReturned_eq (fs : List Flight) : splitReturned fs
    = ((fs.takeWhile (fun g => g.response.isSome)).filterMap (fun g => g.response),
      fs.dropWhile (fun g => g.response.isSome)) := by
  induction fs with
  | nil => rfl
  | cons f fs ih =>
    rw [splitReturned]
    cases done : f.response with
    | none => simp [done]
    | some r => simp [done, ih]

/-- A list whose first request is not complete returns nothing. -/
theorem splitReturned_waits {fs : List Flight} {g : Flight} (first : fs.head? = some g) (waits : g.response = none) :
    splitReturned fs = ([], fs) := by
  cases fs with
  | nil => exact nomatch first
  | cons f fs =>
    obtain rfl : f = g := Option.some.inj first
    rw [splitReturned, waits]

/-- Completing a request leaves the requests of other names. -/
theorem completeFlight_apart {id : Nat} (r : Response) {fs : List Flight} (h : ∀ g ∈ fs, g.id ≠ id) :
    completeFlight id r fs = fs :=
  (List.map_congr_left fun g hg => if_neg (h g hg)).trans (List.map_id fs)

theorem completeFlight_at {f : Flight} {before rest : List Flight} (r : Response)
    (others : ∀ g ∈ before ++ rest, g.id ≠ f.id) :
    completeFlight f.id r (before ++ f :: rest) = before ++ { f with response := some r } :: rest := by
  have left := completeFlight_apart r (fun g hg => others g (List.mem_append_left _ hg))
  have right := completeFlight_apart r (fun g hg => others g (List.mem_append_right _ hg))
  unfold completeFlight at left right ⊢
  rw [List.map_append, List.map_cons, if_pos rfl, left, right]

section Respond
variable (tag : Tag) (id : Nat) (r : Response) (s : State)

theorem State.respond_flights : (s.respond tag id r).flights
    = s.flights.set tag (splitReturned (completeFlight id r s.flights[tag])).2 := (rfl)

theorem State.respond_responses : (s.respond tag id r).responses
    = s.responses ++ (splitReturned (completeFlight id r s.flights[tag])).1.map (fun x => (tag, x)) := (rfl)

end Respond

-- ## O8

/-- What a request that is refused is answered. -/
def refusalResponse (r : Request) : Response := { status := .refused, data := zeroData r.kind r.len }

theorem refusalResponse_eq (r : Request) :
    refusalResponse r = { status := .refused, data := if r.kind = .read then zeros r.len else [] } := by
  unfold refusalResponse
  cases r.kind <;> rfl

/-- The joined request alone in its list is answered at once, and the list is as it was. -/
theorem State.respond_joined_alone {s : State} {r : Request} (x : Response) (empty : s.flights[r.tag] = []) :
    ((s.joined r).respond r.tag s.arrivals x).responses = [(r.tag, x)]
      ∧ ((s.joined r).respond r.tag s.arrivals x).flights = s.flights := by
  have list := s.joined_list r
  rw [empty] at list
  have split : splitReturned (completeFlight s.arrivals x (s.joined r).flights[r.tag]) = ([x], []) := by
    rw [list]
    simp [completeFlight, splitReturned]
  rw [State.respond_responses, State.respond_flights, split, State.joined_responses, State.joined_flights,
    Vector.set_set]
  refine ⟨rfl, ?_⟩
  have same := Vector.set_getElem_self (xs := s.flights) (i := r.tag.val) r.tag.isLt
  exact (congrArg (fun l => s.flights.set r.tag l) empty.symm).trans same

/-- The joined request behind one that is not complete keeps its response in its place. -/
theorem State.respond_joined_behind {s : State} {r : Request} (x : Response) {g : Flight} {rest : List Flight}
    (list : s.flights[r.tag] = g :: rest) (waits : g.response = none) (fresh : ∀ h ∈ g :: rest, h.id ≠ s.arrivals) :
    ((s.joined r).respond r.tag s.arrivals x).responses = []
      ∧ ((s.joined r).respond r.tag s.arrivals x).flights[r.tag]
        = s.flights[r.tag] ++ [{ id := s.arrivals, req := r, response := some x }] := by
  have completed := completeFlight_at (f := { id := s.arrivals, req := r, response := none }) (before := g :: rest)
    (rest := []) x (by simpa using fresh)
  have split := splitReturned_waits
    (fs := g :: rest ++ [{ id := s.arrivals, req := r, response := some x }]) (g := g) rfl waits
  rw [State.respond_responses, State.respond_flights, getElem_set_fin_self, s.joined_list, list, completed, split]
  exact ⟨rfl, rfl⟩

/-- A mild fault changes the log alone. -/
theorem State.recordFault_only {f : FaultReport} (s : State) (mild : f.reason.isFatal = false) : s.recordFault f
    = { s with faults := (s.recordFault f).faults, overflow := (s.recordFault f).overflow
               marks := (s.recordFault f).marks } := by
  rw [s.recordFault_mild f mild]
  unfold State.logFault State.foldFault
  split
  · split
    · split <;> rfl
    · rfl
  · split <;> rfl

/-- The changes of a refusal, put together: the list and the answer, the log, and the end of the event. -/
theorem State.refused_only {s u v t : State}
    (answered : u = { s with flights := u.flights, responses := u.responses, arrivals := s.arrivals + 1 })
    (logged : v = { u with faults := v.faults, overflow := v.overflow, marks := v.marks }) (ended : ReportedFrom v t) :
    t = { s with
      port := t.port, noticeShown := t.noticeShown, marks := Marks.empty, faults := t.faults, overflow := t.overflow
      flights := t.flights, responses := t.responses, arrivals := s.arrivals + 1 } := by
  unfold ReportedFrom at ended
  generalize t.port = port at ended ⊢
  generalize t.noticeShown = shown at ended ⊢
  subst ended
  generalize v.faults = faults at logged ⊢
  generalize v.overflow = overflow at logged ⊢
  generalize v.marks = marks at logged
  subst logged
  generalize u.flights = flights at answered ⊢
  generalize u.responses = responses at answered ⊢
  subst answered
  rfl

/-- Only own requests are issued by the end of an event. -/
theorem OnlyOwnIssued.closeEvent {s t : State} (port : t.port = s.port) : OnlyOwnIssued s t.closeEvent := by
  intro m hm
  have grows := t.closeEvent_port
  rw [port] at grows
  rcases grows.fresh m hm with old | ⟨new, -, own, -⟩
  · exact .inl old
  · exact .inr ⟨new, own⟩

theorem State.refusedStation_named {s : State} {u : Setup} {c : AccessCode} (setup : s.setup = some u) (a : Nat)
    (h : c = .otherStation ∨ c = .badWindowAddress ∨ c = .stoppedBump) :
    s.refusedStation a c = (a - u.windowBase) / 2 ^ u.pt % 32 := by
  rcases h with rfl | rfl | rfl <;>
    simp only [State.refusedStation, setup, Setup.windowPlace, Setup.windowOffset, Fin.ofNat]

theorem State.refusedStation_unnamed (s : State) {c : AccessCode} (a : Nat) (h : c ≠ .otherStation)
    (g : c ≠ .badWindowAddress) (b : c ≠ .stoppedBump) : s.refusedStation a c = 0 := by
  cases c with
  | otherStation => exact absurd rfl h
  | badWindowAddress => exact absurd rfl g
  | stoppedBump => exact absurd rfl b
  | _ => rfl

theorem State.refusedLine_eq (s : State) (a : Nat) (c : AccessCode) :
    s.refusedLine a c = if c = .lineLocked ∨ c = .pool then (a - s.poolBase) / 64 else 0 := by
  cases c <;> rfl

/-- Settles O8: the refusal's answer and its fault, and then the fields of the fault. -/
theorem refusedRequestIsAnswered : Obligations.RefusedRequestIsAnswered := by
  unfold Obligations.RefusedRequestIsAnswered
  refine ⟨rfl, fun s r c high room judged => ?_⟩
  let f := refusalOf r c.code (s.refusedStation r.addr.toNat c) (s.refusedLine r.addr.toNat c)
  have runs : s.requestStep r = (((s.joined r).respond r.tag s.arrivals (refusalResponse r)).recordFault f).closeEvent := by
    rw [State.requestStep_room high room, judged]
    rfl
  generalize hu : (s.joined r).respond r.tag s.arrivals (refusalResponse r) = u at runs
  obtain ⟨-, -, -, -, port⟩ := u.recordFault_tables f
  have only := u.recordFault_only (f := f) rfl
  have work := u.recordFault_mild_work f rfl
  refine ⟨_, f, congrArg Host.Outcome.next runs, ?own, ?logs, rfl, rfl, rfl, rfl, rfl, s.refusedLine_eq _ c,
    fun x setup named => s.refusedStation_named setup _ named, s.refusedStation_unnamed _, fun empty => ?alone,
    fun g rest list waits fresh => ?behind, ?rest⟩
  case own =>
    refine OnlyOwnIssued.closeEvent ?_
    rw [port, ← hu]
    rfl
  case logs =>
    refine (u.recordFault_logs f).congr ?_ ?_ (State.closeEvent_faults _) (State.closeEvent_overflow _) <;>
      (rw [← hu]; rfl)
  case alone =>
    rw [State.closeEvent_responses, State.closeEvent_flights, work.responses, work.flights, ← hu, ← refusalResponse_eq r]
    exact State.respond_joined_alone _ empty
  case behind =>
    rw [State.closeEvent_responses, State.closeEvent_flights, work.responses, work.flights, ← hu, ← refusalResponse_eq r]
    exact State.respond_joined_behind _ list waits fresh
  case rest =>
    refine State.refused_only ?_ only (u.recordFault f).closeEvent_reported
    rw [← hu]
    rfl

end Sys2Proof.Machine

/-! SUPPORT. O10: the answer to a forwarded request or a redirected bump, and the arrival of what waited for it (R120,
R124, R126, R149; log 14). -/

namespace Sys2Proof.Machine

/-- The rows that answer an agent's memory request `id`, with the request in flight `f` that it serves. -/
def AnswersAgent (c : Instr) (id f : Nat) (a : Answer) (owns : Owner → Bool) (o : Owner) : Prop :=
  (c = .forwardedResponse id a ∧ owns = Owner.isForwarded ∧ o = .forwarded f)
    ∨ (c = .redirectedBumpDone id a ∧ owns = Owner.isBump ∧ o = .bump f)

/-- The part when the answer to request `id` has been served, before its owner acts. -/
def State.served (id : Nat) (a : Answer) (m : MemRequest) (s : State) : State :=
  { s with responses := [], port := s.port.answered id, dram := serve m a s.dram }

section Served
variable (id : Nat) (a : Answer) (m : MemRequest) (s : State)

@[simp] theorem State.served_part : (s.served id a m).part = s.part := (rfl)
@[simp] theorem State.served_straps : (s.served id a m).straps = s.straps := (rfl)
@[simp] theorem State.served_setup : (s.served id a m).setup = s.setup := (rfl)
@[simp] theorem State.served_locks : (s.served id a m).locks = s.locks := (rfl)
@[simp] theorem State.served_portWaiting : (s.served id a m).portWaiting = s.portWaiting := (rfl)
@[simp] theorem State.served_flights : (s.served id a m).flights = s.flights := (rfl)
@[simp] theorem State.served_responses : (s.served id a m).responses = [] := (rfl)
@[simp] theorem State.served_arrivals : (s.served id a m).arrivals = s.arrivals := (rfl)
@[simp] theorem State.served_dram : (s.served id a m).dram = serve m a s.dram := (rfl)
@[simp] theorem State.served_faults : (s.served id a m).faults = s.faults := (rfl)
@[simp] theorem State.served_stations : (s.served id a m).stations = s.stations := (rfl)
@[simp] theorem State.served_pool : (s.served id a m).pool = s.pool := (rfl)
@[simp] theorem State.served_tickets : (s.served id a m).tickets = s.tickets := (rfl)
@[simp] theorem State.served_port : (s.served id a m).port = s.port.answered id := (rfl)

end Served

/-- The event of an agent's answer: the request in flight is complete. -/
def State.agentAnswered (id f : Nat) (a : Answer) (m : MemRequest) (s : State) : State :=
  ((s.served id a m).respond m.tag f (memResponse a m (s.bytesAt m))).closeEvent

section Answer
variable {s : State} {c : Instr} {id f : Nat} {a : Answer} {m : MemRequest} {owns : Owner → Bool}

theorem exec_agentAnswered (row : AnswersAgent c id f a owns m.owner)
    (found : s.port.issued.find? (fun x => x.id == id && owns x.owner) = some m) (live : m.discard = false) :
    exec c s = .next (s.agentAnswered id f a m).admitWaiting := by
  have serves : m.owner.flight? = some f := by
    rcases row with ⟨-, -, owner⟩ | ⟨-, -, owner⟩ <;> (rw [owner]; rfl)
  have runs : exec c s = .next (s.run (State.memAnswer id a owns (State.memReturned a))).admitWaiting := by
    rcases row with ⟨rfl, rfl, -⟩ | ⟨rfl, rfl, -⟩ <;> rfl
  rw [runs, State.run_memAnswer_live a _ found live, State.memReturned, serves]
  rfl

variable (id f a m s)

theorem State.agentAnswered_flights : (s.agentAnswered id f a m).flights
    = s.flights.set m.tag (splitReturned (completeFlight f (memResponse a m (s.bytesAt m)) s.flights[m.tag])).2 :=
  State.closeEvent_flights _

theorem State.agentAnswered_list : (s.agentAnswered id f a m).flights[m.tag]
    = (splitReturned (completeFlight f (memResponse a m (s.bytesAt m)) s.flights[m.tag])).2 := by
  rw [State.agentAnswered_flights, getElem_set_fin_self]

theorem State.agentAnswered_responses : (s.agentAnswered id f a m).responses
    = (splitReturned (completeFlight f (memResponse a m (s.bytesAt m)) s.flights[m.tag])).1.map (fun x => (m.tag, x)) :=
  State.closeEvent_responses _

@[simp] theorem State.agentAnswered_portWaiting : (s.agentAnswered id f a m).portWaiting = s.portWaiting :=
  State.closeEvent_portWaiting _

@[simp] theorem State.agentAnswered_arrivals : (s.agentAnswered id f a m).arrivals = s.arrivals :=
  State.closeEvent_arrivals _

theorem State.agentAnswered_classify (r : Request) : (s.agentAnswered id f a m).classify r = s.classify r :=
  State.classify_congr (by simp [State.agentAnswered]) (by simp [State.agentAnswered])
    (by simp [State.agentAnswered]) (by simp [State.agentAnswered]) r

theorem State.agentAnswered_nextId : s.port.nextId ≤ (s.agentAnswered id f a m).port.nextId :=
  (Nat.le_of_eq (s.port.answered_nextId id).symm).trans
    ((s.served id a m).respond m.tag f (memResponse a m (s.bytesAt m))).closeEvent_port.nextId

end Answer

/-- What the list of the request in flight `f` gives when `f` becomes complete. -/
theorem splitReturned_completed {f : Nat} {req : Request} {before rest : List Flight} (x : Response)
    (others : ∀ g ∈ before ++ rest, g.id ≠ f) :
    (before = [] → splitReturned (completeFlight f x (before ++ { id := f, req := req, response := none } :: rest))
        = (x :: (rest.takeWhile (fun g => g.response.isSome)).filterMap (fun g => g.response),
          rest.dropWhile (fun g => g.response.isSome)))
      ∧ ∀ g, before.head? = some g → g.response = none →
        splitReturned (completeFlight f x (before ++ { id := f, req := req, response := none } :: rest))
          = ([], before ++ { id := f, req := req, response := some x } :: rest) := by
  have completed := completeFlight_at (f := { id := f, req := req, response := none }) x others
  rw [completed]
  refine ⟨?_, fun g first waits => splitReturned_waits (g := g) ?_ waits⟩
  · rintro rfl
    rw [List.nil_append, splitReturned_eq]
    rfl
  · rw [List.head?_append, first]
    rfl

-- ## What waited for room

theorem State.admitWaiting_none {s : State} (h : s.portWaiting = []) : s.admitWaiting = s := by
  unfold State.admitWaiting
  rw [h]
  rfl

theorem State.admitWaiting_full {s : State} {w : Request} (h : s.portWaiting = [w]) (full : s.hasRoom w.tag = false) :
    s.admitWaiting = s := by
  unfold State.admitWaiting
  rw [h, List.length_singleton, State.admitLoop, h, List.find?_singleton, full]
  rfl

/-- The one waiting request arrives when its list has room. -/
theorem State.admitWaiting_room {s : State} {w : Request} (h : s.portWaiting = [w]) (room : s.hasRoom w.tag = true) :
    s.admitWaiting = (({ s with portWaiting := [] } : State).accept w).closeEvent := by
  unfold State.admitWaiting
  rw [h, List.length_singleton, State.admitLoop, h, List.find?_singleton, room]
  simp only [if_true, List.erase_cons_head]
  rfl

/-- Settles O10: the answer's event, and then what waited: nothing, or one request. -/
theorem answersReturnInOrder : Obligations.AnswersReturnInOrder := by
  unfold Obligations.AnswersReturnInOrder
  refine ⟨fun s id f m a c owns req before rest resp row found live none list others isResp => ?_,
    fun s id f m a c owns req w before rest row found live waits tag judged length list others => ?_⟩
  · have response : memResponse a m (s.bytesAt m) = resp := by
      rw [isResp]
      unfold memResponse zeroData
      cases a <;> cases m.kind <;> rfl
    have runs := exec_agentAnswered row found live
    rw [State.admitWaiting_none (by rw [State.agentAnswered_portWaiting, none])] at runs
    obtain ⟨returns, stays⟩ := splitReturned_completed (req := req) resp others
    refine ⟨_, runs, fun first => ?_, fun g first unanswered => ?_, fun tag apart => ?_, ?_⟩
    · rw [State.agentAnswered_responses, State.agentAnswered_list, response, list, returns first]
      exact ⟨rfl, rfl⟩
    · rw [State.agentAnswered_responses, State.agentAnswered_list, response, list, stays g first unanswered]
      exact ⟨rfl, rfl⟩
    · rw [State.agentAnswered_flights, getElem_set_fin_ne (Ne.symm apart)]
    · refine ⟨(State.closeEvent_dram _).trans ?_, (State.closeEvent_faults _).trans ?_,
        (State.closeEvent_stations _).trans ?_, (State.closeEvent_pool _).trans ?_,
        (State.closeEvent_tickets _).trans ?_⟩ <;> rfl
  · have runs := exec_agentAnswered row found live
    have waiting : (s.agentAnswered id f a m).portWaiting = [w] := by rw [State.agentAnswered_portWaiting, waits]
    obtain ⟨returns, stays⟩ := splitReturned_completed (req := req) (memResponse a m (s.bytesAt m)) others
    have answered := s.agentAnswered_list id f a m
    have nextId := s.agentAnswered_nextId id f a m
    have verdict := s.agentAnswered_classify id f a m w
    have arrivals := s.agentAnswered_arrivals id f a m
    rw [list] at answered
    rw [list, List.length_append, List.length_cons] at length
    generalize s.agentAnswered id f a m = u at runs waiting answered nextId verdict arrivals
    cases before with
    | nil =>
      rw [returns rfl] at answered
      have room : u.hasRoom w.tag = true := by
        have shorter := (List.dropWhile_sublist (fun g : Flight => g.response.isSome) (l := rest)).length_le
        refine decide_eq_true ?_
        rw [tag, answered]
        simp only [List.length_nil] at length
        exact Nat.lt_of_le_of_lt shorter (by simp only [Config.requestsInFlight]; omega)
      rw [State.admitWaiting_room waiting room] at runs
      have accepted : ({ u with portWaiting := [] } : State).accept w
          = (({ u with portWaiting := [] } : State).joinList w).forward u.arrivals w := by
        have judged' := (State.classify_congr (s := u) (t := { u with portWaiting := [] }) rfl rfl rfl rfl w).trans
          (verdict.trans judged)
        rw [State.accept, judged']
        rfl
      rw [accepted] at runs
      refine ⟨_, runs, fun _ => ⟨?_, ?_, ?_⟩, nofun⟩
      · rw [State.closeEvent_portWaiting]
        rfl
      · rw [← arrivals]
        exact Issues.mono ⟨_, Entered.issue (t := ({ u with portWaiting := [] } : State).joinList w) nextId _⟩
          (State.closeEvent_port _)
      · rw [State.closeEvent_flights]
        have joined : ((({ u with portWaiting := [] } : State).joinList w).forward u.arrivals w).flights
            = u.flights.set w.tag (u.flights[w.tag] ++ [{ id := u.arrivals, req := w, response := none }]) := (rfl)
        have same (v : Vector (List Flight) 64) : v[w.tag] = v[m.tag] := congrArg (fun i : Tag => v[i]) tag
        rw [← same, joined, getElem_set_fin_self, same, answered, arrivals]
    | cons g before =>
      refine ⟨_, runs, nofun, fun h first unanswered => ?_⟩
      rw [stays h first unanswered] at answered
      have full : u.hasRoom w.tag = false := by
        refine decide_eq_false ?_
        rw [tag, answered]
        simp only [List.length_append, List.length_cons, Config.requestsInFlight] at length ⊢
        omega
      rw [State.admitWaiting_full waiting full, answered, List.length_append]
      exact ⟨waiting, length, arrivals⟩

end Sys2Proof.Machine

/-! SUPPORT. O6 and O7: the regions and the classification of a request (R121, R122), and the decoding of a window
address (R138, R139). -/

namespace Sys2Proof.Machine

-- ## The judgement of a request

section Classify
variable {s : State} {r : Request}

theorem State.classify_malformed (h : r.inOneLine = false) : s.classify r = .refused .malformed := by
  unfold State.classify
  rw [h]
  rfl

theorem State.classify_ownTag (line : r.inOneLine = true) (h : r.tag = 63) : s.classify r = .refused .ownTag := by
  unfold State.classify
  rw [line, if_neg (by decide), if_pos h]

theorem State.classify_twoRegions (line : r.inOneLine = true) (tag : r.tag ≠ 63)
    (h : s.regionOf r.addr.toNat ≠ s.regionOf (r.addr.toNat + r.len - 1)) : s.classify r = .refused .twoRegions := by
  unfold State.classify
  rw [line, if_neg (by decide), if_neg tag, if_pos h]

theorem State.classify_judged (line : r.inOneLine = true) (tag : r.tag ≠ 63)
    (h : s.regionOf r.addr.toNat = s.regionOf (r.addr.toNat + r.len - 1)) :
    s.classify r = s.judgeRegion r.tag r.kind r.addr.toNat (s.regionOf r.addr.toNat) := by
  unfold State.classify
  rw [line, if_neg (by decide), if_neg tag, if_neg (not_not.2 h)]

end Classify

section Judge
variable {s : State} {tag : Tag} {a : Nat} {g : Region}

theorem State.judgeRegion_read (h : g ≠ .window) : s.judgeRegion tag .read a g = .forwarded := by
  cases g with
  | window => exact absurd rfl h
  | _ => rfl

theorem State.judgeRegion_start (start : s.part = .start) (h : g ≠ .window) :
    s.judgeRegion tag .write a g = if g.isAnchor then .refused .anchorAtStart else s.judgeWrite tag a g := by
  have started : (s.part == .start) = true := by rw [start]; rfl
  cases g with
  | window => exact absurd rfl h
  | _ =>
    simp only [State.judgeRegion, started]
    rfl

/-- The order processor's own writes are judged by their region alone. -/
theorem orderProcessorOnly_own (c : AccessCode) (v : Verdict) : orderProcessorOnly 0 c v = v := rfl

theorem orderProcessorOnly_other (h : tag ≠ 0) (c : AccessCode) (v : Verdict) :
    orderProcessorOnly tag c v = .refused c := by
  unfold orderProcessorOnly isOrderProcessor
  rw [if_neg (by simpa using h)]

end Judge

-- ## Regions

theorem Span.holds_iff (p : Span) (a : Nat) : p.holds a = true ↔ p.base ≤ a ∧ a < p.base + p.size := by
  unfold Span.holds
  rw [Bool.and_eq_true, decide_eq_true_iff, decide_eq_true_iff]

theorem anchorSpan_holds (s : State) (a : Nat) :
    (anchorSpan s.straps).holds a = true ↔ s.anchor ≤ a ∧ a < s.anchor + 0x2000 := Span.holds_iff _ _

theorem State.regionOf_anchor {s : State} {a : Nat} (h : (anchorSpan s.straps).holds a = true) :
    s.regionOf a = anchorRegion (a - s.anchor) := by
  unfold State.regionOf
  rw [if_pos h]

theorem State.regionOf_unknown {s : State} {a : Nat} (h : ¬(anchorSpan s.straps).holds a = true)
    (none : s.part = .start ∨ s.part = .transparent ∨ s.setup = none) : s.regionOf a = .plain := by
  have unknown : s.knownSetup? = .none := by
    unfold State.knownSetup?
    rcases none with part | part | setup
    · rw [part]
    · rw [part]
    · cases s.part with
      | start | transparent => rfl
      | _ => exact setup
  unfold State.regionOf
  rw [if_neg h, unknown]

theorem State.regionOf_known {s : State} {a : Nat} {u : Setup} (h : ¬(anchorSpan s.straps).holds a = true)
    (setup : s.setup = some u) (part : s.part = .idle ∨ s.part = .ready ∨ s.part = .stopped) :
    s.regionOf a = u.regionOf a := by
  have known : s.knownSetup? = some u := by
    unfold State.knownSetup?
    rcases part with part | part | part <;> (rw [part]; exact setup)
  unfold State.regionOf
  rw [if_neg h, known]

/-- In START and TRANSPARENT every address outside the anchor block is plain memory (R123). -/
theorem State.regionOf_cases {s : State} (h : s.part = .start ∨ s.part = .transparent) (a : Nat) :
    (s.regionOf a).isAnchor = true ∨ s.regionOf a = .plain := by
  by_cases inside : (anchorSpan s.straps).holds a = true
  · left
    rw [State.regionOf_anchor inside]
    unfold anchorRegion
    split_ifs <;> rfl
  · exact .inr (State.regionOf_unknown inside (h.imp_right .inl))

theorem Region.anchor_ne_window {g : Region} (h : g.isAnchor = true ∨ g = .plain) : g ≠ .window := by
  rintro rfl
  rcases h with h | h <;> exact nomatch h

theorem Guard.any_holds_iff {g : Guard} (valid : g.enabled = true → g.base ≤ g.limit) (a : Nat) :
    g.spans.any (fun p => p.holds a) = true
      ↔ g.enabled = true ∧ g.base * 2 ^ 16 ≤ a ∧ a < (g.limit + 1) * 2 ^ 16 := by
  unfold Guard.spans
  cases on : g.enabled with
  | false => simp
  | true =>
    have order := valid on
    simp only [if_true, List.any_cons, List.any_nil, Bool.or_false, Span.holds_iff, Guard.span, true_and]
    omega

/-- The ranges of a setup share no address with each other. -/
structure Setup.Apart (u : Setup) (a : Nat) : Prop where
  pool_ring : ¬(u.poolSpan.holds a = true ∧ u.ringSpan.holds a = true)
  pool_window : ¬(u.poolSpan.holds a = true ∧ u.windowSpan.holds a = true)
  ring_window : ¬(u.ringSpan.holds a = true ∧ u.windowSpan.holds a = true)
  pool_guard0 : ¬(u.poolSpan.holds a = true ∧ u.guard0.spans.any (fun p => p.holds a) = true)
  ring_guard0 : ¬(u.ringSpan.holds a = true ∧ u.guard0.spans.any (fun p => p.holds a) = true)
  window_guard0 : ¬(u.windowSpan.holds a = true ∧ u.guard0.spans.any (fun p => p.holds a) = true)
  pool_guard1 : ¬(u.poolSpan.holds a = true ∧ u.guard1.spans.any (fun p => p.holds a) = true)
  ring_guard1 : ¬(u.ringSpan.holds a = true ∧ u.guard1.spans.any (fun p => p.holds a) = true)
  window_guard1 : ¬(u.windowSpan.holds a = true ∧ u.guard1.spans.any (fun p => p.holds a) = true)
  guards : ¬(u.guard0.spans.any (fun p => p.holds a) = true ∧ u.guard1.spans.any (fun p => p.holds a) = true)

theorem Setup.apart_of_disjoint {u : Setup} {q : Span} (h : Disjoint (q :: u.spans)) (a : Nat) : u.Apart a := by
  simp only [Disjoint, Setup.spans, List.pairwise_cons, List.pairwise_append, List.mem_append, List.mem_cons,
    List.not_mem_nil, or_false] at h
  obtain ⟨-, ⟨⟨⟨pool, ring, -⟩, -, first⟩, -, second⟩⟩ := h
  have meets {p : Span} {g : Guard} (apart : ∀ q ∈ g.spans, ∀ a, ¬(p.holds a = true ∧ q.holds a = true)) :
      ¬(p.holds a = true ∧ g.spans.any (fun p => p.holds a) = true) := by
    rintro ⟨holds, any⟩
    obtain ⟨q, mem, holds'⟩ := List.any_eq_true.1 any
    exact apart q mem a ⟨holds, holds'⟩
  refine ⟨pool _ (.inl rfl) a, pool _ (.inr rfl) a, ring _ rfl a, meets (first _ (.inl rfl)),
    meets (first _ (.inr (.inl rfl))), meets (first _ (.inr (.inr rfl))), meets (second _ (.inl (.inl rfl))),
    meets (second _ (.inl (.inr (.inl rfl)))), meets (second _ (.inl (.inr (.inr rfl)))), ?_⟩
  rintro ⟨any, any'⟩
  obtain ⟨p, mem, holds⟩ := List.any_eq_true.1 any
  exact meets (second p (.inr mem)) ⟨holds, any'⟩

/-- Under a setup whose ranges are apart, each region is the range of its name. -/
theorem Setup.regionOf_iff {u : Setup} {a : Nat} (h : u.Apart a) :
    (u.regionOf a = .pool ↔ u.poolSpan.holds a = true) ∧ (u.regionOf a = .ring ↔ u.ringSpan.holds a = true)
      ∧ (u.regionOf a = .window ↔ u.windowSpan.holds a = true)
      ∧ (u.regionOf a = .guard0 ↔ u.guard0.spans.any (fun p => p.holds a) = true)
      ∧ (u.regionOf a = .guard1 ↔ u.guard1.spans.any (fun p => p.holds a) = true)
      ∧ (u.regionOf a = .plain ↔ ¬u.poolSpan.holds a = true ∧ ¬u.ringSpan.holds a = true
        ∧ ¬u.windowSpan.holds a = true ∧ ¬u.guard0.spans.any (fun p => p.holds a) = true
        ∧ ¬u.guard1.spans.any (fun p => p.holds a) = true) := by
  obtain ⟨h1, h2, h3, h4, h5, h6, h7, h8, h9, h10⟩ := h
  unfold Setup.regionOf
  split_ifs <;> simp_all

/-- The rows of the anchor block (R121). -/
theorem anchorRegion_row {a base : Nat} (lo : base ≤ a) : anchorRegion (a - base)
    = if a < base + 0x80 then .setupArea else if a < base + 0xA0 then .watchedWords
      else if base + 0x500 ≤ a ∧ a < base + 0x900 then .finishedLog else .partOwned := by
  unfold anchorRegion
  have first : a - base < 0x80 ↔ a < base + 0x80 := by omega
  have second : a - base < 0xA0 ↔ a < base + 0xA0 := by omega
  have third : (0x500 ≤ a - base ∧ a - base < 0x900) ↔ base + 0x500 ≤ a ∧ a < base + 0x900 := by omega
  simp only [first, second, third]

/-- Settles O6: the order of the checks, the column of each region, and the ranges of the regions. -/
theorem regionTable : Obligations.RegionTable := by
  unfold Obligations.RegionTable
  refine ⟨fun s r => ⟨State.classify_malformed, State.classify_ownTag, State.classify_twoRegions,
    fun line tag same start => ?start, fun line tag same transparent plain => ?transparent⟩,
    fun s r g part line tag first last outside => ?column, fun s a base isBase => ⟨fun lo hi => ?inside,
      fun outside => ⟨fun unknown => ?unknown, fun u pool ring window guard0 guard1 setup sound part isPool isRing
        isWindow isGuard0 isGuard1 => ?ranges⟩⟩⟩
  case start =>
    have region := s.regionOf_cases (.inl start) r.addr.toNat
    rw [State.classify_judged line tag same]
    cases kind : r.kind with
    | read => rw [State.judgeRegion_read (Region.anchor_ne_window region), if_neg (by simp)]
    | write =>
      rw [State.judgeRegion_start start (Region.anchor_ne_window region)]
      rcases region with anchor | plain
      · rw [if_pos anchor, if_pos ⟨rfl, anchor⟩]
      · rw [plain]
        rfl
  case transparent =>
    have region : s.regionOf r.addr.toNat = .plain :=
      (s.regionOf_cases (.inr transparent) _).resolve_left (by rw [plain]; decide)
    rw [State.classify_judged line tag same, region]
    cases kind : r.kind with
    | read => rfl
    | write => exact State.judgeRegion_write (by rw [transparent]; decide) (by decide)
  case column =>
    have started : s.part ≠ .start := by
      rcases part with part | part | part | part <;> (rw [part]; decide)
    have judged := State.classify_judged line tag (first.trans last.symm)
    rw [first] at judged
    have write (kind : r.kind = .write) : s.classify r = s.judgeWrite r.tag r.addr.toNat g := by
      rw [judged, kind, State.judgeRegion_write started outside]
    refine ⟨fun kind => ?_, fun kind hg => ?_, fun kind hg => ?_, fun kind own hg => ?_, fun kind own hg => ?_,
      fun kind own hg => ?_, fun kind other hg => ?_, fun kind other hg => ?_, fun kind other hg => ?_,
      fun kind other hg => ?_, fun kind other hg => ?_, fun kind other hg => ?_, fun kind other hg => ?_⟩
    · rw [judged, kind, State.judgeRegion_read outside]
    · rw [write kind, hg]
      rfl
    · rw [write kind, hg]
      rfl
    · rw [write kind, own]
      rcases hg with rfl | rfl | rfl | rfl | rfl <;> rfl
    · rw [write kind, own, hg]
      rfl
    · rw [write kind, own, hg, State.judgeWrite, orderProcessorOnly_own, State.locked]
      simp only [decide_eq_true_iff]
    all_goals
      rw [write kind, hg]
      exact orderProcessorOnly_other other _ _
  case inside =>
    have anchor : s.anchor = base := isBase.symm
    have holds : (anchorSpan s.straps).holds a = true := by
      rw [anchorSpan_holds, anchor]
      exact ⟨lo, hi⟩
    rw [State.regionOf_anchor holds, anchor]
    exact anchorRegion_row lo
  all_goals
    have apart : ¬(anchorSpan s.straps).holds a = true := by
      have anchor : s.anchor = base := isBase.symm
      rw [anchorSpan_holds, anchor]
      omega
  case unknown => exact State.regionOf_unknown apart unknown
  case ranges =>
    obtain ⟨-, -, valid⟩ := sound
    obtain ⟨-, -, -, -, -, -, -, -, -, valid0, valid1, -, disjoint⟩ := valid u setup
    have rows := Setup.regionOf_iff (Setup.apart_of_disjoint disjoint a)
    simp only [Guard.any_holds_iff valid0, Guard.any_holds_iff valid1, Span.holds_iff] at rows
    rw [State.regionOf_known apart setup part, isPool, isRing, isWindow, isGuard0, isGuard1]
    exact rows

-- ## The window

/-- The field conditions of R138: the two fields lie above the bytes of a line, in the window, and apart. -/
theorem Setup.fields_apart {u : Setup} (h : u.badFields = false) :
    6 ≤ u.ps ∧ 6 ≤ u.pt ∧ (u.pt + 5 ≤ u.ps ∨ u.ps + 4 ≤ u.pt) := by
  simp only [Setup.badFields, Bool.or_eq_false_iff, Bool.and_eq_false_iff, decide_eq_false_iff_not] at h
  omega

/-- A number made of a low field of `n` bits at bit `p` and a high field above it, over bits below `p`, gives both
fields back. -/
theorem fields_decode {p q n x y j : Nat} (order : p + n ≤ q) (fits : x < 2 ^ n) (low : j < 2 ^ p) :
    (y * 2 ^ q + x * 2 ^ p + j) / 2 ^ p % 2 ^ n = x ∧ (y * 2 ^ q + x * 2 ^ p + j) / 2 ^ q = y := by
  obtain ⟨k, rfl⟩ := Nat.exists_eq_add_of_le order
  have positive : 0 < 2 ^ p := Nat.two_pow_pos p
  constructor
  · have shape : y * 2 ^ (p + n + k) + x * 2 ^ p + j = j + 2 ^ p * (x + 2 ^ n * (y * 2 ^ k)) := by ring
    rw [shape, Nat.add_mul_div_left _ _ positive, Nat.div_eq_of_lt low, Nat.zero_add, Nat.add_mul_mod_self_left,
      Nat.mod_eq_of_lt fits]
  · have small : x * 2 ^ p + j < 2 ^ (p + n + k) := calc
      x * 2 ^ p + j < (x + 1) * 2 ^ p := by rw [Nat.succ_mul]; omega
      _ ≤ 2 ^ n * 2 ^ p := Nat.mul_le_mul_right _ fits
      _ ≤ 2 ^ (p + n + k) := by
        rw [← Nat.pow_add]
        exact Nat.pow_le_pow_right (by decide) (by omega)
    have shape : y * 2 ^ (p + n + k) + x * 2 ^ p + j = x * 2 ^ p + j + 2 ^ (p + n + k) * y := by ring
    rw [shape, Nat.add_mul_div_left _ _ (Nat.two_pow_pos _), Nat.div_eq_of_lt small, Nat.zero_add]

theorem two_pow_dvd_mul {p : Nat} (h : 6 ≤ p) (x : Nat) : 64 ∣ x * 2 ^ p :=
  Dvd.dvd.mul_left (Nat.pow_dvd_pow 2 h) x

/-- A window address made of a slot, a station and a byte decodes to them (R139). -/
theorem Setup.windowPlace_made {u : Setup} (h : u.badFields = false) (st : StationId) (k : SlotId) {j : Nat}
    (hj : j < 64) : u.windowPlace (u.windowBase + k.val * 2 ^ u.ps + st.val * 2 ^ u.pt + j)
      = { station := st, slot := k, first := j } := by
  obtain ⟨hps, hpt, order⟩ := Setup.fields_apart h
  have offset : u.windowOffset (u.windowBase + k.val * 2 ^ u.ps + st.val * 2 ^ u.pt + j)
      = k.val * 2 ^ u.ps + st.val * 2 ^ u.pt + j := by
    unfold Setup.windowOffset
    omega
  have lowPs : j < 2 ^ u.ps := Nat.lt_of_lt_of_le hj (Nat.pow_le_pow_right (by decide) hps : 2 ^ 6 ≤ 2 ^ u.ps)
  have lowPt : j < 2 ^ u.pt := Nat.lt_of_lt_of_le hj (Nat.pow_le_pow_right (by decide) hpt : 2 ^ 6 ≤ 2 ^ u.pt)
  have fields : (k.val * 2 ^ u.ps + st.val * 2 ^ u.pt + j) / 2 ^ u.pt % 32 = st.val
      ∧ (k.val * 2 ^ u.ps + st.val * 2 ^ u.pt + j) / 2 ^ u.ps % 16 = k.val := by
    rcases order with slotHigh | stationHigh
    · obtain ⟨low, high⟩ := fields_decode (n := 5) (y := k.val) slotHigh st.isLt lowPt
      exact ⟨low, by rw [high, Nat.mod_eq_of_lt k.isLt]⟩
    · obtain ⟨low, high⟩ := fields_decode (n := 4) (y := st.val) stationHigh k.isLt lowPs
      rw [Nat.add_comm (st.val * 2 ^ u.pt)] at low high
      exact ⟨by rw [high, Nat.mod_eq_of_lt st.isLt], low⟩
  have byte : (k.val * 2 ^ u.ps + st.val * 2 ^ u.pt + j) % 64 = j := by
    have slotBits := two_pow_dvd_mul hps k.val
    have stationBits := two_pow_dvd_mul hpt st.val
    omega
  unfold Setup.windowPlace
  rw [offset, byte]
  congr 1
  · exact Fin.ext fields.1
  · exact Fin.ext fields.2

/-- An address that names a line is the one that its place gives (R122, R139). -/
theorem Setup.badWindowAddress_iff (u : Setup) (a : Nat) : u.badWindowAddress a = false
    ↔ u.windowOffset a = (u.windowPlace a).slot.val * 2 ^ u.ps + (u.windowPlace a).station.val * 2 ^ u.pt
      + (u.windowPlace a).first := by
  unfold Setup.badWindowAddress
  rw [bne_eq_false_iff_eq]

section Window
variable {s : State} {u : Setup} {tag : Tag} {kind : Kind} {a : Nat}

theorem linkTag_val (st : StationId) : (linkTag st).val = st.val + 1 := rfl

theorem isOtherAgent_false (h : tag.val ≤ 32) : isOtherAgent tag = false := decide_eq_false (Nat.not_lt.2 h)

/-- The judgement past its first two refusals. -/
theorem State.judgeWindow_addressed (agent : tag.val ≤ 32) (write : ¬(tag = 0 ∧ kind = .write)) :
    s.judgeWindow u tag kind a = if u.badWindowAddress a then .refused .badWindowAddress
      else if !isOrderProcessor tag && tag != linkTag (u.windowPlace a).station then .refused .otherStation
      else if kind == .write && s.part == .stopped then .refused .stoppedBump
      else .translated (u.windowPlace a) := by
  have write' : (isOrderProcessor tag && kind == .write) = false := by
    simpa [isOrderProcessor] using write
  unfold State.judgeWindow
  rw [isOtherAgent_false agent, write', if_neg (by decide), if_neg (by decide)]

end Window

/-- Settles O7: the order of the refusals in the window, and its decoding. -/
theorem windowOrderAndDecoding : Obligations.WindowOrderAndDecoding := by
  unfold Obligations.WindowOrderAndDecoding
  refine ⟨fun s u r setup first last line tag => ?_, fun u fields => ⟨fun st k j hj => ⟨?_, ?_⟩, fun a lo named => ?_⟩⟩
  · have judged : s.classify r = s.judgeWindow u r.tag r.kind r.addr.toNat := by
      rw [State.classify_judged line tag (first.trans last.symm), first]
      unfold State.judgeRegion
      rw [setup]
    rw [judged]
    have own (h : r.tag = linkTag (u.windowPlace r.addr.toNat).station) : r.tag.val ≤ 32 ∧ r.tag ≠ 0 := by
      have small := (u.windowPlace r.addr.toNat).station.isLt
      rw [h]
      refine ⟨by rw [linkTag_val]; omega, fun zero => ?_⟩
      have := congrArg Fin.val zero
      rw [linkTag_val] at this
      exact absurd this (Nat.succ_ne_zero _)
    refine ⟨fun other => ?_, fun zero write => ?_, fun agent write bad => ?_, fun agent nonzero good other => ?_,
      fun link good write stopped => ?_, fun good reads => ?_⟩
    · unfold State.judgeWindow isOtherAgent
      rw [if_pos (decide_eq_true other)]
    · unfold State.judgeWindow
      rw [zero, write]
      rfl
    · rw [State.judgeWindow_addressed agent write, if_pos bad]
    · rw [State.judgeWindow_addressed agent (fun h => nonzero h.1), good, if_neg (by decide), if_pos]
      simp only [isOrderProcessor, Bool.and_eq_true, Bool.not_eq_true', beq_eq_false_iff_ne, bne_iff_ne]
      exact ⟨nonzero, other⟩
    · obtain ⟨agent, nonzero⟩ := own link
      rw [State.judgeWindow_addressed agent (fun h => nonzero h.1), good, if_neg (by decide), if_neg, if_pos]
      · rw [write, stopped]
        rfl
      · rw [← link]
        simp
    · rcases reads with ⟨zero, read⟩ | ⟨link, free⟩
      · rw [State.judgeWindow_addressed (by rw [zero]; decide) (by rw [read]; simp), good, read, zero]
        rfl
      · obtain ⟨agent, nonzero⟩ := own link
        rw [State.judgeWindow_addressed agent (fun h => nonzero h.1), good, if_neg (by decide), if_neg, if_neg]
        · rcases free with read | going
          · simp [read]
          · simpa using fun _ => going
        · rw [← link]
          simp
  · exact Setup.windowPlace_made fields st k hj
  · rw [Setup.badWindowAddress_iff, Setup.windowPlace_made fields st k hj]
    unfold Setup.windowOffset
    simp only
    omega
  · have offset := (u.badWindowAddress_iff a).1 named
    unfold Setup.windowOffset at offset
    omega

end Sys2Proof.Machine

/-! SUPPORT. O16 and O19: the last read of an assembly forms its response (R140, R144), and the refusals of a bump (R83,
R147, R148). -/

namespace Sys2Proof.Machine

-- ## Assemblies

theorem State.find_assembly {s : State} {x : Assembly} (mem : x ∈ s.assemblies)
    (unique : ∀ z ∈ s.assemblies, z.flight = x.flight → z = x) :
    s.assemblies.find? (fun z => some x.flight == some z.flight) = some x := by
  cases found : s.assemblies.find? (fun z => some x.flight == some z.flight) with
  | none => exact absurd (List.find?_eq_none.1 found x mem) (by simp)
  | some z =>
    have flight := List.find?_some found
    simp only [beq_iff_eq, Option.some.injEq] at flight
    exact congrArg some (unique z (List.mem_of_find?_eq_some found) flight.symm)

/-- What a returned read does with the assembly `x`, which it has made `y`. -/
def State.assemblyGoes (x y : Assembly) (s : State) : State :=
  if y.outstanding = 0 then
    ({ s with assemblies := s.assemblies.filter (fun z => z.flight != x.flight) } : State).respond y.tag y.flight
      y.response
  else { s with assemblies := s.assemblies.map (fun z => if z.flight = x.flight then y else z) }

section Goes
variable (x y : Assembly) (s : State)

@[simp] theorem State.assemblyGoes_dram : (s.assemblyGoes x y).dram = s.dram := by
  unfold State.assemblyGoes; split <;> rfl
@[simp] theorem State.assemblyGoes_faults : (s.assemblyGoes x y).faults = s.faults := by
  unfold State.assemblyGoes; split <;> rfl
@[simp] theorem State.assemblyGoes_pool : (s.assemblyGoes x y).pool = s.pool := by
  unfold State.assemblyGoes; split <;> rfl
@[simp] theorem State.assemblyGoes_stations : (s.assemblyGoes x y).stations = s.stations := by
  unfold State.assemblyGoes; split <;> rfl
@[simp] theorem State.assemblyGoes_portWaiting : (s.assemblyGoes x y).portWaiting = s.portWaiting := by
  unfold State.assemblyGoes; split <;> rfl

/-- The last read. -/
theorem State.assemblyGoes_last {tag : Tag} {f : Nat} (h : y.outstanding = 0) (ht : y.tag = tag) (hf : y.flight = f) :
    (s.assemblyGoes x y).assemblies = s.assemblies.filter (fun z => z.flight != x.flight)
      ∧ (s.assemblyGoes x y).responses = s.responses
        ++ (splitReturned (completeFlight f y.response s.flights[tag])).1.map (fun r => (tag, r))
      ∧ (s.assemblyGoes x y).flights[tag] = (splitReturned (completeFlight f y.response s.flights[tag])).2 := by
  subst ht hf
  unfold State.assemblyGoes
  rw [if_pos h]
  exact ⟨rfl, rfl, getElem_set_fin_self _ _ _⟩

/-- An earlier read. -/
theorem State.assemblyGoes_earlier (h : y.outstanding ≠ 0) : (s.assemblyGoes x y).assemblies
      = s.assemblies.map (fun z => if z.flight = x.flight then y else z)
    ∧ (s.assemblyGoes x y).responses = s.responses ∧ (s.assemblyGoes x y).flights = s.flights := by
  unfold State.assemblyGoes
  rw [if_neg h]
  exact ⟨rfl, rfl, rfl⟩

end Goes

/-- The event of a returned read of the assembly `x`. -/
theorem exec_assemblyReadReturn {s : State} {id : Nat} {m : MemRequest} {x : Assembly} (a : Answer)
    (found : s.port.issued.find? (fun y => y.id == id && y.owner.isAssembly) = some m) (live : m.discard = false)
    (owner : m.owner.flight? = some x.flight) (mem : x ∈ s.assemblies)
    (unique : ∀ z ∈ s.assemblies, z.flight = x.flight → z = x) (none : s.portWaiting = []) :
    exec (.assemblyReadReturn id a) s
      = .next ((s.served id a m).assemblyGoes x (x.returned m.owner a.isOkay (s.bytesAt m))).closeEvent := by
  have runs : exec (.assemblyReadReturn id a) s
      = .next (s.run (State.memAnswer id a Owner.isAssembly (State.assemblyReturned a))).admitWaiting := rfl
  have acts : (s.served id a m).assemblyReturned a m (s.bytesAt m)
      = (s.served id a m).assemblyGoes x (x.returned m.owner a.isOkay (s.bytesAt m)) := by
    have which := State.find_assembly mem unique
    have same : (s.served id a m).assemblies = s.assemblies := (rfl)
    unfold State.assemblyReturned
    rw [owner, same, which]
    rfl
  rw [runs, State.run_memAnswer_live a _ found live]
  refine congrArg Host.Outcome.next ((State.admitWaiting_none ?_).trans (congrArg State.closeEvent acts))
  rw [State.closeEvent_portWaiting]
  exact (congrArg State.portWaiting acts).trans ((State.assemblyGoes_portWaiting _ _ _).trans none)

/-- What a returned read makes of its assembly, in the words of the statement. -/
theorem Assembly.returned_eq {x : Assembly} {o : Owner} {a : Answer} {bs bump line : List Byte}
    (isBump : bump = if o = .assemblyBump x.flight then bs else x.bumpBytes)
    (isLine : line = if o = .assemblyLine x.flight then bs else x.lineBytes) :
    x.returned o a.isOkay bs = { x with
      outstanding := x.outstanding - 1, error := x.error || decide (a ≠ .okay), bumpBytes := bump
      lineBytes := line } := by
  have error : (!a.isOkay) = decide (a ≠ .okay) := by cases a <;> rfl
  unfold Assembly.returned
  rw [isBump, isLine, error]

theorem Assembly.response_eq (y : Assembly) : y.response
    = if y.error = true then { status := .memfail, data := zeros y.len } else { status := .okay, data := y.view } := rfl

/-- Settles O16: the reads outstanding are one or two. -/
theorem assemblyFormsItsResponse : Obligations.AssemblyFormsItsResponse := by
  unfold Obligations.AssemblyFormsItsResponse
  intro s id m a x req before rest bump line resp found live kind owner mem unique none list others isBump isLine isResp
  have flight : m.owner.flight? = some x.flight := by rcases owner with h | h <;> (rw [h]; rfl)
  have runs := exec_assemblyReadReturn a found live flight mem unique none
  have returned := Assembly.returned_eq (a := a) isBump isLine
  generalize hy : x.returned m.owner a.isOkay (s.bytesAt m) = y at runs returned
  have outstanding : y.outstanding = x.outstanding - 1 := by rw [returned]
  have named : y.flight = x.flight := by rw [returned]
  have tag : y.tag = x.tag := by rw [returned]
  refine ⟨_, runs, by simp [serve_read m a s.dram kind], by simp, by simp, by simp, fun one => ?last, fun two => ?earlier⟩
  case earlier =>
    obtain ⟨assemblies, responses, flights⟩ := (s.served id a m).assemblyGoes_earlier x y (by omega)
    rw [State.closeEvent_responses, State.closeEvent_flights, State.closeEvent_assemblies, assemblies, responses,
      flights, returned, two]
    exact ⟨rfl, rfl, rfl⟩
  case last =>
    have response : y.response = resp := by
      rw [isResp, Assembly.response_eq, returned]
      simp only [Bool.or_eq_true, decide_eq_true_iff]
      rfl
    obtain ⟨assemblies, responses, flights⟩ := (s.served id a m).assemblyGoes_last x y (by omega) tag named
    rw [State.served_flights, response, list] at responses flights
    obtain ⟨returns, stays⟩ := splitReturned_completed (req := req) resp others
    rw [State.closeEvent_responses, State.closeEvent_flights, State.closeEvent_assemblies, assemblies, responses,
      flights]
    refine ⟨rfl, fun first => ?_, fun g first unanswered => ?_⟩
    · rw [returns first]
      exact ⟨rfl, rfl⟩
    · rw [stays g first unanswered]
      exact ⟨rfl, rfl⟩

-- ## The refusals of a bump

/-- The event of a translated write. -/
theorem exec_bumpWrite {s : State} {tag : Tag} {addr : Address} {len : Nat} {en : List Bool} {data : List Byte}
    {p : WindowPlace} (high : s.rstLow = false) (room : s.hasRoom tag = true)
    (translated : s.classify (writeRequest tag addr len en data) = .translated p) :
    exec (.bumpWrite tag addr len en data) s
      = .next ((s.joined (writeRequest tag addr len en data)).translateBump s.arrivals
        (writeRequest tag addr len en data) p).closeEvent := by
  have runs : s.requestStep (writeRequest tag addr len en data) = _ :=
    State.requestStep_room (r := writeRequest tag addr len en data) high room
  rw [translated] at runs
  exact congrArg Host.Outcome.next runs

theorem State.slotBatch_congr {s t : State} (stations : t.stations = s.stations) (pool : t.pool = s.pool)
    (st : StationId) (k : SlotId) : t.slotBatch st k = s.slotBatch st k := by
  unfold State.slotBatch
  rw [stations, pool]

/-- The batch of a slot is in use. -/
theorem State.batch_of_slotBatch {s : State} {st : StationId} {k : SlotId} {r : Nat} {b : Batch}
    (h : s.slotBatch st k = some (r, b)) : (s.stations[st]).slots[k] = some r ∧ s.batch? r = some b := by
  unfold State.slotBatch at h
  split at h
  · exact nomatch h
  · rename_i r' inSlot
    split at h
    · exact nomatch h
    · rename_i b' inUse
      obtain ⟨rfl, rfl⟩ := Prod.mk.inj (Option.some.inj h)
      exact ⟨inSlot, inUse⟩

/-- A fault about a batch in use names its ticket's course and line, when it has one. -/
theorem State.batchFault_eq {s : State} {r : Nat} {b : Batch} (h : s.batch? r = some b) (f : FaultReport)
    (course : f.course = 0) (line : f.line = 0) : s.batchFault r f = { f with
      course := ((s.ticketOf? b).map (fun k => k.course.val)).getD 0
      line := ((s.ticketOf? b).map (fun k => k.line)).getD 0 } := by
  unfold State.batchFault
  rw [h]
  cases owner : s.ticketOf? b with
  | none =>
    simp only [owner, Option.map_none, Option.getD_none]
    cases f
    cases course
    cases line
    rfl
  | some k => simp only [owner, Option.map_some, Option.getD_some]

/-- The refusal that a bump meets, if it meets one (R83, R147, R148). -/
def State.RefusesBump (s : State) (r : Request) (p : WindowPlace) (f : FaultReport) : Prop :=
  ((p.first ≠ 0 ∨ 8 < r.len) ∧ f = refusalOf r subNotABump p.station.val 0)
    ∨ (p.first = 0 ∧ r.len ≤ 8 ∧ s.slotBatch p.station p.slot = none
      ∧ f = refusalOf r subEmptySlotBump p.station.val 0)
    ∨ (p.first = 0 ∧ r.len ≤ 8 ∧ 2 < byteAt r.data 0 ∧ ∃ q b, s.slotBatch p.station p.slot = some (q, b)
      ∧ f = s.badBumpFault r p q)

theorem State.translateBump_refuses {s : State} {r : Request} {p : WindowPlace} {f : FaultReport}
    (h : s.RefusesBump r p f) (id : Nat) : s.translateBump id r p = s.refuse id r f := by
  unfold State.translateBump
  rcases h with ⟨form, rfl⟩ | ⟨first, len, empty, rfl⟩ | ⟨first, len, code, q, b, slot, rfl⟩
  · rw [if_pos form]
  · rw [if_neg (by omega), empty]
  · rw [if_neg (by omega), slot]
    exact if_pos code

/-- The event of a refusal: the answer, the fault, and no change of a table. -/
theorem State.refuse_closed {s : State} {r : Request} {f : FaultReport} (mild : f.reason.isFatal = false) {t : State}
    (ht : t = ((s.joined r).refuse s.arrivals r f).closeEvent) : OnlyOwnIssued s t ∧ Logs s t f
      ∧ (s.flights[r.tag] = [] → t.responses = [(r.tag, refusalResponse r)])
      ∧ t.pool = s.pool ∧ t.stations = s.stations ∧ t.courses = s.courses ∧ t.tickets = s.tickets := by
  have refused : (s.joined r).refuse s.arrivals r f
      = ((s.joined r).respond r.tag s.arrivals (refusalResponse r)).recordFault f := rfl
  rw [refused] at ht
  generalize hu : (s.joined r).respond r.tag s.arrivals (refusalResponse r) = u at ht
  obtain ⟨tickets, courses, stations, pool, port⟩ := u.recordFault_tables f
  have work := u.recordFault_mild_work f mild
  subst ht
  refine ⟨.closeEvent ?_, (u.recordFault_logs f).congr ?_ ?_ (State.closeEvent_faults _)
    (State.closeEvent_overflow _), fun empty => ?_, ?_, ?_, ?_, ?_⟩
  · rw [port, ← hu]
    rfl
  · rw [← hu]
    rfl
  · rw [← hu]
    rfl
  · rw [State.closeEvent_responses, work.responses, ← hu]
    exact (State.respond_joined_alone _ empty).1
  · rw [State.closeEvent_pool, pool, ← hu]
    rfl
  · rw [State.closeEvent_stations, stations, ← hu]
    rfl
  · rw [State.closeEvent_courses, courses, ← hu]
    rfl
  · rw [State.closeEvent_tickets, tickets, ← hu]
    rfl

/-- Settles O19: each refusal is the first that the bump meets, and every refusal ends alike. -/
theorem bumpRefusals : Obligations.BumpRefusals := by
  unfold Obligations.BumpRefusals
  intro s tag addr len en data p f high room translated refusal
  have met : (s.joined (writeRequest tag addr len en data)).RefusesBump (writeRequest tag addr len en data) p f := by
    unfold State.RefusesBump
    have same : (s.joined (writeRequest tag addr len en data)).slotBatch p.station p.slot
        = s.slotBatch p.station p.slot := State.slotBatch_congr rfl rfl _ _
    rw [same]
    rcases refusal with ⟨form, rfl⟩ | ⟨first, short, empty, rfl⟩ | ⟨first, short, code, q, b, slot, rfl⟩
    · exact .inl ⟨form, rfl⟩
    · exact .inr (.inl ⟨first, short, empty, rfl⟩)
    · refine .inr (.inr ⟨first, short, code, q, b, slot, ?_⟩)
      have inUse : (s.joined (writeRequest tag addr len en data)).batch? q = some b :=
        (State.batch_of_slotBatch slot).2
      exact (State.batchFault_eq inUse { reason := .badBump, source := tag, sub := byteAt data 0, station := p.station.val
                                         addr := addr.toNat } rfl rfl).symm
  have mild : f.reason.isFatal = false := by
    rcases refusal with ⟨-, rfl⟩ | ⟨-, -, -, rfl⟩ | ⟨-, -, -, q, b, -, rfl⟩ <;> rfl
  have runs := exec_bumpWrite high room translated
  rw [State.translateBump_refuses met] at runs
  exact ⟨_, runs, State.refuse_closed mild rfl⟩

end Sys2Proof.Machine

/-! SUPPORT. O24, O28 and O34: commands of the intake ring that end at once, or that take the lock of a line and go
on. The state in which a command is judged is the state before but for the port and the responses. -/

namespace Sys2Proof.Machine

-- ## The state in which a command is judged

section Fetched
variable (id : Nat) (s : State)

@[simp] theorem State.fetched_part : (s.fetched id).part = s.part := (rfl)
@[simp] theorem State.fetched_port : (s.fetched id).port = s.port.answered id := (rfl)

theorem State.fetched_nextId : s.port.nextId ≤ (s.fetched id).port.nextId := (s.port.answered_nextId id).ge

end Fetched

section Ends
variable {s : State} {n : Bool} {c : Command} {status : Status} {result : Nat}

theorem State.takesEntries_of_ready (h : s.part = .ready) : s.takesEntries = true := by
  unfold State.takesEntries
  rw [h]
  rfl

/-- In READY a command whose performance ends with a change `f` of the tables. -/
theorem State.takeAs_performs {u : State} (h : s.EntryReturns n c) (p : s.part = .ready) (known : c ≠ .unknown)
    (f : State → State) (done : ∀ id, (s.fetched id).perform c = (.ended status result, f (s.fetched id)))
    (intake : ∀ t, (f t).intake = t.intake) (part : ∀ t, (f t).part = t.part)
    (notify : ∀ t, (f t).conditions.notify = t.conditions.notify) (same : ∀ id, SameTables u (f (s.fetched id))) :
    EndsWith s u (s.takeAs n c) n status result :=
  State.takeAs_ends h (State.takesEntries_of_ready p) fun id =>
    ⟨f (s.fetched id), (State.judge_ready (s := s.fetched id) p known).trans (done id), part _, intake _, notify _, same id⟩

/-- In READY a command that ends and changes nothing. -/
theorem State.takeAs_stands (h : s.EntryReturns n c) (p : s.part = .ready) (known : c ≠ .unknown)
    (done : ∀ id, (s.fetched id).perform c = (.ended status result, s.fetched id)) :
    EndsWith s s (s.takeAs n c) n status result :=
  State.takeAs_performs h p known (fun t => t) done (fun _ => rfl) (fun _ => rfl) (fun _ => rfl)
    (fun id => .fetched id s)

end Ends

-- ## POST

section Post
variable {s : State} {line : Nat}

theorem State.postCommand_past (past : s.lineCount ≤ line) : s.postCommand line = (.ended .badField 0, s) := if_pos past

theorem State.locked_iff : s.locked line = true ↔ line ∈ s.locks := decide_eq_true_iff

theorem State.postCommand_locked (inside : line < s.lineCount) (locked : line ∈ s.locks) :
    s.postCommand line = (.ended .duplicate 0, s) := by
  unfold State.postCommand
  rw [if_neg (Nat.not_le.2 inside), if_pos (State.locked_iff.2 locked)]

theorem State.postCommand_free (inside : line < s.lineCount) (free : line ∉ s.locks) : s.postCommand line
    = if Config.ticketEntries ≤ s.tickets.length then (.ended .noRoom 0, s)
      else (.runs (.postLine line), (s.lock line).readOwn .lineFetch (s.lineAddr line) 64) := by
  unfold State.postCommand
  rw [if_neg (Nat.not_le.2 inside), if_neg (State.locked_iff.not.2 free)]

end Post

/-- Settles O24, by the checks of a taken POST in their order. -/
theorem postIsTaken : Obligations.PostIsTaken := by
  unfold Obligations.PostIsTaken
  intro s n line ready returns
  have known : Command.post line.toNat ≠ .unknown := nofun
  refine ⟨fun past => ⟨_, rfl, State.takeAs_stands returns ready known fun id =>
      State.postCommand_past (s := s.fetched id) past⟩,
    fun inside locked => ⟨_, rfl, State.takeAs_stands returns ready known fun id =>
      State.postCommand_locked (s := s.fetched id) inside locked⟩,
    fun inside free full => ⟨_, rfl, State.takeAs_stands returns ready known fun id =>
      (State.postCommand_free (s := s.fetched id) inside free).trans (if_pos full)⟩,
    fun inside free room => ?goes⟩
  obtain ⟨id, runs⟩ := State.takeAs_runs (work := .postLine line.toNat) returns (State.takesEntries_of_ready ready)
  have judged := (State.judge_ready (s := s.fetched id) ready known).trans
    ((State.postCommand_free (s := s.fetched id) inside free).trans (if_neg (Nat.not_le.2 room)))
  obtain ⟨running, grows, same⟩ := runs _ judged rfl
  have joins : addTo line.toNat s.locks = s.locks ++ [line.toNat] := if_neg free
  refine ⟨_, rfl, running, ?_, ?_⟩
  · exact Issues.mono ⟨_, Entered.issue (t := (s.fetched id).lock line.toNat) (s.fetched_nextId id) _⟩ grows
  · rw [← joins]
    exact same

-- ## AMEND

theorem exec_amendRow (f : AmendField) (n : Bool) (line value : BitVec 16) (s : State) :
    exec (amendRow f n line value) s = .next (s.takeAs n (.amend f line.toNat value.toNat)) := by
  cases f <;> rfl

section Amend
variable {s : State} {f : AmendField} {line v e : Nat} {k : Ticket}

theorem State.amendCommand_past (past : s.lineCount ≤ line) : s.amendCommand f line v = (.ended .badField 0, s) :=
  if_pos past

theorem State.amendCommand_none (inside : line < s.lineCount) (none : s.entryOfLine? line = none) :
    s.amendCommand f line v = (.ended .notPosted 0, s) := by
  unfold State.amendCommand
  rw [if_neg (Nat.not_le.2 inside), none]

theorem State.amendCommand_entry (inside : line < s.lineCount) (entry : s.entryOfLine? line = some (e, k)) :
    s.amendCommand f line v = if !s.amendValueOk f k v then (.ended .badField 0, s)
      else if k.voided then (.ended .tooLate 0, s) else s.amendApply line e k f v := by
  unfold State.amendCommand
  rw [if_neg (Nat.not_le.2 inside), entry]

/-- The values that an AMEND's field does not take (R19). -/
theorem State.amendValueOk_false (range : (f = .portions ∧ (v = 0 ∨ 4000 < v)) ∨ (f = .special ∧ 4000 < v)
      ∨ (f = .lead ∧ 4095 < v) ∨ (f = .wave ∧ (3 < v ∨ (s.courses[k.course]).plan.waves ≤ v))
      ∨ (f = .rush ∧ 1 < v) ∨ (f = .station ∧ 31 < v)) : s.amendValueOk f k v = false := by
  rcases range with ⟨rfl, h⟩ | ⟨rfl, h⟩ | ⟨rfl, h⟩ | ⟨rfl, h⟩ | ⟨rfl, h⟩ | ⟨rfl, h⟩ <;>
    (simp only [State.amendValueOk, Bool.and_eq_false_iff, decide_eq_false_iff_not]; omega)

end Amend

/-- Settles O28, by the checks of a taken AMEND in their order. -/
theorem amendIsChecked : Obligations.AmendIsChecked := by
  unfold Obligations.AmendIsChecked
  rintro s n f line value v rfl ready returns
  have known : Command.amend f line.toNat value.toNat ≠ .unknown := nofun
  refine ⟨fun past => ⟨_, exec_amendRow .., State.takeAs_stands returns ready known fun id =>
      State.amendCommand_past (s := s.fetched id) past⟩,
    fun inside none => ⟨_, exec_amendRow .., State.takeAs_stands returns ready known fun id =>
      State.amendCommand_none (s := s.fetched id) inside none⟩,
    fun e k inside entry range => ⟨_, exec_amendRow .., State.takeAs_stands returns ready known fun id => ?range⟩,
    fun e k inside entry good voided => ⟨_, exec_amendRow .., State.takeAs_stands returns ready known fun id => ?voided⟩⟩
  case range =>
    have bad := State.amendValueOk_false (s := s.fetched id) range
    exact (State.amendCommand_entry (s := s.fetched id) inside entry).trans (if_pos (by rw [bad]; rfl))
  case voided =>
    have good' : (s.fetched id).amendValueOk f k value.toNat = true := good
    exact (State.amendCommand_entry (s := s.fetched id) inside entry).trans
      ((if_neg (by rw [good']; decide)).trans (if_pos voided))

-- ## FLUSH

/-- Settles O34, by granularity. -/
theorem flushEmptiesTheCache : Obligations.FlushEmptiesTheCache := by
  unfold Obligations.FlushEmptiesTheCache
  intro s n target ready
  have empties {c : Command} {u : State} {l : List CacheEntry} {result : Nat} (known : c ≠ .unknown)
      (returns : s.EntryReturns n c) (hu : u = { s with cache := l })
      (done : ∀ id, (s.fetched id).perform c = (.ended .done result, { s.fetched id with cache := l })) :
      EndsWith s u (s.takeAs n c) n .done result := by
    refine State.takeAs_performs returns ready known (fun t => { t with cache := l }) done (fun _ => rfl) (fun _ => rfl)
      (fun _ => rfl) (fun id => ?_)
    subst hu
    rfl
  refine ⟨fun all => ⟨_, rfl, empties nofun all rfl fun _ => rfl⟩,
    fun dish => ⟨fun inside => ⟨_, rfl, empties nofun dish rfl fun id => if_neg (Nat.not_lt.2 inside)⟩,
      fun past => ⟨_, rfl, State.takeAs_stands dish ready nofun fun id => if_pos past⟩⟩,
    fun station => ⟨fun inside => ⟨_, rfl, empties nofun station rfl fun id => if_neg (Nat.not_lt.2 inside)⟩,
      fun past => ⟨_, rfl, State.takeAs_stands station ready nofun fun id => if_pos past⟩⟩⟩

end Sys2Proof.Machine

/-! SUPPORT. O37, O40 and O51: HOLD, RESUME, the refusals of STATION, and PLAN. First what a completion leaves, said once:
the entry's completion, every other field, and the mirror entries that are written. -/

namespace Sys2Proof.Machine

-- ## A completion

/-- The entry at the head of `s` has completed in `t` from the state `v` of its command: the completion, what else `t`
holds, and what is written. -/
structure Finishes (s v t : State) (n : Bool) (status : Status) (result : Nat) : Prop where
  completes : Completes s t n status result
  leaves : CompletedFrom v t n
  courses : ∀ c ∈ v.marks.courses, WritesCourseMirror s t c
  stations : ∀ st ∈ v.marks.stations, WritesStationMirror s t st
  service : v.marks.service = true → WritesServiceMirror s t
  port : PortGrows v.port t.port

theorem State.complete_finishes {s v : State} (w : CommandWork s v) (intake : v.intake = s.intake)
    (takes : v.takesEntries = true) (notify : v.conditions.notify = s.conditions.notify) (quiet : s.responses = [])
    (n : Bool) (status : Status) (result : Nat) :
    Finishes s v (v.complete n status result).closeEvent n status result := by
  obtain ⟨courses, stations, service⟩ := State.complete_writes w.port.nextId w.straps n status result
  exact ⟨State.completes intake w.setup w.straps w.port.nextId takes notify n status result,
    State.complete_closed n status result v (w.responses.trans quiet), courses, stations, service,
    (State.complete_work n status result v).port.trans (State.closeEvent_port _)⟩

/-- A completion seen from before the fetch or the read that led to it was answered. -/
theorem Finishes.before {s u v t : State} {n : Bool} {status : Status} {result : Nat} (h : Finishes u v t n status result)
    (nextId : s.port.nextId ≤ u.port.nextId) (setup : u.setup = s.setup) (straps : u.straps = s.straps)
    (intake : u.intake = s.intake) (notify : u.conditions.notify = s.conditions.notify) :
    Finishes s v t n status result := by
  have entered {m : MemRequest} {id : Nat} (e : Entered u t m id) : Entered s t m id := ⟨nextId.trans e.1, e.2⟩
  have issues {m : MemRequest} (e : Issues u t m) : Issues s t m := e.imp fun _ => entered
  have ringBase : u.ringBase = s.ringBase := by unfold State.ringBase; rw [setup]
  have ringCount : u.ringCount = s.ringCount := by unfold State.ringCount; rw [setup]
  have nextHead : u.nextHead = s.nextHead := by unfold State.nextHead; rw [intake, ringCount]
  have headAddr : u.headAddr = s.headAddr := by unfold State.headAddr; rw [intake, ringBase]
  obtain ⟨⟨writes, head, tail, waits, fetches, notified⟩, leaves, courses, stations, service, port⟩ := h
  rw [headAddr, nextHead, straps] at writes
  rw [nextHead] at head waits fetches
  rw [intake] at tail waits fetches
  rw [ringBase] at fetches
  rw [notify] at notified
  refine ⟨⟨?_, head, tail, waits, fun more => ?_, notified⟩, leaves, fun c hc => ?_, fun st hst => ?_, fun hs => ?_, port⟩
  · obtain ⟨i, j, order, first, second⟩ := writes
    exact ⟨i, j, order, entered first, entered second⟩
  · obtain ⟨i, fetching, e⟩ := fetches more
    exact ⟨i, fetching, entered e⟩
  · have := issues (courses c hc)
    rwa [straps] at this
  · have := issues (stations st hst)
    rwa [straps] at this
  · have := issues (service hs)
    rwa [straps] at this

/-- The row of a returned entry, by the judgement of its command. -/
theorem State.takeAs_finishes {s : State} {n : Bool} {c : Command} (returns : s.EntryReturns n c)
    (takes : s.takesEntries = true) : ∃ id, ∀ status result v, (s.fetched id).judge c = (.ended status result, v) →
      v.intake = s.intake → v.part = s.part → v.conditions.notify = s.conditions.notify →
      Finishes s v (s.takeAs n c) n status result := by
  obtain ⟨id, row⟩ := State.takeAs_returns returns (State.goes_of_takesEntries takes)
  refine ⟨id, fun status result v judged intake part notify => ?_⟩
  have work := State.judge_work c (s.fetched id)
  rw [judged] at work
  have closes : s.takeAs n c = (v.complete n status result).closeEvent := by
    refine row.trans (congrArg State.closeEvent ?_)
    have done := congrArg (State.finishCommand n) judged
    exact done
  rw [closes]
  exact (State.complete_finishes work intake (State.takesEntries_of_part part takes) notify rfl n status result).before
    (s.fetched_nextId id) rfl rfl rfl rfl

section Leaves
variable {v t : State} {n : Bool}

theorem CompletedFrom.tickets (h : CompletedFrom v t n) : t.tickets = v.tickets := by rw [h]
theorem CompletedFrom.pool (h : CompletedFrom v t n) : t.pool = v.pool := by rw [h]
theorem CompletedFrom.courses (h : CompletedFrom v t n) : t.courses = v.courses := by rw [h]
theorem CompletedFrom.stations (h : CompletedFrom v t n) : t.stations = v.stations := by rw [h]
theorem CompletedFrom.service (h : CompletedFrom v t n) : t.service = v.service := by rw [h]
theorem CompletedFrom.locks (h : CompletedFrom v t n) : t.locks = v.locks := by rw [h]
theorem CompletedFrom.cache (h : CompletedFrom v t n) : t.cache = v.cache := by rw [h]
theorem CompletedFrom.faults (h : CompletedFrom v t n) : t.faults = v.faults := by rw [h]
theorem CompletedFrom.overflow (h : CompletedFrom v t n) : t.overflow = v.overflow := by rw [h]
theorem CompletedFrom.dram (h : CompletedFrom v t n) : t.dram = v.dram := by rw [h]
theorem CompletedFrom.part (h : CompletedFrom v t n) : t.part = v.part := by rw [h]
theorem CompletedFrom.plan (h : CompletedFrom v t n) : t.plan = v.plan := by rw [h]
theorem CompletedFrom.loader (h : CompletedFrom v t n) : t.loader = v.loader := by rw [h]
theorem CompletedFrom.logIndex (h : CompletedFrom v t n) : t.logIndex = v.logIndex := by rw [h]
theorem CompletedFrom.cleared (h : CompletedFrom v t n) : t.conditions.cleared = v.conditions.cleared := by rw [h]
theorem CompletedFrom.stall (h : CompletedFrom v t n) : t.conditions.stall = v.conditions.stall := by rw [h]
theorem CompletedFrom.setup (h : CompletedFrom v t n) : t.setup = v.setup := by rw [h]
theorem CompletedFrom.straps (h : CompletedFrom v t n) : t.straps = v.straps := by rw [h]

end Leaves

-- ## Marks

theorem mem_addTo_self {α : Type} [DecidableEq α] (a : α) (l : List α) : a ∈ addTo a l := by
  unfold addTo
  split
  · assumption
  · exact List.mem_append_right _ (List.mem_singleton.2 rfl)

theorem State.updCourse_marked {s : State} {c : CourseId} {f : Course → Course}
    (h : (f s.courses[c]).mirrored ≠ (s.courses[c]).mirrored) : c ∈ (s.updCourse c f).marks.courses := by
  unfold State.updCourse
  simp only [if_neg h]
  exact mem_addTo_self _ _

theorem State.updStation_marked {s : State} {st : StationId} {f : Station → Station}
    (h : (f s.stations[st]).mirrored ≠ (s.stations[st]).mirrored) : st ∈ (s.updStation st f).marks.stations := by
  unfold State.updStation
  simp only [if_neg h]
  exact mem_addTo_self _ _

-- ## HOLD and RESUME

theorem State.plannedCourse_none {s : State} {c : Nat} (h : s.plan.courseCount ≤ c) : s.plannedCourse? c = none := by
  unfold State.plannedCourse?
  split
  · exact if_neg (Nat.not_lt.2 h)
  · rfl

theorem State.plannedCourse_some {s : State} {n : Nat} {c : CourseId} (hc : n = c.val) (h : c.val < s.plan.courseCount) :
    s.plannedCourse? n = some c := by
  subst hc
  unfold State.plannedCourse?
  rw [dif_pos c.isLt, if_pos h]

section HoldResume
variable {s : State} {n : Nat} {c : CourseId}

theorem State.holdCommand_unplanned (h : s.plan.courseCount ≤ n) : s.holdCommand n = (.ended .badField 0, s) := by
  unfold State.holdCommand
  rw [State.plannedCourse_none h]

theorem State.holdCommand_planned (hc : n = c.val) (h : c.val < s.plan.courseCount) : s.holdCommand n
    = if (s.courses[c]).state ≠ .fired then (.ended .badState 0, s)
      else (.ended .done 0, s.updCourse c (fun x => { x with state := .held })) := by
  unfold State.holdCommand
  rw [State.plannedCourse_some hc h]

theorem State.resumeCommand_unplanned (h : s.plan.courseCount ≤ n) : s.resumeCommand n = (.ended .badField 0, s) := by
  unfold State.resumeCommand
  rw [State.plannedCourse_none h]

theorem State.resumeCommand_planned (hc : n = c.val) (h : c.val < s.plan.courseCount) : s.resumeCommand n
    = if (s.courses[c]).state ≠ .held then (.ended .badState 0, s)
      else (.ended .done 0, s.updCourse c (fun x => { x with state := .fired })) := by
  unfold State.resumeCommand
  rw [State.plannedCourse_some hc h]

end HoldResume

/-- A command that puts one course in another state. -/
theorem State.takeAs_setsCourse {s : State} {n : Bool} {c : Command} {d : CourseId} {x : CourseState}
    (returns : s.EntryReturns n c) (ready : s.part = .ready) (known : c ≠ .unknown) (moves : x ≠ (s.courses[d]).state)
    (done : ∀ id, (s.fetched id).perform c
      = (.ended .done 0, (s.fetched id).updCourse d (fun y => { y with state := x }))) :
    EndsWith s { s with courses := s.courses.set d { (s.courses[d]) with state := x } } (s.takeAs n c) n .done 0
      ∧ WritesCourseMirror s (s.takeAs n c) d := by
  obtain ⟨id, row⟩ := State.takeAs_finishes returns (State.takesEntries_of_ready ready)
  have judged := (State.judge_ready (s := s.fetched id) ready known).trans (done id)
  have finishes := row _ _ _ judged rfl rfl rfl
  refine ⟨⟨finishes.completes, finishes.leaves.rebase rfl⟩, finishes.courses d (State.updCourse_marked ?_)⟩
  exact fun same => moves (congrArg Prod.fst same)

/-- Settles O37: HOLD and then RESUME, each by its checks. -/
theorem holdAndResume : Obligations.HoldAndResume := by
  unfold Obligations.HoldAndResume
  intro s n course c ready
  refine ⟨fun hold => ⟨fun unplanned => ⟨_, rfl, State.takeAs_stands hold ready nofun fun id =>
        State.holdCommand_unplanned (s := s.fetched id) unplanned⟩,
      fun hc planned other => ⟨_, rfl, State.takeAs_stands hold ready nofun fun id =>
        (State.holdCommand_planned (s := s.fetched id) hc planned).trans (if_pos other)⟩,
      fun hc planned fired => ⟨_, rfl, State.takeAs_setsCourse hold ready nofun (by rw [fired]; decide) fun id =>
        (State.holdCommand_planned (s := s.fetched id) hc planned).trans (if_neg (not_not.2 fired))⟩⟩,
    fun resume => ⟨fun unplanned => ⟨_, rfl, State.takeAs_stands resume ready nofun fun id =>
        State.resumeCommand_unplanned (s := s.fetched id) unplanned⟩,
      fun hc planned other => ⟨_, rfl, State.takeAs_stands resume ready nofun fun id =>
        (State.resumeCommand_planned (s := s.fetched id) hc planned).trans (if_pos other)⟩,
      fun hc planned held => ⟨_, rfl, State.takeAs_setsCourse resume ready nofun (by rw [held]; decide) fun id =>
        (State.resumeCommand_planned (s := s.fetched id) hc planned).trans (if_neg (not_not.2 held))⟩⟩⟩

-- ## The refusals of STATION

theorem toBackup_some (st : StationId) : toBackup st.val = some st := dif_pos st.isLt

theorem toBackup_none {n : Nat} (h : 31 < n) : toBackup n = none := dif_neg (by omega)

theorem exec_stationRow (a : StationAction) (n : Bool) (station value : Byte) (s : State) :
    exec (stationRow a n station value) s = .next (s.takeAs n (stationEntry a station value)) := by
  cases a <;> rfl

/-- An action of STATION at a station of the part. -/
def State.stationAct (a : StationAction) (st : StationId) (v : Nat) (s : State) : CommandEnd × State :=
  match a with
  | .opening => s.stationOpen st
  | .close => s.stationClose st
  | .pause => s.stationPause st
  | .unpause => s.stationUnpause st
  | .backup => s.stationBackup st v
  | .capacity => s.stationCapacity st v
  | .releaseStranded => s.stationRelease st v

section Station
variable {s : State} {st : StationId} {v : Nat}

theorem State.stationCommand_named {a : StationAction} {station : Nat} (h : station = st.val) :
    s.stationCommand a station v = s.stationAct a st v := by
  subst h
  unfold State.stationCommand
  rw [toBackup_some]
  rfl

theorem State.stationCommand_none {a : StationAction} {station : Nat} (h : 31 < station) :
    s.stationCommand a station v = (.ended .badField 0, s) := by
  unfold State.stationCommand
  rw [toBackup_none h]

theorem State.stationCapacity_past (h : 16 < v) : s.stationCapacity st v = (.ended .badField 0, s) := if_pos h

theorem State.stationBackup_past (h : 32 < v ∨ v = st.val) : s.stationBackup st v = (.ended .badField 0, s) := if_pos h

theorem State.stationRelease_past (h : 31 < v) : s.stationRelease st v = (.ended .badField 0, s) := by
  unfold State.stationRelease
  rw [toBackup_none h]

theorem State.stationRelease_closed {x : StationId} (hv : v = x.val) (h : (s.stations[x]).state = .closed) :
    s.stationRelease st v = (.ended .badState 0, s) := by
  subst hv
  unfold State.stationRelease
  rw [toBackup_some]
  exact if_pos h

theorem State.stationOpen_open (h : (s.stations[st]).state = .opened ∨ (s.stations[st]).state = .paused) :
    s.stationOpen st = (.ended .badState 0, s) := by
  unfold State.stationOpen
  rcases h with h | h <;> rw [h]

theorem State.stationClose_busy (h : (s.stations[st]).state = .closed ∨ (s.stations[st]).state = .down
      ∨ (s.stations[st]).occupied ≠ 0) : s.stationClose st = (.ended .badState 0, s) := by
  refine if_neg fun ⟨state, empty⟩ => ?_
  rcases h with h | h | h
  · rw [h] at state
    exact absurd state (by decide)
  · rw [h] at state
    exact absurd state (by decide)
  · exact h empty

theorem State.stationPause_other (h : (s.stations[st]).state ≠ .opened) :
    s.stationPause st = (.ended .badState 0, s) := if_neg h

theorem State.stationUnpause_other (h : (s.stations[st]).state ≠ .paused) :
    s.stationUnpause st = (.ended .badState 0, s) := if_neg h

end Station

/-- Settles O40, by action. -/
theorem stationRefusals : Obligations.StationRefusals := by
  unfold Obligations.StationRefusals
  intro s a n station value ready returns
  have stands {status : Status} (done : ∀ t : State, t.stations = s.stations → t.stationCommand a station.toNat
      (if a.readsValue then value.toNat else 0) = (.ended status 0, t)) :
      ∃ t, exec (stationRow a n station value) s = .next t ∧ EndsWith s s t n status 0 :=
    ⟨_, exec_stationRow a n station value s, State.takeAs_stands returns ready nofun fun id => done (s.fetched id) rfl⟩
  refine ⟨fun past => stands fun t _ => State.stationCommand_none past, fun inside bad => stands fun t _ => ?field,
    fun st hst bad => stands fun t same => ?state⟩
  case field =>
    rw [State.stationCommand_named (st := ⟨station.toNat, by omega⟩) rfl]
    rcases bad with ⟨rfl, h⟩ | ⟨rfl, h⟩ | ⟨rfl, h⟩
    · exact State.stationCapacity_past h
    · exact State.stationBackup_past (h.imp_right fun h => congrArg BitVec.toNat h)
    · exact State.stationRelease_past h
  case state =>
    rw [State.stationCommand_named hst]
    rw [← same] at bad
    rcases bad with ⟨rfl, h⟩ | ⟨rfl, h⟩ | ⟨rfl, h⟩ | ⟨rfl, h⟩ | ⟨rfl, x, hx, h⟩
    · exact State.stationOpen_open h
    · exact State.stationClose_busy h
    · exact State.stationPause_other h
    · exact State.stationUnpause_other h
    · exact State.stationRelease_closed hx h

-- ## PLAN

/-- Something stands against a PLAN: a LIVE ticket, a service, or a live course (R182). -/
def State.busy (s : State) : Prop :=
  s.tickets ≠ [] ∨ s.service.state = .running ∨ s.service.state = .stalled ∨ 0 < s.liveCount

theorem State.busy_iff (s : State) : (!s.tickets.isEmpty || s.service.state == .running || s.service.state == .stalled
    || decide (0 < s.liveCount)) = true ↔ s.busy := by
  simp [State.busy, or_assoc]

section Plan
variable {s : State} {u : Setup} {addr : Nat}

theorem State.planCommand_busy (h : s.busy) : s.planCommand addr = (.ended .badState 0, s) := if_pos (s.busy_iff.2 h)

theorem State.planCommand_free (h : ¬s.busy) (setup : s.setup = some u) : s.planCommand addr
    = if badPlanAddr s.straps u addr then (.ended .badPlan 0, s) else (.runs .plan, s.beginLoad .command addr) := by
  unfold State.planCommand
  rw [if_neg (s.busy_iff.not.2 h), setup]

theorem badPlanAddr_iff {straps : BitVec 8} : badPlanAddr straps u addr = true
    ↔ addr % 64 ≠ 0 ∨ inPlainOrGuard straps u { base := addr, size := 1088 } = false := by
  unfold badPlanAddr planBytes
  simp

end Plan

/-- Settles O51, by the checks of a taken PLAN in their order. -/
theorem planIsTaken : Obligations.PlanIsTaken := by
  unfold Obligations.PlanIsTaken
  intro s n addr u takes setup returns
  have judged (id : Nat) : (s.fetched id).judge (.plan addr.toNat) = (s.fetched id).planCommand addr.toNat :=
    State.judge_idle rfl
  have stands {status : Status} (done : ∀ id, (s.fetched id).planCommand addr.toNat = (.ended status 0, s.fetched id)) :
      ∃ t, exec (.plan n addr) s = .next t ∧ EndsWith s s t n status 0 :=
    ⟨_, rfl, State.takeAs_ends returns takes fun id =>
      ⟨_, (judged id).trans (done id), rfl, rfl, rfl, .fetched id s⟩⟩
  refine ⟨fun busy => stands fun id => State.planCommand_busy (s := s.fetched id) busy,
    fun noTicket noService noCourse => ?_⟩
  have free : ¬s.busy := by
    rintro (ticket | running | stalled | live)
    · exact ticket noTicket
    · rcases noService with h | h <;> exact nomatch h.symm.trans running
    · rcases noService with h | h <;> exact nomatch h.symm.trans stalled
    · omega
  refine ⟨fun bad => stands fun id => (State.planCommand_free (s := s.fetched id) free setup).trans
    (if_pos (badPlanAddr_iff.2 bad)), fun aligned plain => ?_⟩
  have good : ¬badPlanAddr s.straps u addr.toNat = true := by
    rw [badPlanAddr_iff, plain]
    simpa using aligned
  obtain ⟨id, runs⟩ := State.takeAs_runs (work := .plan) returns takes
  obtain ⟨running, grows, same⟩ := runs _
    ((judged id).trans ((State.planCommand_free (s := s.fetched id) free setup).trans (if_neg good))) rfl
  refine ⟨_, rfl, running, ?_, ?_, ?_, ?_, ?_, ?_⟩
  · rw [same]
    rfl
  · have entered := Entered.issue (s := s)
      (t := { s.fetched id with loader := .planning ⟨.command, addr.toNat, .check, 0, noPlan⟩ })
      (s.fetched_nextId id) (ownRequest .planRead .read addr.toNat 64 [])
    exact Issues.mono ⟨_, entered⟩ grows
  all_goals
    rw [same]
    rfl

end Sys2Proof.Machine

/-! SUPPORT. O22 and O23: the return of the entry fetch (R155, R156), and FENCE (R162). -/

namespace Sys2Proof.Machine

theorem Answer.isOkay_of_ne {a : Answer} (h : a ≠ .okay) : a.isOkay = false := by
  cases a with
  | okay => exact absurd rfl h
  | error left => rfl

-- ## Answers to the part's own reads

/-- The event of an answer to a read of the part: DRAM stands, and the owner acts on what it holds. -/
theorem State.run_ownRead {s : State} {id : Nat} {m : MemRequest} {owns : Owner → Bool} (h : s.ReadInFlight id owns m)
    (a : Answer) (act : MemRequest → List Byte → State → State) :
    s.run (State.memAnswer id a owns act) = (act m (s.bytesAt m) (s.fetched id)).closeEvent := by
  obtain ⟨found, read, live⟩ := h
  rw [State.run_memAnswer_live a act found live, serve_read m a s.dram read]
  rfl

/-- A completion after the answer to a read. -/
theorem State.fetched_finishes {s v : State} {id : Nat} (takes : s.takesEntries = true)
    (w : CommandWork (s.fetched id) v) (intake : v.intake = s.intake) (part : v.part = s.part)
    (notify : v.conditions.notify = s.conditions.notify) (n : Bool) (status : Status) (result : Nat) :
    Finishes s v (v.complete n status result).closeEvent n status result :=
  (State.complete_finishes w intake (State.takesEntries_of_part part takes) notify rfl n status result).before
    (s.fetched_nextId id) rfl rfl rfl rfl

/-- Without stop-on-fatal a fault leaves the part state. -/
theorem State.recordFault_goes {s : State} (h : s.stopsOnFatal = false) (f : FaultReport) :
    (s.recordFault f).part = s.part :=
  State.recordFault_stands fun ⟨_, stops, _⟩ => absurd (h.symm.trans stops) (by decide)

/-- In STOPPED a fault leaves the part state. -/
theorem State.recordFault_stopped {s : State} (h : s.part = .stopped) (f : FaultReport) :
    (s.recordFault f).part = .stopped := by
  refine (State.recordFault_stands fun ⟨_, _, goes⟩ => ?_).trans h
  rcases goes with goes | goes <;> exact nomatch h.symm.trans goes

/-- A completion after a failed read, which records its fault first. -/
theorem State.failed_finishes {s : State} (takes : s.takesEntries = true) (goes : s.GoesOn) (id : Nat) (f : FaultReport)
    (n : Bool) (status : Status) (result : Nat) :
    Finishes s ((s.fetched id).recordFault f) (((s.fetched id).recordFault f).complete n status result).closeEvent n
      status result :=
  State.fetched_finishes takes ((s.fetched id).recordFault_work f) (State.recordFault_intake f _)
    (State.recordFault_goes (s := s.fetched id) goes f)
      (congrArg Conditions.notify (State.recordFault_conditions f _)) n status result

/-- The log of a completion after a failed read. -/
theorem CompletedFrom.logs {s t : State} {f : FaultReport} {id : Nat} {n : Bool}
    (h : CompletedFrom ((s.fetched id).recordFault f) t n) : Logs s t f :=
  ((s.fetched id).recordFault_logs f).congr rfl rfl h.faults h.overflow

-- ## The command of an entry

/-- A command code above 0B names no command (R156, R164). -/
theorem decodeCommand_unknown {bs : List Byte} (h : 0x0B < byteAt bs 0) : decodeCommand bs = .unknown := by
  unfold decodeCommand
  split
  any_goals omega
  rfl

/-- The command codes 01 to 09 are not taken in IDLE (R156). -/
theorem decodeCommand_notInIdle {bs : List Byte} (lo : 1 ≤ byteAt bs 0) (hi : byteAt bs 0 ≤ 9) :
    decodeCommand bs ≠ .unknown ∧ (decodeCommand bs).inIdle = false := by
  have code : byteAt bs 0 = 1 ∨ byteAt bs 0 = 2 ∨ byteAt bs 0 = 3 ∨ byteAt bs 0 = 4 ∨ byteAt bs 0 = 5
      ∨ byteAt bs 0 = 6 ∨ byteAt bs 0 = 7 ∨ byteAt bs 0 = 8 ∨ byteAt bs 0 = 9 := by omega
  unfold decodeCommand
  rcases code with h | h | h | h | h | h | h | h | h <;> rw [h] <;> simp only
  any_goals split
  all_goals exact ⟨nofun, rfl⟩

-- ## The return of the entry fetch

section Fetch
variable {s : State} {id : Nat} {m : MemRequest}

/-- An entry whose command is refused at its judgement. -/
theorem State.entryFetched_refuses (reads : s.ReadInFlight id Owner.isEntryFetch m) (takes : s.takesEntries = true)
    {status : Status} (judged : (s.fetched id).judge (decodeCommand (s.bytesAt m)) = (.ended status 0, s.fetched id)) :
    ∃ t, exec (.entryFetchDone id .okay) s = .next t
      ∧ EndsWith s s t (byteAt (s.bytesAt m) 1 % 2 == 1) status 0 := by
  have runs := State.run_ownRead reads .okay (State.entryFetched .okay)
  have goes : (s.fetched id).part ≠ .stopped := State.goes_of_takesEntries takes
  have taken : (s.fetched id).entryFetched .okay m (s.bytesAt m)
      = (s.fetched id).complete (entryNotify (s.bytesAt m)) status 0 := by
    unfold State.entryFetched
    rw [if_pos (by rfl), if_neg goes, State.takeCommand, judged]
    rfl
  rw [taken] at runs
  have finishes := State.fetched_finishes (id := id) takes (.refl _) rfl rfl rfl (entryNotify (s.bytesAt m)) status 0
  exact ⟨_, congrArg Host.Outcome.next runs, finishes.completes, finishes.leaves.rebase (.fetched id s)⟩

/-- In STOPPED no entry is taken (R175). -/
theorem State.entryFetched_stopped {a : Answer} (stopped : s.part = .stopped) (bs : List Byte) :
    ((s.fetched id).entryFetched a m bs = s.fetched id)
      ∨ ∃ f, (s.fetched id).entryFetched a m bs = (s.fetched id).recordFault f := by
  unfold State.entryFetched
  split
  · exact .inl (if_pos stopped)
  · exact .inr ⟨_, if_pos (State.recordFault_stopped (s := s.fetched id) stopped _)⟩

/-- Fault OWN READ FAILED of an entry fetch (R155, R166). -/
def fetchFault (m : MemRequest) : FaultReport := { reason := .ownReadFailed, source := 63, sub := 3, addr := m.addr }

theorem State.entryFetched_failed {a : Answer} (bad : a ≠ .okay) (bs : List Byte)
    (goes : (s.recordFault (fetchFault m)).part ≠ .stopped) :
    s.entryFetched a m bs = (s.recordFault (fetchFault m)).complete false .memoryError 0 := by
  cases a with
  | okay => exact absurd rfl bad
  | error left =>
    unfold State.entryFetched
    rw [Answer.isOkay_of_ne bad, if_neg Bool.false_ne_true]
    exact if_neg goes

theorem exec_entryFetch_failed {a : Answer} (reads : s.ReadInFlight id Owner.isEntryFetch m) (bad : a ≠ .okay)
    (takes : s.takesEntries = true) (goes : s.GoesOn) : ∃ t, exec (.entryFetchDone id a) s = .next t
      ∧ Completes s t false .memoryError 0 ∧ Logs s t (fetchFault m)
      ∧ t.tickets = s.tickets ∧ t.courses = s.courses ∧ t.stations = s.stations ∧ t.dram = s.dram := by
  have runs := State.run_ownRead reads a (State.entryFetched a)
  have notStopped : ((s.fetched id).recordFault (fetchFault m)).part ≠ .stopped := by
    rw [State.recordFault_goes (s := s.fetched id) goes]
    exact State.goes_of_takesEntries takes
  rw [State.entryFetched_failed bad _ notStopped] at runs
  have finishes := State.failed_finishes takes goes id (fetchFault m) false .memoryError 0
  obtain ⟨tickets, courses, stations, -, -⟩ := (s.fetched id).recordFault_tables (fetchFault m)
  have dram := ((s.fetched id).recordFault_work (fetchFault m)).dram
  exact ⟨_, congrArg Host.Outcome.next runs, finishes.completes, finishes.leaves.logs,
    finishes.leaves.tickets.trans tickets, finishes.leaves.courses.trans courses,
    finishes.leaves.stations.trans stations, finishes.leaves.dram.trans dram⟩

theorem exec_entryFetch_stopped (a : Answer) (reads : s.ReadInFlight id Owner.isEntryFetch m)
    (stopped : s.part = .stopped) : ∃ t, exec (.entryFetchDone id a) s = .next t ∧ t.intake = s.intake
      ∧ t.tickets = s.tickets ∧ t.courses = s.courses ∧ t.stations = s.stations ∧ t.dram = s.dram := by
  have runs := State.run_ownRead reads a (State.entryFetched a)
  refine ⟨_, congrArg Host.Outcome.next runs, ?_⟩
  rw [State.closeEvent_intake, State.closeEvent_tickets, State.closeEvent_courses, State.closeEvent_stations,
    State.closeEvent_dram]
  rcases State.entryFetched_stopped (m := m) (a := a) (id := id) stopped (s.bytesAt m) with taken | ⟨f, taken⟩
  · rw [taken]
    exact ⟨rfl, rfl, rfl, rfl, rfl⟩
  · obtain ⟨tickets, courses, stations, -, -⟩ := (s.fetched id).recordFault_tables f
    rw [taken, tickets, courses, stations, State.recordFault_intake, ((s.fetched id).recordFault_work f).dram]
    exact ⟨rfl, rfl, rfl, rfl, rfl⟩

theorem State.judge_unknown {c : Command} (h : c = .unknown) : s.judge c = (.ended .badCommand 0, s) := if_pos h

theorem State.judge_notInIdle {c : Command} (known : c ≠ .unknown) (idle : s.part = .idle) (h : c.inIdle = false) :
    s.judge c = (.ended .badState 0, s) := by
  unfold State.judge
  rw [if_neg known, if_pos ⟨idle, h⟩]

end Fetch

/-- Settles O22: the answers to the fetch, and NOP. -/
theorem entryFetchIsJudged : Obligations.EntryFetchIsJudged := by
  unfold Obligations.EntryFetchIsJudged
  refine ⟨fun s id m a fetching reads => ⟨fun bad takes goes => exec_entryFetch_failed reads bad takes goes,
    fun okay takes code => ?unknown, fun okay idle lo hi => ?idle,
    fun stopped => exec_entryFetch_stopped a reads stopped⟩, fun s n takes returns => ⟨_, rfl, ?nop⟩⟩
  case unknown =>
    subst okay
    exact State.entryFetched_refuses reads takes (State.judge_unknown (decodeCommand_unknown code))
  case idle =>
    subst okay
    obtain ⟨known, notInIdle⟩ := decodeCommand_notInIdle lo hi
    have takes : s.takesEntries = true := by
      unfold State.takesEntries
      rw [idle]
      rfl
    exact State.entryFetched_refuses reads takes (State.judge_notInIdle (s := s.fetched id) known idle notInIdle)
  case nop =>
    exact State.takeAs_ends returns takes fun id =>
      ⟨s.fetched id, State.judge_idle rfl, rfl, rfl, rfl, .fetched id s⟩

-- ## FENCE

/-- The row of a returned entry, with its fetch. -/
theorem State.takeAs_eq {s : State} {n : Bool} {c : Command} (returns : s.EntryReturns n c) (goes : s.part ≠ .stopped) :
    ∃ m ∈ s.port.issued, m.kind = .read
      ∧ s.takeAs n c = (State.finishCommand n ((s.fetched m.id).judge c)).closeEvent := by
  obtain ⟨id, m, fetching, found, read, addr, len, live, holds⟩ := returns
  have named : m.id = id := by
    have := List.find?_some found
    simp only [Bool.and_eq_true, beq_iff_eq] at this
    exact this.1
  have fetch : s.takeAs n c = s.entryFetchStep id .okay := by
    unfold State.takeAs
    rw [fetching]
    exact if_pos holds
  have entry : s.bytesAt m = s.headEntry := by
    unfold State.bytesAt
    rw [addr, len]
    rfl
  unfold State.headHolds at holds
  rw [Bool.and_eq_true, beq_iff_eq, beq_iff_eq, ← entry] at holds
  have runs := State.run_ownRead (owns := Owner.isEntryFetch) ⟨found, read, live⟩ .okay (State.entryFetched .okay)
  refine ⟨m, List.mem_of_find?_eq_some found, read, fetch.trans (runs.trans (congrArg State.closeEvent ?_))⟩
  have goes' : (s.fetched id).part ≠ .stopped := goes
  unfold State.entryFetched
  rw [if_pos (by rfl), if_neg goes', holds.1, holds.2, named]
  rfl

/-- A request that `ownWrites` counts. -/
def MemRequest.isOpenWrite (m : MemRequest) : Bool := m.isOwn && m.kind == .write && !m.discard

theorem MemPort.ownWrites_eq (p : MemPort) : p.ownWrites = (p.all.filter MemRequest.isOpenWrite).map (fun m => m.id) := rfl

theorem MemPort.answered_all (p : MemPort) (id : Nat) :
    (p.answered id).all = p.issued.filter (fun m => m.id != id) ++ p.waiting :=
  MemPort.settle_all _

/-- The answer to a request takes nothing else from the own writes that are open. -/
theorem MemPort.answered_ownWrites_sublist (p : MemPort) (id : Nat) : (p.answered id).ownWrites.Sublist p.ownWrites := by
  rw [MemPort.ownWrites_eq, MemPort.ownWrites_eq, MemPort.answered_all]
  exact ((List.filter_sublist.append_right _).filter _).map _

/-- The answer to a read leaves the own writes that are open. -/
theorem MemPort.answered_ownWrites {p : MemPort} {m : MemRequest} (distinct : (p.all.map (fun m => m.id)).Nodup)
    (mem : m ∈ p.issued) (read : m.kind = .read) : (p.answered m.id).ownWrites = p.ownWrites := by
  rw [MemPort.ownWrites_eq, MemPort.ownWrites_eq, MemPort.answered_all]
  unfold MemPort.all
  rw [List.filter_append, List.filter_append, List.filter_filter]
  have same : p.issued.filter (fun x => x.isOpenWrite && x.id != m.id) = p.issued.filter MemRequest.isOpenWrite := by
    refine List.filter_congr fun x hx => ?_
    by_cases named : x.id = m.id
    · have isM : x = m := List.inj_on_of_nodup_map distinct (List.mem_append_left _ hx) (List.mem_append_left _ mem) named
      have notOpen : x.isOpenWrite = false := by
        unfold MemRequest.isOpenWrite
        rw [isM, read, Bool.and_assoc]
        exact Bool.and_false _
      rw [notOpen]
      rfl
    · rw [bne_iff_ne.2 named, Bool.and_true]
  rw [same]

/-- The waited writes behind the first. -/
theorem filter_ne_head {w : Nat} {ws : List Nat} (h : w ∉ ws) : (w :: ws).filter (fun x => x != w) = ws := by
  rw [List.filter_cons_of_neg (by simp)]
  exact List.filter_eq_self.2 fun x hx => bne_iff_ne.2 fun same => h (same ▸ hx)

/-- The answer to the first write that a FENCE waits for. -/
theorem State.fenceAnswered_first {v : State} {n : Bool} {w : Nat} {ws : List Nat} {failed : Nat} {okay : Bool}
    (running : v.intake.progress = some (.running n (.fence (w :: ws) failed))) (apart : w ∉ ws)
    (goes : v.part ≠ .stopped) : v.fenceAnswered w okay
      = if ws = [] then v.complete n (fenceStatus (if okay then failed else failed + 1)).1
          (fenceStatus (if okay then failed else failed + 1)).2
        else { v with intake := { v.intake with
          progress := some (.running n (.fence ws (if okay then failed else failed + 1))) } } := by
  unfold State.fenceAnswered
  rw [running]
  simp only [filter_ne_head apart, List.mem_cons, true_or, if_true]
  have notStopped : (v.part != .stopped) = true := bne_iff_ne.2 goes
  rw [notStopped, Bool.and_true]
  by_cases last : ws = []
  · rw [if_pos last, if_pos (List.isEmpty_iff.2 last)]
  · rw [if_neg last, if_neg (mt List.isEmpty_iff.1 last)]

/-- The part when an own write has been answered, before a FENCE that waits for it counts it. -/
def State.ownWriteServed (a : Answer) (m : MemRequest) (id : Nat) (s : State) : State :=
  if a.isOkay then s.served id a m else (s.served id a m).ownWriteFailed m

/-- What an own write's failure changes: it records a fault, or nothing. -/
theorem State.ownWriteFailed_cases (s : State) (m : MemRequest) :
    s.ownWriteFailed m = s ∨ ∃ f, s.ownWriteFailed m = s.recordFault f := by
  unfold State.ownWriteFailed
  split
  · split
    · exact .inr ⟨_, rfl⟩
    · exact .inl rfl
  all_goals exact .inl rfl

/-- An own write's answer leaves the intake, the part state and the conditions while the part goes on. -/
theorem State.ownWriteServed_stands {s : State} (goes : s.GoesOn) (a : Answer) (m : MemRequest) (id : Nat) :
    CommandWork (s.served id a m) (s.ownWriteServed a m id) ∧ (s.ownWriteServed a m id).intake = s.intake
      ∧ (s.ownWriteServed a m id).part = s.part ∧ (s.ownWriteServed a m id).conditions = s.conditions := by
  have goes' : (s.served id a m).stopsOnFatal = false := goes
  unfold State.ownWriteServed
  split
  · exact ⟨.refl _, rfl, rfl, rfl⟩
  · rcases (s.served id a m).ownWriteFailed_cases m with same | ⟨f, records⟩
    · rw [same]
      exact ⟨.refl _, rfl, rfl, rfl⟩
    · rw [records]
      exact ⟨State.recordFault_work f _, State.recordFault_intake f _, State.recordFault_goes goes' f,
        State.recordFault_conditions f _⟩

/-- Settles O23: a FENCE is taken; a write that it waits for is answered. -/
theorem fenceWaitsForOwnWrites : Obligations.FenceWaitsForOwnWrites := by
  unfold Obligations.FenceWaitsForOwnWrites
  refine ⟨fun s n takes returns => ⟨fun none => ⟨_, rfl, ?ends⟩, fun distinct some => ⟨_, rfl, ?waits⟩⟩,
    fun s n w ws failed m a takes goes running apart found live => ?answered⟩
  case ends =>
    refine State.takeAs_ends returns takes fun id => ⟨s.fetched id, (State.judge_idle rfl).trans (if_pos ?_), rfl, rfl, rfl,
      .fetched id s⟩
    have sub := s.port.answered_ownWrites_sublist id
    rw [none] at sub
    exact List.isEmpty_iff.2 (List.sublist_nil.1 sub)
  case waits =>
    obtain ⟨m, mem, read, closes⟩ := State.takeAs_eq returns (State.goes_of_takesEntries takes)
    have same := MemPort.answered_ownWrites distinct.1 mem read
    have opens : ¬(s.fetched m.id).port.ownWrites.isEmpty = true := by
      rw [State.fetched_port, same]
      exact mt List.isEmpty_iff.1 some
    have judged : (s.fetched m.id).judge .fence = (.runs (.fence s.port.ownWrites 0), s.fetched m.id) := by
      rw [State.judge_idle (c := .fence) rfl, ← same]
      exact if_neg opens
    rw [closes, judged]
    exact State.closeEvent_intake _
  case answered =>
    have runs : exec (.ownWriteDone w a) s
        = .next ((s.ownWriteServed a m w).fenceAnswered w a.isOkay).closeEvent := by
      have named : m.id = w := by
        have := List.find?_some found
        simp only [Bool.and_eq_true, beq_iff_eq] at this
        exact this.1
      refine congrArg Host.Outcome.next ((State.run_memAnswer_live a _ found live).trans (congrArg State.closeEvent ?_))
      unfold State.ownWriteReturned
      rw [named]
      rfl
    obtain ⟨work, intake, part, conditions⟩ := State.ownWriteServed_stands goes a m w
    have first := State.fenceAnswered_first (v := s.ownWriteServed a m w) (okay := a.isOkay)
      (by rw [intake, running]) apart (by rw [part]; exact State.goes_of_takesEntries takes)
    rw [first] at runs
    have ends {k : Nat} {status : Status} {result : Nat} (last : ws = [])
        (count : (if a.isOkay = true then failed else failed + 1) = k) (ended : fenceStatus k = (status, result)) :
        ∃ t, exec (.ownWriteDone w a) s = .next t ∧ Completes s t n status result := by
      refine ⟨_, runs, ?_⟩
      rw [if_pos last, count, ended]
      exact ((State.complete_finishes work intake (State.takesEntries_of_part part takes) (by rw [conditions]; rfl) rfl
        n status result).before (s.fetched_nextId w) rfl rfl rfl rfl).completes
    refine ⟨fun last ⟨okay, clean⟩ => ?_, fun last okay dirty => ?_, fun last bad => ?_, fun more => ⟨_, runs, ?_⟩⟩
    · subst okay
      exact ends last clean rfl
    · subst okay
      exact ends last rfl (if_neg dirty)
    · exact ends last (by rw [Answer.isOkay_of_ne bad]; rfl) (if_neg (Nat.succ_ne_zero _))
    · have counts : (if a.isOkay = true then failed else failed + 1) = if a = .okay then failed else failed + 1 := by
        cases a <;> rfl
      rw [if_neg more, counts]
      unfold Runs
      rw [State.closeEvent_intake, intake]

end Sys2Proof.Machine

/-! SUPPORT. What the showing, the moving, the stranding and the entering of batches can change, said once: two relations
between the state before and the state after, in which every operation of the Station Table on a batch stands. -/

namespace Sys2Proof.Machine

-- ## The relations

/-- A batch goes on as `b'`: its own fields stand, it does not become PLANNED, and no LATE and no MOVED is taken away. -/
structure Batch.GoesOn (b b' : Batch) : Prop where
  owner : b'.owner = b.owner
  number : b'.number = b.number
  kind : b'.kind = b.kind
  portions : b'.portions = b.portions
  threshold : b'.threshold = b.threshold
  rush : b'.rush = b.rush
  voided : b'.voided = b.voided
  planned : b.state ≠ .planned → b'.state ≠ .planned
  late : b.late = true → b'.late = true
  moved : b.moved = true → b'.moved = true

theorem Batch.GoesOn.refl (b : Batch) : b.GoesOn b := ⟨rfl, rfl, rfl, rfl, rfl, rfl, rfl, id, id, id⟩

theorem Batch.GoesOn.trans {a b c : Batch} (h : a.GoesOn b) (g : b.GoesOn c) : a.GoesOn c :=
  ⟨g.owner.trans h.owner, g.number.trans h.number, g.kind.trans h.kind, g.portions.trans h.portions,
    g.threshold.trans h.threshold, g.rush.trans h.rush, g.voided.trans h.voided, g.planned ∘ h.planned,
    g.late ∘ h.late, g.moved ∘ h.moved⟩

/-- Two course records are one but for the late count. -/
def Course.SameCounts (c d : Course) : Prop :=
  d.plan = c.plan ∧ d.state = c.state ∧ d.countdown = c.countdown ∧ d.openCount = c.openCount

/-- What an operation on batches keeps of a station record. -/
def Station.SameState (x y : Station) : Prop :=
  y.state = x.state ∧ y.plan = x.plan ∧ y.retry = x.retry ∧ y.progress = x.progress

/-- No table mark is taken away. -/
structure Marks.Grows (m m' : Marks) : Prop where
  courses : ∀ c ∈ m.courses, c ∈ m'.courses
  stations : ∀ st ∈ m.stations, st ∈ m'.stations
  service : m.service = true → m'.service = true

theorem Marks.Grows.refl (m : Marks) : m.Grows m := ⟨fun _ => id, fun _ => id, id⟩

theorem Marks.Grows.trans {m m' m'' : Marks} (h : m.Grows m') (g : m'.Grows m'') : m.Grows m'' :=
  ⟨fun c hc => g.courses c (h.courses c hc), fun st hst => g.stations st (h.stations st hst), g.service ∘ h.service⟩

theorem mem_addTo_of {α : Type} [DecidableEq α] (a : α) {l : List α} {x : α} (h : x ∈ l) : x ∈ addTo a l := by
  unfold addTo
  split
  · exact h
  · exact List.mem_append_left _ h

theorem State.updCourse_marks (c : CourseId) (f : Course → Course) (s : State) :
    s.marks.Grows (s.updCourse c f).marks := by
  unfold State.updCourse
  simp only
  split
  · exact .refl _
  · exact ⟨fun _ => mem_addTo_of c, fun _ => id, id⟩

theorem State.updStation_marks (st : StationId) (f : Station → Station) (s : State) :
    s.marks.Grows (s.updStation st f).marks := by
  unfold State.updStation
  simp only
  split
  · exact .refl _
  · exact ⟨fun _ => id, fun _ => mem_addTo_of st, id⟩

theorem State.logFault_marks (f : FaultReport) (s : State) : s.marks.Grows (s.logFault f).marks := by
  have setFault (i : RecordId) (r : Option FaultRecord) : s.marks.Grows (s.setFault i r).marks :=
    ⟨fun _ => id, fun _ => id, id⟩
  have foldFault (i : RecordId) : s.marks.Grows (s.foldFault i).marks := by
    unfold State.foldFault
    split
    · split
      · exact setFault i _
      · exact .refl _
    · exact .refl _
  unfold State.logFault
  split
  · exact foldFault _
  · split
    · exact setFault _ _
    · exact .refl _

/-- Of the batches that stand in no queue only those of `P` have changed, and only stations of `Q`. -/
structure Moves (P : Nat → Prop) (Q : StationId → Prop) (s t : State) : Prop extends StationWork s t where
  courses : ∀ c : CourseId, (s.courses[c]).SameCounts t.courses[c]
  stations : ∀ st : StationId, (s.stations[st]).SameState t.stations[st]
  batches : ∀ r b, s.batch? r = some b → ∃ b', t.batch? r = some b' ∧ b.GoesOn b'
  apart : ∀ r, ¬P r → s.NotQueued r → t.batch? r = s.batch? r ∧ t.NotQueued r
  elsewhere : ∀ st, ¬Q st → t.stations[st] = s.stations[st]
  slots : ∀ (st : StationId) (j : SlotId) (r : Nat),
    (s.stations[st]).slots[j] = some r → (t.stations[st]).slots[j] = some r
  fills : ∀ (st : StationId) (j : SlotId) (r : Nat), ¬P r → s.NotQueued r →
    (t.stations[st]).slots[j] = some r → (s.stations[st]).slots[j] = some r
  unknown : ∀ r, s.batch? r = none → t.batch? r = none
  marks : s.marks.Grows t.marks

/-- A change that strands no batch and records no fault. -/
structure Places (P : Nat → Prop) (Q : StationId → Prop) (s t : State) : Prop extends Moves P Q s t where
  faults : t.faults = s.faults
  overflow : t.overflow = s.overflow
  stranded : ∀ st : StationId, (t.stations[st]).stranded = (s.stations[st]).stranded

variable {P P' : Nat → Prop} {Q Q' : StationId → Prop} {s t u : State}

theorem Places.refl (s : State) : Places P Q s s :=
  ⟨⟨.refl s, fun _ => ⟨rfl, rfl, rfl, rfl⟩, fun _ => ⟨rfl, rfl, rfl, rfl⟩, fun _ b h => ⟨b, h, .refl b⟩,
    fun _ _ h => ⟨rfl, h⟩, fun _ _ => rfl, fun _ _ _ => id, fun _ _ _ _ _ => id, fun _ => id, .refl _⟩, rfl, rfl,
    fun _ => rfl⟩

theorem Moves.refl (s : State) : Moves P Q s s := (Places.refl s).toMoves

theorem Moves.trans (h : Moves P Q s t) (g : Moves P Q t u) : Moves P Q s u where
  toStationWork := h.toStationWork.trans g.toStationWork
  courses c := by
    obtain ⟨plan, state, countdown, openCount⟩ := h.courses c
    obtain ⟨plan', state', countdown', openCount'⟩ := g.courses c
    exact ⟨plan'.trans plan, state'.trans state, countdown'.trans countdown, openCount'.trans openCount⟩
  stations st := by
    obtain ⟨state, plan, retry, progress⟩ := h.stations st
    obtain ⟨state', plan', retry', progress'⟩ := g.stations st
    exact ⟨state'.trans state, plan'.trans plan, retry'.trans retry, progress'.trans progress⟩
  batches r b hb := by
    obtain ⟨b', hb', goes⟩ := h.batches r b hb
    obtain ⟨b'', hb'', goes'⟩ := g.batches r b' hb'
    exact ⟨b'', hb'', goes.trans goes'⟩
  apart r hr free := by
    obtain ⟨same, free'⟩ := h.apart r hr free
    obtain ⟨same', free''⟩ := g.apart r hr free'
    exact ⟨same'.trans same, free''⟩
  elsewhere st hst := (g.elsewhere st hst).trans (h.elsewhere st hst)
  slots st j r filled := g.slots st j r (h.slots st j r filled)
  fills st j r hr free filled := h.fills st j r hr free (g.fills st j r hr (h.apart r hr free).2 filled)
  unknown r none := g.unknown r (h.unknown r none)
  marks := h.marks.trans g.marks

theorem Places.trans (h : Places P Q s t) (g : Places P Q t u) : Places P Q s u :=
  ⟨h.toMoves.trans g.toMoves, g.faults.trans h.faults, g.overflow.trans h.overflow,
    fun st => (g.stranded st).trans (h.stranded st)⟩

theorem Moves.mono (h : Moves P Q s t) (hP : ∀ r, P r → P' r) (hQ : ∀ st, Q st → Q' st) : Moves P' Q' s t :=
  ⟨h.toStationWork, h.courses, h.stations, h.batches, fun r hr => h.apart r (hr ∘ hP r),
    fun st hst => h.elsewhere st (hst ∘ hQ st), h.slots, fun st j r hr => h.fills st j r (hr ∘ hP r), h.unknown,
    h.marks⟩

theorem Places.mono (h : Places P Q s t) (hP : ∀ r, P r → P' r) (hQ : ∀ st, Q st → Q' st) : Places P' Q' s t :=
  ⟨h.toMoves.mono hP hQ, h.faults, h.overflow, h.stranded⟩

/-- A batch that stood in a queue need not be named. -/
theorem Places.of_queued {r : Nat} (h : Places (fun q => P q ∨ q = r) Q s t) (queued : ¬s.NotQueued r) :
    Places P Q s t := by
  have unnamed (q : Nat) (hq : ¬P q) (free : s.NotQueued q) : ¬(P q ∨ q = r) := by
    rintro (named | rfl)
    · exact hq named
    · exact queued free
  exact ⟨⟨h.toStationWork, h.courses, h.stations, h.batches, fun q hq free => h.apart q (unnamed q hq free) free,
    h.elsewhere, h.slots, fun st j q hq free => h.fills st j q (unnamed q hq free) free, h.unknown, h.marks⟩, h.faults,
    h.overflow, h.stranded⟩

theorem Moves.foldl {α : Type} {f : State → α → State} {l : List α} (h : ∀ s, ∀ a ∈ l, Moves P Q s (f s a)) (s : State) :
    Moves P Q s (l.foldl f s) := by
  induction l generalizing s with
  | nil => exact .refl s
  | cons a l ih =>
    exact (h s a List.mem_cons_self).trans (ih (fun s b hb => h s b (List.mem_cons_of_mem _ hb)) _)

theorem Places.foldl {α : Type} {f : State → α → State} {l : List α} (h : ∀ s, ∀ a ∈ l, Places P Q s (f s a))
    (s : State) : Places P Q s (l.foldl f s) := by
  induction l generalizing s with
  | nil => exact .refl s
  | cons a l ih =>
    exact (h s a List.mem_cons_self).trans (ih (fun s b hb => h s b (List.mem_cons_of_mem _ hb)) _)

-- ## Batch records

theorem State.updBatch_batch_self (s : State) (r : Nat) (f : Batch → Batch) :
    (s.updBatch r f).batch? r = (s.batch? r).map f := Table.get?_update_same r f s.pool

theorem State.updBatch_batch_ne (s : State) {r q : Nat} (h : q ≠ r) (f : Batch → Batch) :
    (s.updBatch r f).batch? q = s.batch? q := Table.get?_update_other h f s.pool

@[simp] theorem State.updStation_batch (s : State) (st : StationId) (f : Station → Station) (r : Nat) :
    (s.updStation st f).batch? r = s.batch? r := (rfl)

@[simp] theorem State.updCourse_batch (s : State) (c : CourseId) (f : Course → Course) (r : Nat) :
    (s.updCourse c f).batch? r = s.batch? r := (rfl)

theorem State.batch_congr {s t : State} (h : t.pool = s.pool) (r : Nat) : t.batch? r = s.batch? r := by
  unfold State.batch?
  rw [h]

-- ## One change of a record

theorem PortWork.places {s t : State} (w : PortWork s t) : Places P Q s t := by
  have courses (c : CourseId) : t.courses[c] = s.courses[c] := by rw [w.courses]
  have stations (st : StationId) : t.stations[st] = s.stations[st] := by rw [w.stations]
  have batches (r : Nat) : t.batch? r = s.batch? r := State.batch_congr w.pool r
  refine ⟨⟨w.toStationWork, fun c => ?_, fun st => ?_, fun r b h => ⟨b, (batches r).trans h, .refl b⟩,
    fun r _ free => ⟨batches r, fun st => ?_⟩, fun st _ => stations st, fun st _ _ => ?_, fun st _ _ _ _ => ?_,
    fun r none => (batches r).trans none, ?_⟩, w.faults, w.overflow, fun st => ?_⟩
  · rw [courses]
    exact ⟨rfl, rfl, rfl, rfl⟩
  · rw [stations]
    exact ⟨rfl, rfl, rfl, rfl⟩
  · rw [stations]
    exact free st
  · rw [stations]
    exact id
  · rw [stations]
    exact id
  · rw [w.marks]
    exact .refl _
  · rw [stations]

/-- A change of one batch record. -/
theorem State.updBatch_places {r : Nat} {f : Batch → Batch} (h : ∀ b, s.batch? r = some b → b.GoesOn (f b)) :
    Places (· = r) Q s (s.updBatch r f) := by
  refine ⟨⟨s.updBatch_work r f, fun _ => ⟨rfl, rfl, rfl, rfl⟩, fun _ => ⟨rfl, rfl, rfl, rfl⟩, fun q b hb => ?_,
    fun q hq free => ⟨s.updBatch_batch_ne hq f, free⟩, fun _ _ => rfl, fun _ _ _ => id, fun _ _ _ _ _ => id,
    fun q none => ?_, .refl _⟩, rfl, rfl, fun _ => rfl⟩
  rotate_left
  · by_cases same : q = r
    · rw [same] at none ⊢
      rw [State.updBatch_batch_self, none]
      rfl
    · exact (s.updBatch_batch_ne same f).trans none
  by_cases same : q = r
  · subst same
    exact ⟨f b, by rw [State.updBatch_batch_self, hb]; rfl, h b hb⟩
  · exact ⟨b, (s.updBatch_batch_ne same f).trans hb, .refl b⟩

/-- A change of one station record that leaves its state, and lets no batch of another name into its queue. -/
theorem State.updStation_moves {st : StationId} {f : Station → Station}
    (state : (s.stations[st]).SameState (f s.stations[st]))
    (queue : ∀ r, ¬P r → r ∉ (s.stations[st]).queue → r ∉ (f s.stations[st]).queue)
    (slots : ∀ (j : SlotId) (r : Nat), (s.stations[st]).slots[j] = some r → (f s.stations[st]).slots[j] = some r)
    (fills : ∀ (j : SlotId) (r : Nat), ¬P r → r ∉ (s.stations[st]).queue → (f s.stations[st]).slots[j] = some r →
      (s.stations[st]).slots[j] = some r) :
    Moves P (· = st) s (s.updStation st f) := by
  have station (x : StationId) : (s.updStation st f).stations[x] = if st = x then f s.stations[st] else s.stations[x] :=
    getElem_set_fin _ _ _ _
  refine ⟨s.updStation_work st f, fun _ => ⟨rfl, rfl, rfl, rfl⟩, fun x => ?_, fun r b h => ⟨b, h, .refl b⟩,
    fun r hr free => ⟨rfl, fun x => ?_⟩, fun x hx => s.updStation_station_ne (Ne.symm hx) f, fun x j r => ?_,
    fun x j r hr free => ?_, fun _ => id, s.updStation_marks st f⟩
  · rw [station]
    split
    · next same => exact same ▸ state
    · exact ⟨rfl, rfl, rfl, rfl⟩
  · rw [station]
    split
    · exact queue r hr (free st)
    · exact free x
  · rw [station]
    split
    · next same => exact same ▸ slots j r
    · exact id
  · rw [station]
    split
    · next same => exact same ▸ fills j r hr (free st)
    · exact id

theorem State.updStation_places {st : StationId} {f : Station → Station}
    (state : (s.stations[st]).SameState (f s.stations[st]))
    (stranded : (f s.stations[st]).stranded = (s.stations[st]).stranded)
    (queue : ∀ r, ¬P r → r ∉ (s.stations[st]).queue → r ∉ (f s.stations[st]).queue)
    (slots : ∀ (j : SlotId) (r : Nat), (s.stations[st]).slots[j] = some r → (f s.stations[st]).slots[j] = some r)
    (fills : ∀ (j : SlotId) (r : Nat), ¬P r → r ∉ (s.stations[st]).queue → (f s.stations[st]).slots[j] = some r →
      (s.stations[st]).slots[j] = some r) :
    Places P (· = st) s (s.updStation st f) := by
  refine ⟨State.updStation_moves state queue slots fills, rfl, rfl, fun x => ?_⟩
  have station : (s.updStation st f).stations[x] = if st = x then f s.stations[st] else s.stations[x] :=
    getElem_set_fin _ _ _ _
  rw [station]
  split
  · next same => exact same ▸ stranded
  · rfl

/-- A change of one station record outside its state, its queue, its slots and its stranded set. -/
theorem State.updStation_timer_places (st : StationId) (f : Station → Station)
    (h : ∀ x, x.SameState (f x) ∧ (f x).stranded = x.stranded ∧ (f x).queue = x.queue ∧ (f x).slots = x.slots) :
    Places P (· = st) s (s.updStation st f) := by
  obtain ⟨state, stranded, queue, slots⟩ := h s.stations[st]
  exact State.updStation_places state stranded (fun r _ => by rw [queue]; exact id)
    (fun j r => by rw [slots]; exact id) fun j r _ _ => by rw [slots]; exact id

theorem State.updCourse_places {c : CourseId} {f : Course → Course} (h : ∀ x : Course, x.SameCounts (f x)) :
    Places P Q s (s.updCourse c f) := by
  refine ⟨⟨s.updCourse_work c f, fun d => ?_, fun _ => ⟨rfl, rfl, rfl, rfl⟩, fun r b hb => ⟨b, hb, .refl b⟩,
    fun r _ free => ⟨rfl, free⟩, fun _ _ => rfl, fun _ _ _ => id, fun _ _ _ _ _ => id, fun _ => id,
    s.updCourse_marks c f⟩, rfl, rfl, fun _ => rfl⟩
  have course : (s.updCourse c f).courses[d] = if c = d then f s.courses[c] else s.courses[d] :=
    getElem_set_fin _ _ _ _
  rw [course]
  split
  · next same => exact same ▸ h _
  · exact ⟨rfl, rfl, rfl, rfl⟩

theorem State.recordFault_moves {f : FaultReport} (mild : f.reason.isFatal = false) : Moves P Q s (s.recordFault f) := by
  obtain ⟨-, courses, stations, pool, -⟩ := s.recordFault_tables f
  have courses' (c : CourseId) : (s.recordFault f).courses[c] = s.courses[c] := by rw [courses]
  have stations' (st : StationId) : (s.recordFault f).stations[st] = s.stations[st] := by rw [stations]
  have batches (r : Nat) := State.batch_congr pool r
  refine ⟨s.recordFault_mild_work f mild, fun c => ?_, fun st => ?_, fun r b h => ⟨b, (batches r).trans h, .refl b⟩,
    fun r _ free => ⟨batches r, fun st => ?_⟩, fun st _ => stations' st, fun st _ _ => ?_,
    fun st _ _ _ _ => ?_, fun r none => (batches r).trans none, ?_⟩
  · rw [courses']
    exact ⟨rfl, rfl, rfl, rfl⟩
  · rw [stations']
    exact ⟨rfl, rfl, rfl, rfl⟩
  · rw [stations']
    exact free st
  · rw [stations']
    exact id
  · rw [stations']
    exact id
  · rw [s.recordFault_mild f mild]
    exact s.logFault_marks f

-- ## The due queue

theorem Station.mem_queue_join {x : Station} {r q : Nat} {p : Bool} :
    q ∈ (x.join r p).queue ↔ q = r ∨ q ∈ x.queue := by
  unfold Station.join Station.queue
  cases p <;> simp [or_comm, or_left_comm]

theorem Station.mem_queue_unqueue {x : Station} {r q : Nat} : q ∈ (x.unqueue r).queue ↔ q ∈ x.queue ∧ q ≠ r := by
  unfold Station.unqueue Station.queue
  simp only [List.mem_append, List.mem_filter, bne_iff_ne, ne_eq]
  tauto

theorem Station.join_sameState (x : Station) (r : Nat) (p : Bool) :
    x.SameState (x.join r p) ∧ (x.join r p).stranded = x.stranded ∧ (x.join r p).slots = x.slots
      ∧ (x.join r p).tokens = x.tokens := by
  unfold Station.join
  cases p <;> exact ⟨⟨rfl, rfl, rfl, rfl⟩, rfl, rfl, rfl⟩

theorem State.join_places (st : StationId) (r : Nat) (p : Bool) : Places (· = r) (· = st) s
    (s.updStation st (Station.join r p)) := by
  obtain ⟨state, stranded, slots, -⟩ := Station.join_sameState s.stations[st] r p
  refine State.updStation_places state stranded (fun q hq free => ?_) (fun j q => ?_) fun j q _ _ => ?_
  · rw [Station.mem_queue_join]
    exact not_or.2 ⟨hq, free⟩
  · rw [slots]
    exact id
  · rw [slots]
    exact id

theorem State.joinQueue_eq {r : Nat} {b : Batch} (h : s.batch? r = some b) (st : StationId) :
    s.joinQueue r st = s.updStation st (Station.join r b.priority) := by
  unfold State.joinQueue
  rw [h]

theorem State.joinQueue_places (r : Nat) (st : StationId) : Places (· = r) (· = st) s (s.joinQueue r st) := by
  unfold State.joinQueue
  split
  · exact State.join_places st r _
  · exact .refl s

-- ## Lateness and showing

theorem State.markLate_places (r : Nat) (c : CourseId) : Places (· = r) Q s (s.markLate r c) := by
  unfold State.markLate
  split
  · split
    · exact .refl s
    · refine (State.updBatch_places (f := fun b => { b with late := true }) fun b _ =>
        ⟨rfl, rfl, rfl, rfl, rfl, rfl, rfl, id, fun _ => rfl, id⟩).trans ?_
      exact State.updCourse_places fun x => ⟨rfl, rfl, rfl, rfl⟩
  · exact .refl s

theorem State.judgeShow_places (r : Nat) : Places (· = r) Q s (s.judgeShow r) := by
  unfold State.judgeShow
  split
  · split
    · split
      · exact State.markLate_places r _
      · exact .refl s
    · exact .refl s
  · exact .refl s

theorem State.showTimer_places (st : StationId) : Places P (· = st) s (s.showTimer st) := by
  unfold State.showTimer
  split
  · exact .refl s
  · exact State.updStation_timer_places st _ fun x => ⟨⟨rfl, rfl, rfl, rfl⟩, rfl, rfl, rfl⟩

theorem Station.fill_slots {x : Station} {k : SlotId} (free : x.slots[k] = none) (r : Nat) {j : SlotId} {q : Nat}
    (h : x.slots[j] = some q) : (x.fill k r).slots[j] = some q := by
  refine (getElem_set_fin_ne (fun same => ?_) _ _).trans h
  rw [← same, free] at h
  exact nomatch h

theorem Station.fill_slots_of {x : Station} {k : SlotId} {r : Nat} {j : SlotId} {q : Nat} (other : q ≠ r)
    (h : (x.fill k r).slots[j] = some q) : x.slots[j] = some q := by
  have slot : (x.fill k r).slots[j] = if k = j then some r else x.slots[j] := getElem_set_fin ..
  rw [slot] at h
  split at h
  · exact absurd (Option.some.inj h).symm other
  · exact h

theorem State.fill_places {st : StationId} {k : SlotId} {r : Nat} (queued : r ∈ (s.stations[st]).queue)
    (free : (s.stations[st]).slots[k] = none) :
    Places P (· = st) s (s.updStation st (fun x => (x.unqueue r).fill k r)) :=
  State.updStation_places ⟨rfl, rfl, rfl, rfl⟩ rfl (fun _ _ out mem => out (Station.mem_queue_unqueue.1 mem).1)
    (fun _ _ => Station.fill_slots (x := (s.stations[st]).unqueue r) free r) fun _ _ _ out =>
      Station.fill_slots_of (x := (s.stations[st]).unqueue r) fun same => out (same ▸ queued)

theorem State.showTimer_queue (st : StationId) (s : State) :
    ((s.showTimer st).stations[st]).queue = (s.stations[st]).queue := by
  unfold State.showTimer
  split
  · rfl
  · rw [State.updStation_station_self]
    rfl

theorem State.showAt_places {st : StationId} {r : Nat} {k : SlotId} (queued : r ∈ (s.stations[st]).queue)
    (empty : (s.stations[st]).slots[k] = none) :
    Places P (· = st) s (s.showAt st r k) := by
  refine Places.of_queued (r := r) ?_ fun free => free st queued
  have taken : Places (· = r) (· = st) s (s.showAt st r k) :=
    ((((State.showTimer_places st).trans (State.fill_places
      (by rw [State.showTimer_queue]; exact queued)
        ((congrArg (fun v => v[k]) (State.showTimer_slots st s)).trans empty))).trans
      (State.updBatch_places (f := fun b => { b with state := .shown k }) fun b _ =>
        ⟨rfl, rfl, rfl, rfl, rfl, rfl, rfl, fun _ => nofun, id, id⟩)).trans
      (State.judgeShow_places r)).trans (State.clearBump_work _ _ _).places
  exact taken.mono (fun _ => .inr) fun _ => id

theorem State.showHead_places (st : StationId) : Places P (· = st) s (s.showHead st) := by
  unfold State.showHead
  split
  · next r k head slot => exact State.showAt_places (List.mem_of_mem_head? head) (Station.emptySlot_free slot)
  · exact .refl s

theorem State.showLoop_places (st : StationId) (n : Nat) : Places P (· = st) s (s.showLoop st n) := by
  induction n generalizing s with
  | zero => exact .refl s
  | succ n ih =>
    unfold State.showLoop
    split
    · exact (State.showHead_places st).trans ih
    · exact .refl s

theorem State.checkShow_places (st : StationId) : Places P (· = st) s (s.checkShow st) := State.showLoop_places st 16

-- ## Moves, stranding and the entry of a batch

theorem State.moveTo_places (r : Nat) (b : StationId) : Places (· = r) (· = b) s (s.moveTo r b) :=
  ((State.updBatch_places (f := fun x => { x with target := b, state := .due, moved := true }) fun _ _ =>
    ⟨rfl, rfl, rfl, rfl, rfl, rfl, rfl, fun _ => nofun, id, fun _ => rfl⟩).trans
    (State.joinQueue_places r b)).trans (State.checkShow_places b)

theorem State.strand_moves (r : Nat) (st : StationId) (sub : Nat) : Moves (· = r) (· = st) s (s.strand r st sub) := by
  have stranded := (State.updBatch_places (s := s) (r := r) (Q := (· = st))
    (f := fun x => { x with state := .stranded, target := st }) fun _ _ =>
      ⟨rfl, rfl, rfl, rfl, rfl, rfl, rfl, fun _ => nofun, id, id⟩).toMoves
  refine (stranded.trans (State.updStation_moves (f := fun x => { x with stranded := x.stranded ++ [r] })
    ⟨rfl, rfl, rfl, rfl⟩ (fun _ _ => id) (fun _ _ => id) fun _ _ _ _ => id)).trans (State.recordFault_moves ?_)
  rw [State.batchFault_reason]
  rfl

theorem State.enterStation_moves (r : Nat) (st : StationId) : Moves (· = r) (fun _ => True) s (s.enterStation r st) := by
  have joins : Moves (· = r) (fun _ => True) s ((s.joinQueue r st).checkShow st) :=
    ((State.joinQueue_places r st).trans (State.checkShow_places st)).toMoves.mono (fun _ => id) fun _ _ => trivial
  have moves (b : StationId) : Moves (· = r) (fun _ => True) s (s.moveTo r b) :=
    (State.moveTo_places r b).toMoves.mono (fun _ => id) fun _ _ => trivial
  unfold State.enterStation
  split
  · exact joins
  · exact joins
  · split
    · exact moves _
    · exact (State.strand_moves r st 1).mono (fun _ => id) fun _ _ => trivial
  · split
    · exact moves _
    · exact joins

theorem State.enter_moves (r : Nat) : Moves (· = r) (fun _ => True) s (s.enter r) := by
  unfold State.enter
  split
  · exact State.enterStation_moves r _
  · exact .refl s

-- ## Release

theorem State.makeDue_places (r : Nat) : Places (· = r) Q s (s.makeDue r) := by
  have due : Places (· = r) Q s (s.updBatch r (fun b => { b with state := .due })) :=
    State.updBatch_places (f := fun b => { b with state := .due }) fun _ _ =>
      ⟨rfl, rfl, rfl, rfl, rfl, rfl, rfl, fun _ => nofun, id, id⟩
  unfold State.makeDue
  split
  · split
    · simp only
      split
      · exact due.trans (State.markLate_places r _)
      · exact due
    · exact .refl s
  · exact .refl s

theorem State.release_moves (rs : List Nat) : Moves (· ∈ rs) (fun _ => True) s (s.release rs) := by
  have due : Moves (· ∈ rs) (fun _ => True) s (rs.foldl State.makeDue s) :=
    Moves.foldl (fun s r hr => (State.makeDue_places r).toMoves.mono (fun _ same => same ▸ hr) fun _ => id) s
  exact due.trans (Moves.foldl (fun s r hr => (State.enter_moves r).mono (fun _ same => same ▸ hr) fun _ => id) _)

theorem State.release_nil (s : State) : s.release [] = s := rfl

theorem State.ticketOf_congr {s t : State} (h : t.tickets = s.tickets) {b b' : Batch} (owner : b'.owner = b.owner) :
    t.ticketOf? b' = s.ticketOf? b := by
  unfold State.ticketOf?
  rw [h, owner]

/-- A batch that is made due is judged for lateness (R50). -/
theorem State.makeDue_judged {r : Nat} {b : Batch} {k : Ticket} (hb : s.batch? r = some b)
    (hk : s.ticketOf? b = some k) : ∃ b', (s.makeDue r).batch? r = some b' ∧ b'.state ≠ .planned
      ∧ ((s.courses[k.course]).countdown + (s.courses[k.course]).plan.grace < b.threshold → b'.late = true) := by
  have due : (s.updBatch r (fun b => { b with state := .due })).batch? r = some { b with state := .due } := by
    rw [State.updBatch_batch_self, hb]
    rfl
  unfold State.makeDue
  rw [hb]
  simp only [hk]
  split
  · next isLate =>
    unfold State.markLate
    rw [due]
    simp only
    split
    · next already => exact ⟨{ b with state := .due }, due, nofun, fun _ => already⟩
    · refine ⟨{ b with state := .due, late := true }, ?_, nofun, fun _ => rfl⟩
      rw [State.updCourse_batch, State.updBatch_batch_self, due]
      rfl
  · next onTime =>
    refine ⟨{ b with state := .due }, due, nofun, fun late => absurd ?_ onTime⟩
    exact decide_eq_true late

/-- A released batch leaves PLANNED, with LATE when its threshold exceeds the countdown by more than the grace. -/
theorem State.release_judged {rs : List Nat} {r : Nat} {b : Batch} {k : Ticket} (mem : r ∈ rs)
    (hb : s.batch? r = some b) (hk : s.ticketOf? b = some k) : ∃ b', (s.release rs).batch? r = some b'
      ∧ b.GoesOn b' ∧ b'.state ≠ .planned
      ∧ ((s.courses[k.course]).countdown + (s.courses[k.course]).plan.grace < b.threshold → b'.late = true) := by
  have due : ∃ b', (rs.foldl State.makeDue s).batch? r = some b' ∧ b.GoesOn b' ∧ b'.state ≠ .planned
      ∧ ((s.courses[k.course]).countdown + (s.courses[k.course]).plan.grace < b.threshold → b'.late = true) := by
    obtain ⟨before, after, rfl⟩ := List.append_of_mem mem
    rw [List.foldl_append, List.foldl_cons]
    have first : Moves (fun _ => True) (fun _ => True) s (before.foldl State.makeDue s) :=
      Moves.foldl (fun s r _ => (State.makeDue_places r).toMoves.mono (fun _ _ => trivial) fun _ => id) s
    generalize before.foldl State.makeDue s = u at first ⊢
    obtain ⟨b₁, hb₁, goes₁⟩ := first.batches r b hb
    obtain ⟨plan, -, countdown, -⟩ := first.courses k.course
    obtain ⟨b₂, hb₂, notPlanned, late⟩ := State.makeDue_judged hb₁
      ((State.ticketOf_congr first.tickets goes₁.owner).trans hk)
    have last : Moves (fun _ => True) (fun _ => True) (u.makeDue r) (after.foldl State.makeDue (u.makeDue r)) :=
      Moves.foldl (fun s r _ => (State.makeDue_places r).toMoves.mono (fun _ _ => trivial) fun _ => id) _
    have goes₂ : b₁.GoesOn b₂ := by
      obtain ⟨b', hb', goes⟩ := (State.makeDue_places (Q := fun _ => True) r).batches r b₁ hb₁
      exact (Option.some.inj (hb'.symm.trans hb₂)) ▸ goes
    obtain ⟨b₃, hb₃, goes₃⟩ := last.batches r b₂ hb₂
    refine ⟨b₃, hb₃, (goes₁.trans goes₂).trans goes₃, goes₃.planned notPlanned, fun h => goes₃.late (late ?_)⟩
    rw [plan, countdown, goes₁.threshold]
    exact h
  obtain ⟨b', hb', goes, notPlanned, late⟩ := due
  have entered : Moves (fun _ => True) (fun _ => True) (rs.foldl State.makeDue s) (s.release rs) :=
    Moves.foldl (fun s r _ => (State.enter_moves r).mono (fun _ _ => trivial) fun _ => id) _
  obtain ⟨b'', hb'', goes'⟩ := entered.batches r b' hb'
  exact ⟨b'', hb'', goes.trans goes', goes'.planned notPlanned, goes'.late ∘ late⟩

end Sys2Proof.Machine

/-! SUPPORT. O21: the entry rule and the showing of a batch, field by field (R74 to R81, R103). -/

namespace Sys2Proof.Machine

variable {s : State} {st : StationId} {r : Nat} {k : SlotId}

-- ## The lowest empty slot

theorem Station.emptySlot_some {x : Station} {k : SlotId} :
    x.emptySlot? = some k ↔ x.slots[k] = none ∧ ∀ j : SlotId, j < k → x.slots[j] ≠ none := by
  have lowest : x.emptySlot? = some k ↔
      (x.slots[k]).isNone = true ∧ ∀ j : Fin 16, j < k → ¬(x.slots[j]).isNone = true := by
    unfold Station.emptySlot?
    rw [List.find?_eq_some_iff_getElem]
    refine and_congr_right fun _ => ⟨?_, fun low => ?_⟩
    · rintro ⟨i, hi, at', before⟩ j below
      have same : i = k.val := by
        have := congrArg Fin.val at'
        rw [List.getElem_finRange] at this
        exact this
      have := before j.val (same ▸ below)
      rw [List.getElem_finRange] at this
      simpa [Option.isSome_iff_ne_none] using this
    · refine ⟨k.val, by rw [List.length_finRange]; exact k.isLt, by rw [List.getElem_finRange]; rfl, fun j below => ?_⟩
      rw [List.getElem_finRange]
      simpa [Option.isSome_iff_ne_none] using low ⟨j, below.trans k.isLt⟩ below
  rw [lowest]
  simp

theorem Station.emptySlot_none {x : Station} : x.emptySlot? = none ↔ ∀ j : SlotId, x.slots[j] ≠ none := by
  unfold Station.emptySlot?
  rw [List.find?_eq_none]
  simp

/-- A station with no empty slot has 16 occupied slots. -/
theorem Station.occupied_full {x : Station} (h : 16 ≤ x.occupied) : x.emptySlot? = none := by
  rw [Station.emptySlot_none]
  have all : x.occupied = (List.finRange 16).length :=
    le_antisymm List.countP_le_length (by rw [List.length_finRange]; exact h)
  have each := List.countP_eq_length.1 all
  exact fun j empty => by simpa [empty] using each j (List.mem_finRange j)

-- ## Lateness

@[simp] theorem State.markLate_stations (c : CourseId) : (s.markLate r c).stations = s.stations := by
  unfold State.markLate
  split
  · split <;> rfl
  · rfl

@[simp] theorem State.markLate_port (c : CourseId) : (s.markLate r c).port = s.port := by
  unfold State.markLate
  split
  · split <;> rfl
  · rfl

/-- A batch that is late counts once in its course (R50, R81). -/
theorem State.markLate_late {b : Batch} (hb : s.batch? r = some b) (c : CourseId) :
    (s.markLate r c).batch? r = some { b with late := true }
      ∧ (s.markLate r c).courses = s.courses.set c { (s.courses[c]) with
          late := if b.late = false then min 65535 ((s.courses[c]).late + 1) else (s.courses[c]).late } := by
  unfold State.markLate
  rw [hb]
  simp only
  split
  · next already =>
    refine ⟨hb.trans (congrArg some ?_), ?_⟩
    · rw [← already]
    · simp only [already, Bool.true_eq_false, if_false]
      exact (Vector.set_getElem_self c.isLt).symm
  · next first =>
    refine ⟨?_, ?_⟩
    · rw [State.updCourse_batch, State.updBatch_batch_self, hb]
      rfl
    · rw [if_pos (Bool.eq_false_iff.2 first)]
      rfl

theorem State.judgeShow_eq {b : Batch} {w : Ticket} (hb : s.batch? r = some b) (hw : s.ticketOf? b = some w) :
    s.judgeShow r = if lateAtShow s.courses[w.course] w.wave b.threshold then s.markLate r w.course else s := by
  unfold State.judgeShow
  rw [hb]
  simp only [hw]

@[simp] theorem State.judgeShow_stations : (s.judgeShow r).stations = s.stations := by
  unfold State.judgeShow
  split
  · split
    · split
      · exact State.markLate_stations _
      · rfl
    · rfl
  · rfl

@[simp] theorem State.judgeShow_port : (s.judgeShow r).port = s.port := by
  unfold State.judgeShow
  split
  · split
    · split
      · exact State.markLate_port _
      · rfl
    · rfl
  · rfl

/-- The judgement at the show gives LATE to the batch, and counts it in its course (R81). -/
theorem State.judgeShow_judges {b : Batch} {w : Ticket} (hb : s.batch? r = some b) (hw : s.ticketOf? b = some w) :
    (s.judgeShow r).batch? r = some { b with late := b.late || lateAtShow s.courses[w.course] w.wave b.threshold }
      ∧ (s.judgeShow r).courses = s.courses.set w.course { (s.courses[w.course]) with
          late := if lateAtShow s.courses[w.course] w.wave b.threshold = true ∧ b.late = false
            then min 65535 ((s.courses[w.course]).late + 1) else (s.courses[w.course]).late } := by
  rw [State.judgeShow_eq hb hw]
  split
  · next late =>
    rw [late]
    simp only [Bool.or_true, true_and]
    exact State.markLate_late hb w.course
  · next onTime =>
    rw [Bool.eq_false_iff.2 onTime]
    simp only [Bool.or_false, Bool.false_eq_true, false_and, if_false]
    exact ⟨hb, (Vector.set_getElem_self w.course.isLt).symm⟩

-- ## One show

/-- What a show does to the ack timer of its station, by whether a batch was unread (R103). -/
def Station.timed (unread : Bool) (x : Station) : Station :=
  if unread then x else { x with timer := some x.plan.timeout, tick := x.tick.loaded }

theorem State.showTimer_stations (st : StationId) (s : State) :
    (s.showTimer st).stations = s.stations.set st (Station.timed (s.hasUnread st) s.stations[st]) := by
  unfold State.showTimer Station.timed
  split
  · exact (Vector.set_getElem_self st.isLt).symm
  · rfl

theorem State.showTimer_station (st : StationId) (s : State) :
    (s.showTimer st).stations[st] = Station.timed (s.hasUnread st) s.stations[st] := by
  rw [State.showTimer_stations, getElem_set_fin_self]

/-- A batch takes the slot, after the timer and before the judgement. -/
def State.takeSlot (st : StationId) (r : Nat) (k : SlotId) (s : State) : State :=
  ((s.showTimer st).updStation st (fun x => (x.unqueue r).fill k r)).updBatch r (fun b => { b with state := .shown k })

theorem State.showAt_eq (st : StationId) (r : Nat) (k : SlotId) (s : State) :
    s.showAt st r k = ((s.takeSlot st r k).judgeShow r).clearBump st k := rfl

theorem State.takeSlot_stations (st : StationId) (r : Nat) (k : SlotId) (s : State) :
    (s.takeSlot st r k).stations
      = s.stations.set st (((Station.timed (s.hasUnread st) s.stations[st]).unqueue r).fill k r) := by
  have station := State.showTimer_station st s
  have stations := State.showTimer_stations st s
  change ((s.showTimer st).stations.set st ((((s.showTimer st).stations[st]).unqueue r).fill k r)) = _
  rw [station, stations, Vector.set_set]

theorem State.takeSlot_work (st : StationId) (r : Nat) (k : SlotId) (s : State) :
    (s.takeSlot st r k).courses = s.courses ∧ (s.takeSlot st r k).tickets = s.tickets
      ∧ (s.takeSlot st r k).port = s.port ∧ (s.takeSlot st r k).straps = s.straps
      ∧ (s.takeSlot st r k).pool = Table.update r (fun b => { b with state := .shown k }) s.pool := by
  unfold State.takeSlot State.showTimer
  split <;> exact ⟨rfl, rfl, rfl, rfl, rfl⟩

theorem State.showAt_stations (st : StationId) (r : Nat) (k : SlotId) (s : State) :
    (s.showAt st r k).stations
      = s.stations.set st (((Station.timed (s.hasUnread st) s.stations[st]).unqueue r).fill k r) := by
  rw [State.showAt_eq, (State.clearBump_work _ _ _).stations, State.judgeShow_stations, State.takeSlot_stations]

theorem State.showAt_port (st : StationId) (r : Nat) (k : SlotId) (s : State) :
    (s.showAt st r k).port = s.port.enqueue (anchorWrite s.straps (.bumpClear st) (offBump st k) (zeros 8)) := by
  obtain ⟨-, -, port, straps, -⟩ := State.takeSlot_work st r k s
  have judged : ((s.takeSlot st r k).judgeShow r).straps = s.straps :=
    (State.judgeShow_work r _).straps.trans straps
  rw [State.showAt_eq, ← judged, ← port, ← State.judgeShow_port (s := s.takeSlot st r k) (r := r)]
  rfl

/-- The batch that is shown stands in its slot, judged for lateness (R79, R81). -/
theorem State.showAt_judges {b : Batch} {w : Ticket} (hb : s.batch? r = some b) (hw : s.ticketOf? b = some w) :
    (s.showAt st r k).batch? r = some { b with
        state := .shown k, late := b.late || lateAtShow s.courses[w.course] w.wave b.threshold }
      ∧ (s.showAt st r k).courses = s.courses.set w.course { (s.courses[w.course]) with
          late := if lateAtShow s.courses[w.course] w.wave b.threshold = true ∧ b.late = false
            then min 65535 ((s.courses[w.course]).late + 1) else (s.courses[w.course]).late } := by
  obtain ⟨courses, tickets, -, -, pool⟩ := State.takeSlot_work st r k s
  have taken : (s.takeSlot st r k).batch? r = some { b with state := .shown k } := by
    unfold State.batch?
    rw [pool, Table.get?_update_same]
    exact congrArg (Option.map _) hb
  have judged := State.judgeShow_judges taken ((State.ticketOf_congr tickets rfl).trans hw)
  rw [courses] at judged
  have cleared := State.clearBump_work st k ((s.takeSlot st r k).judgeShow r)
  rw [State.showAt_eq, State.batch_congr cleared.pool, cleared.courses]
  exact judged

/-- The batch that is shown stands in its slot, whatever its judgement. -/
theorem State.showAt_shows {b : Batch} (hb : s.batch? r = some b) :
    ∃ late, (s.showAt st r k).batch? r = some { b with state := .shown k, late := late } := by
  obtain ⟨-, -, -, -, pool⟩ := State.takeSlot_work st r k s
  have taken : (s.takeSlot st r k).batch? r = some { b with state := .shown k } := by
    unfold State.batch?
    rw [pool, Table.get?_update_same]
    exact congrArg (Option.map _) hb
  rw [State.showAt_eq, State.batch_congr (State.clearBump_work st k _).pool]
  unfold State.judgeShow
  rw [taken]
  simp only
  split
  · split
    · exact ⟨true, (State.markLate_late taken _).1⟩
    · exact ⟨b.late, taken⟩
  · exact ⟨b.late, taken⟩

theorem State.markLate_batch_ne {q : Nat} (h : q ≠ r) (c : CourseId) : (s.markLate r c).batch? q = s.batch? q := by
  unfold State.markLate
  split
  · split
    · rfl
    · exact s.updBatch_batch_ne h _
  · rfl

theorem State.judgeShow_batch_ne {q : Nat} (h : q ≠ r) : (s.judgeShow r).batch? q = s.batch? q := by
  unfold State.judgeShow
  split
  · split
    · split
      · exact State.markLate_batch_ne h _
      · rfl
    · rfl
  · rfl

theorem State.showAt_batch_ne {q : Nat} (h : q ≠ r) : (s.showAt st r k).batch? q = s.batch? q := by
  obtain ⟨-, -, -, -, pool⟩ := State.takeSlot_work st r k s
  rw [State.showAt_eq, State.batch_congr (State.clearBump_work st k _).pool, State.judgeShow_batch_ne h]
  unfold State.batch?
  rw [pool, Table.get?_update_other h]

theorem State.showHead_eq (head : (s.stations[st]).queue.head? = some r) (slot : (s.stations[st]).emptySlot? = some k) :
    s.showHead st = s.showAt st r k := by
  unfold State.showHead
  rw [head, slot]

-- ## The showing condition

theorem State.showing_iff (s : State) (st : StationId) : s.showing st = true ↔
    s.part ≠ .stopped ∧ (s.stations[st]).state = .opened ∧ (s.stations[st]).queue ≠ []
      ∧ (s.stations[st]).tokens < (s.stations[st]).plan.capacity ∧ ∃ k : SlotId, (s.stations[st]).slots[k] = none := by
  have empty : ((s.stations[st]).emptySlot?).isSome = true ↔ ∃ k : SlotId, (s.stations[st]).slots[k] = none := by
    rw [← not_iff_not, Bool.not_eq_true, Option.isSome_eq_false_iff, Option.isNone_iff_eq_none, Station.emptySlot_none]
    exact not_exists.symm
  unfold State.showing
  simp only [Bool.and_eq_true, bne_iff_ne, beq_iff_eq, Bool.not_eq_true', List.isEmpty_eq_false_iff, decide_eq_true_iff,
    empty, and_assoc]

/-- A station that would show has a batch at the head of its queue and an empty slot. -/
theorem State.showing_head (h : s.showing st = true) :
    ∃ r k, (s.stations[st]).queue.head? = some r ∧ (s.stations[st]).emptySlot? = some k := by
  obtain ⟨-, -, queue, -, k, empty⟩ := (s.showing_iff st).1 h
  cases slot : (s.stations[st]).emptySlot? with
  | none => exact absurd empty (Station.emptySlot_none.1 slot k)
  | some k =>
    obtain ⟨r, rest, eq⟩ := List.exists_cons_of_ne_nil queue
    exact ⟨r, k, by rw [eq]; rfl, rfl⟩

theorem Station.timed_slots (unread : Bool) (x : Station) : (Station.timed unread x).slots = x.slots := by
  unfold Station.timed
  split <;> rfl

/-- Each show fills one slot. -/
theorem State.showHead_occupied (h : s.showing st = true) :
    ((s.showHead st).stations[st]).occupied = (s.stations[st]).occupied + 1 := by
  obtain ⟨r, k, head, slot⟩ := State.showing_head h
  have free : (Station.timed (s.hasUnread st) s.stations[st]).slots[k] = none := by
    rw [Station.timed_slots]
    exact Station.emptySlot_free slot
  have same : (Station.timed (s.hasUnread st) s.stations[st]).occupied = (s.stations[st]).occupied := by
    unfold Station.occupied
    rw [Station.timed_slots]
  have filled := Station.occupied_set (Station.timed (s.hasUnread st) s.stations[st]) k (some r)
  rw [free, same] at filled
  rw [State.showHead_eq head slot, State.showAt_stations, getElem_set_fin_self]
  exact filled

/-- As many rounds as the station has empty slots are enough. -/
theorem State.showLoop_showing (n : Nat) (room : 16 ≤ (s.stations[st]).occupied + n) :
    (s.showLoop st n).showing st = false := by
  induction n generalizing s with
  | zero =>
    refine Bool.eq_false_iff.2 fun shows => ?_
    obtain ⟨-, k, -, slot⟩ := State.showing_head (s := s) shows
    rw [Station.occupied_full room] at slot
    exact nomatch slot
  | succ n ih =>
    unfold State.showLoop
    split
    · next shows => exact ih (by rw [State.showHead_occupied shows]; omega)
    · next rests => exact Bool.eq_false_iff.2 rests

theorem State.checkShow_showing (st : StationId) (s : State) : (s.checkShow st).showing st = false :=
  State.showLoop_showing 16 (Nat.le_add_left _ _)

/-- A round more changes nothing once the condition fails. -/
theorem State.showLoop_succ {n : Nat} (h : (s.showLoop st n).showing st = false) :
    s.showLoop st (n + 1) = s.showLoop st n := by
  induction n generalizing s with
  | zero =>
    unfold State.showLoop
    exact if_neg (Bool.eq_false_iff.1 h)
  | succ n ih =>
    rw [State.showLoop]
    conv_rhs => rw [State.showLoop]
    split
    · next shows =>
      rw [State.showLoop, if_pos shows] at h
      exact ih h
    · rfl

theorem State.checkShow_idle (h : s.showing st = false) : s.checkShow st = s := by
  unfold State.checkShow State.showLoop
  exact if_neg (Bool.eq_false_iff.1 h)

theorem State.checkShow_head (h : s.showing st = true) : s.checkShow st = (s.showHead st).checkShow st := by
  have first : s.checkShow st = (s.showHead st).showLoop st 15 := by
    unfold State.checkShow
    rw [State.showLoop, if_pos h]
  rw [first]
  exact (State.showLoop_succ (State.showLoop_showing 15 (by rw [State.showHead_occupied h]; omega))).symm

-- ## The entry rule

theorem State.moveTo_eq {b : Batch} (hb : s.batch? r = some b) (x : StationId) :
    s.moveTo r x = ((s.updBatch r (fun y => { y with state := .due, moved := true, target := x })).updStation x
      (Station.join r true)).checkShow x := by
  have moved : (s.updBatch r (fun y => { y with state := .due, moved := true, target := x })).batch? r
      = some { b with state := .due, moved := true, target := x } := by
    rw [State.updBatch_batch_self, hb]
    rfl
  have priority : ({ b with state := .due, moved := true, target := x } : Batch).priority = true := Bool.or_true _
  unfold State.moveTo
  rw [State.joinQueue_eq moved, priority]

theorem State.enterStation_joins {b : Batch} (hb : s.batch? r = some b)
    (h : (s.stations[st]).state = .opened ∨ (s.stations[st]).state = .paused
      ∨ ((s.stations[st]).state = .down ∧ s.usableBackup st = none)) :
    s.enterStation r st = (s.updStation st (Station.join r (b.rush || b.moved))).checkShow st := by
  have joins := congrArg (State.checkShow st) (State.joinQueue_eq hb st)
  unfold State.enterStation
  rcases h with state | state | ⟨state, backup⟩ <;> rw [state]
  · exact joins
  · exact joins
  · simp only [backup]
    exact joins

theorem State.enterStation_moves_to {x : StationId}
    (h : (s.stations[st]).state = .closed ∨ (s.stations[st]).state = .down) (backup : s.usableBackup st = some x) :
    s.enterStation r st = s.moveTo r x := by
  unfold State.enterStation
  rcases h with state | state <;> rw [state] <;> simp only [backup]

theorem State.enterStation_strands (state : (s.stations[st]).state = .closed) (backup : s.usableBackup st = none) :
    s.enterStation r st = s.strand r st 1 := by
  unfold State.enterStation
  rw [state]
  simp only [backup]

theorem State.batchFault_of {b : Batch} {w : Ticket} (hb : s.batch? r = some b) (hw : s.ticketOf? b = some w)
    (f : FaultReport) : s.batchFault r f = { f with course := w.course.val, line := w.line } := by
  unfold State.batchFault
  rw [hb]
  simp only [hw]

/-- The batch that is stranded stands at the end of the stranded set, and its fault is logged (R87, R166). -/
theorem State.strand_strands {b : Batch} (hb : s.batch? r = some b) (st : StationId) (sub : Nat) :
    ((s.strand r st sub).stations[st]) = { (s.stations[st]) with stranded := (s.stations[st]).stranded ++ [r] }
      ∧ (s.strand r st sub).batch? r = some { b with state := .stranded, target := st }
      ∧ (∀ w, s.ticketOf? b = some w → Logs s (s.strand r st sub)
          { reason := .stranded, source := linkTag st, sub := sub, station := st.val, course := w.course.val
            line := w.line }) := by
  obtain ⟨-, -, stations, pool, -⟩ := ((s.updBatch r (fun x => { x with state := .stranded, target := st })).updStation
    st (fun x => { x with stranded := x.stranded ++ [r] })).recordFault_tables
      (s.batchFault r { reason := .stranded, source := linkTag st, sub := sub, station := st.val })
  refine ⟨?_, ?_, fun w hw => ?_⟩
  · unfold State.strand
    rw [stations]
    exact State.updStation_station_self _ st _
  · unfold State.strand
    rw [State.batch_congr pool, State.updStation_batch, State.updBatch_batch_self, hb]
    rfl
  · have logs := ((s.updBatch r (fun x => { x with state := .stranded, target := st })).updStation
      st (fun x => { x with stranded := x.stranded ++ [r] })).recordFault_logs
        (s.batchFault r { reason := .stranded, source := linkTag st, sub := sub, station := st.val })
    unfold State.strand
    rw [State.batchFault_of hb hw] at logs ⊢
    exact logs.congr rfl rfl rfl rfl

-- ## The statement

/-- The station that has shown: out of its queue into its lowest empty slot, with a token and the timer (R79, R103). -/
theorem Station.shown_eq (unread : Bool) (x : Station) (r : Nat) (k : SlotId) :
    ((Station.timed unread x).unqueue r).fill k r = { x with
      prio := x.prio.filter (fun q => q != r), ordinary := x.ordinary.filter (fun q => q != r)
      slots := x.slots.set k (some r), tokens := x.tokens + 1
      timer := if unread then x.timer else some x.plan.timeout
      tick := if unread then x.tick else match x.tick with
        | .spared => .clear | .owedSpared => .owed | m => m } := by
  obtain ⟨plan, state, retry, slots, tokens, prio, ordinary, stranded, timer, progress, tick⟩ := x
  cases unread
  · cases tick <;> rfl
  · rfl

theorem lateAtShow_eq {c : Course} {wave : Fin 4} {threshold : Nat} {late : Bool}
    (h : late = true ↔ c.countdown + c.plan.grace < threshold ∨ c.countdown ≤ c.plan.marks[wave]) :
    lateAtShow c wave threshold = late := by
  refine Bool.eq_iff_iff.2 (Iff.trans ?_ h.symm)
  unfold lateAtShow
  rw [Bool.or_eq_true, decide_eq_true_iff, decide_eq_true_iff]

/-- Settles O21. -/
theorem entryRuleAndShowing : Obligations.EntryRuleAndShowing := by
  refine ⟨fun s r st b hb => ⟨State.enterStation_joins hb, fun x state backup => ?moves, fun closed backup => ?strands⟩,
    ⟨fun x r => ⟨rfl, ?joins⟩, State.showing_iff, fun s st => s.checkShow_showing st⟩, ?shows⟩
  case moves => rw [State.enterStation_moves_to state backup, State.moveTo_eq hb]
  case strands =>
    obtain ⟨station, batch, logs⟩ := State.strand_strands hb st 1
    rw [State.enterStation_strands closed backup, station]
    exact ⟨rfl, batch, logs⟩
  case joins => exact (List.append_assoc _ _ _).symm
  case shows =>
    intro s st r k b w x c lateNow hx hb hw hc hlate head free lowest
    subst hx hc
    have slot := Station.emptySlot_some.2 ⟨free, lowest⟩
    have late := lateAtShow_eq hlate
    obtain ⟨batch, courses⟩ := State.showAt_judges (st := st) (k := k) hb hw
    have shown := State.showHead_eq head slot
    have places : Places (fun _ => False) (· = st) s (s.showHead st) := State.showHead_places st
    refine ⟨_, rfl, ?_, ?_, fun q hq => ?_, ?_, ?_, places.tickets, places.faults, places.part,
      State.checkShow_head⟩
    · exact (congrArg State.stations shown).trans ((State.showAt_stations st r k s).trans
        (congrArg (s.stations.set st) (Station.shown_eq _ _ r k)))
    · rw [shown, batch, late]
    · rw [shown, State.showAt_batch_ne hq]
    · rw [shown, courses, late]
    · rw [shown, State.showAt_port]
      rfl

end Sys2Proof.Machine

/-! SUPPORT. O41: the actions of STATION that open, pause, set, close and release (R90 to R95), and what a
station that receives batches does with them (R76 to R79). -/

namespace Sys2Proof.Machine

section
variable {s t : State} {st : StationId}

-- ## The row of a STATION action

theorem State.showing_congr (part : t.part = s.part) (stations : t.stations = s.stations) (st : StationId) :
    t.showing st = s.showing st := by
  unfold State.showing
  rw [part, stations]

theorem Finishes.showing {v : State} {n : Bool} {status : Status} {result : Nat} (h : Finishes s v t n status result)
    (st : StationId) : t.showing st = v.showing st := State.showing_congr h.leaves.part h.leaves.stations st

theorem State.stationAct_work (a : StationAction) (st : StationId) (v : Nat) (s : State) :
    StationWork s (s.stationAct a st v).2 := by
  rw [← State.stationCommand_named (a := a) (v := v) (s := s) (rfl : st.val = st.val)]
  exact s.stationCommand_work a st.val v

/-- The value that the entry of a STATION action carries. -/
def StationAction.value (a : StationAction) (value : Byte) : Nat := if a.readsValue then value.toNat else 0

/-- A STATION action at a station of the part ends as the action says. -/
theorem exec_stationEntry {a : StationAction} {n : Bool} {station value : Byte} (named : station.toNat = st.val)
    (ready : s.part = .ready) (returns : s.EntryReturns n (stationEntry a station value)) :
    ∃ id, ∀ status result u, (s.fetched id).stationAct a st (a.value value) = (.ended status result, u) →
      ∃ t, exec (stationRow a n station value) s = .next t ∧ Finishes s u t n status result := by
  obtain ⟨id, finishes⟩ := State.takeAs_finishes returns (s.takesEntries_of_ready ready)
  refine ⟨id, fun status result u acts => ⟨_, exec_stationRow a n station value s, finishes status result u ?_ ?_ ?_ ?_⟩⟩
  · refine (State.judge_ready (s := s.fetched id) (c := stationEntry a station value) ready nofun).trans ?_
    exact (State.stationCommand_named (s := s.fetched id) named).trans acts
  all_goals
    have work := State.stationAct_work a st (a.value value) (s.fetched id)
    rw [acts] at work
  · exact work.intake
  · exact work.part
  · exact congrArg Conditions.notify work.conditions

-- ## A station that has nothing to show

theorem State.showing_quiet (h : (s.stations[st]).state ≠ .opened ∨ (s.stations[st]).queue = []
    ∨ (s.stations[st]).plan.capacity ≤ (s.stations[st]).tokens) : s.showing st = false := by
  refine Bool.eq_false_iff.2 fun shows => ?_
  obtain ⟨-, state, queue, room, -⟩ := (s.showing_iff st).1 shows
  rcases h with h | h | h
  · exact h state
  · exact queue h
  · exact absurd room (not_lt.2 h)

/-- A change of one station record and its check: the change stands but for what the shows do. -/
theorem State.setAndShow (st : StationId) (f : Station → Station) (s : State) :
    (f s.stations[st]).SameState (((s.updStation st f).checkShow st).stations[st])
      ∧ ((s.updStation st f).checkShow st).showing st = false
      ∧ (s.updStation st f).marks.Grows ((s.updStation st f).checkShow st).marks := by
  have places : Places (fun _ => False) (· = st) (s.updStation st f) ((s.updStation st f).checkShow st) :=
    State.checkShow_places st
  have state := places.stations st
  rw [State.updStation_station_self] at state
  exact ⟨state, State.checkShow_showing st _, places.marks⟩

theorem State.setAndShow_quiet {f : Station → Station} (h : (f s.stations[st]).state ≠ .opened
    ∨ (f s.stations[st]).queue = [] ∨ (f s.stations[st]).plan.capacity ≤ (f s.stations[st]).tokens) :
    (s.updStation st f).checkShow st = s.updStation st f := by
  rw [← State.updStation_station_self s st f] at h
  exact State.checkShow_idle (State.showing_quiet h)

end

-- ## Opening, pausing and setting

theorem Station.mirrored_state {x y : Station} (h : y.state ≠ x.state) : y.mirrored ≠ x.mirrored :=
  fun same => h (congrArg (fun m => m.1) same)

section
variable {s : State} {st : StationId}

theorem State.stationPause_opened (h : (s.stations[st]).state = .opened) :
    s.stationPause st = (.ended .done 0, s.updStation st (fun x => { x with state := .paused })) := if_pos h

theorem State.stationUnpause_paused (h : (s.stations[st]).state = .paused) : s.stationUnpause st
    = (.ended .done 0, (s.updStation st (fun x => { x with state := .opened })).checkShow st) := if_pos h

theorem State.stationOpen_closed (h : (s.stations[st]).state = .closed) : s.stationOpen st
    = (.ended .done 0, (s.updStation st (fun x => { x with state := .opened })).checkShow st) := by
  unfold State.stationOpen
  rw [h]

theorem State.stationOpen_down (h : (s.stations[st]).state = .down) : s.stationOpen st
    = (.ended .done 0, (s.updStation st (fun x =>
      { x with state := .opened, retry := 0, progress := 0 })).checkShow st) := by
  unfold State.stationOpen
  rw [h]
  rfl

theorem State.stationBackup_set {v : Nat} (h : ¬(32 < v ∨ v = st.val)) : s.stationBackup st v
    = (.ended .done 0, s.updStation st (fun x => { x with plan := { x.plan with backup := toBackup v } })) := if_neg h

/-- A station with another capacity. -/
def Station.setCapacity (v : Nat) (x : Station) : Station := { x with plan := { x.plan with capacity := v } }

theorem State.stationCapacity_set {v : Nat} (h : v ≤ 16) : s.stationCapacity st v = (.ended .done 0,
    (s.updStation st (Station.setCapacity v)).checkShow st) := if_neg (not_lt.2 h)

end

/-- A station that an action sets to OPEN shows what it can; with an empty queue nothing else changes. -/
theorem exec_stationOpens {s : State} {a : StationAction} {n : Bool} {station : Byte} {st : StationId}
    {f : Station → Station} (named : station.toNat = st.val) (ready : s.part = .ready)
    (returns : s.EntryReturns n (stationEntry a station 0)) (opens : (f s.stations[st]).state = .opened)
    (from' : (s.stations[st]).state ≠ .opened) (queue : (f s.stations[st]).queue = (s.stations[st]).queue)
    (acts : ∀ t : State, t.stations = s.stations →
      t.stationAct a st (a.value 0) = (.ended .done 0, (t.updStation st f).checkShow st)) :
    ∃ t, exec (stationRow a n station 0) s = .next t ∧ Completes s t n .done 0 ∧ WritesStationMirror s t st
      ∧ (t.stations[st]).state = .opened ∧ t.showing st = false
      ∧ ((s.stations[st]).queue = [] →
          CompletedFrom { s with stations := s.stations.set st (f s.stations[st]) } t n) := by
  obtain ⟨id, row⟩ := exec_stationEntry (a := a) (value := 0) named ready returns
  obtain ⟨t, runs, finishes⟩ := row _ _ _ (acts (s.fetched id) rfl)
  obtain ⟨⟨state, -, -, -⟩, showing, marks⟩ := State.setAndShow st f (s.fetched id)
  have marked : st ∈ ((s.fetched id).updStation st f).marks.stations :=
    State.updStation_marked (Station.mirrored_state fun same => from' (same.symm.trans opens))
  refine ⟨t, runs, finishes.completes, finishes.stations st (marks.stations st marked), ?_, ?_, fun empty => ?_⟩
  · rw [finishes.leaves.stations]
    exact state.trans opens
  · rw [finishes.showing]
    exact showing
  · have quiet : ((s.fetched id).updStation st f).checkShow st = (s.fetched id).updStation st f :=
      State.setAndShow_quiet (s := s.fetched id) (.inr (.inl (queue.trans empty)))
    have leaves := finishes.leaves
    rw [quiet] at leaves
    exact leaves.rebase rfl

/-- Settles O41, by action. -/
theorem stationOpensPausesAndIsSet : Obligations.StationOpensPausesAndIsSet := by
  refine ⟨fun s n station st named ready => ⟨fun returns opened => ?pause, fun returns paused => ?unpause,
    fun returns state => ?opens⟩, fun s n station value st named ready => ⟨fun returns inside other => ?backup,
    fun returns inside => ?capacity⟩⟩
  case pause =>
    obtain ⟨id, row⟩ := exec_stationEntry (value := 0) named ready returns
    obtain ⟨t, runs, finishes⟩ := row _ _ _ (State.stationPause_opened (s := s.fetched id) opened)
    have changes : StationState.paused ≠ (s.stations[st]).state := by rw [opened]; decide
    exact ⟨t, runs, ⟨finishes.completes, finishes.leaves.rebase rfl⟩,
      finishes.stations st (State.updStation_marked (Station.mirrored_state changes))⟩
  case unpause =>
    exact exec_stationOpens (a := .unpause) named ready returns rfl (by rw [paused]; decide) rfl fun t same =>
      State.stationUnpause_paused (by rw [same]; exact paused)
  case opens =>
    rcases state with closed | down
    · obtain ⟨t, runs, completes, mirror, opened, showing, quiet⟩ := exec_stationOpens (a := .opening) named ready returns
        (f := fun x => { x with state := .opened }) rfl (by rw [closed]; decide) rfl fun t same =>
          State.stationOpen_closed (by rw [same]; exact closed)
      exact ⟨t, runs, completes, mirror, opened, showing, fun _ => quiet, fun down => nomatch closed.symm.trans down⟩
    · obtain ⟨t, runs, completes, mirror, opened, showing, quiet⟩ := exec_stationOpens (a := .opening) named ready returns
        (f := fun x => { x with state := .opened, retry := 0, progress := 0 }) rfl (by rw [down]; decide) rfl
          fun t same => State.stationOpen_down (by rw [same]; exact down)
      exact ⟨t, runs, completes, mirror, opened, showing, fun closed => absurd (down.symm.trans closed) nofun,
        fun _ => quiet⟩
  case backup =>
    obtain ⟨id, row⟩ := exec_stationEntry named ready returns
    have field : ¬(32 < value.toNat ∨ value.toNat = st.val) := by
      rintro (past | same)
      · exact absurd inside (not_le.2 past)
      · exact other (BitVec.eq_of_toNat_eq (same.trans named.symm))
    obtain ⟨t, runs, finishes⟩ := row _ _ _ (State.stationBackup_set (s := s.fetched id) field)
    refine ⟨t, toBackup value.toNat, runs, ⟨finishes.completes, finishes.leaves.rebase rfl⟩, fun none => ?_,
      fun b hb => ?_⟩
    · exact toBackup_none (by omega)
    · rw [hb]
      exact toBackup_some b
  case capacity =>
    obtain ⟨id, row⟩ := exec_stationEntry named ready returns
    obtain ⟨t, runs, finishes⟩ := row _ _ _ (State.stationCapacity_set (s := s.fetched id) inside)
    obtain ⟨⟨-, plan, -, -⟩, showing, -⟩ := State.setAndShow st
      (Station.setCapacity value.toNat) (s.fetched id)
    refine ⟨t, runs, finishes.completes, ?_, ?_, fun quiet => ?_⟩
    · rw [finishes.leaves.stations]
      exact plan
    · rw [finishes.showing]
      exact showing
    · have rests := State.setAndShow_quiet (s := s.fetched id) (st := st) (f := Station.setCapacity value.toNat) quiet
      have leaves : CompletedFrom (((s.fetched id).updStation st (Station.setCapacity value.toNat)).checkShow st) t n :=
        finishes.leaves
      rw [rests] at leaves
      exact leaves.rebase rfl

end Sys2Proof.Machine

/-! SUPPORT. O42 and O43: batches that move to a station (R74, R76 to R79, R87, R91, R95). -/

namespace Sys2Proof.Machine

variable {s t : State} {x st : StationId} {r q : Nat} {b : Batch}

-- ## A batch that a station has received

/-- The batch stands at the station, in its queue or in a slot, and carries MOVED. -/
def Received (t : State) (x : StationId) (r : Nat) (b : Batch) : Prop :=
  QueuedOrShown t x r b ∧ ∃ b', t.batch? r = some b' ∧ b'.moved = true

theorem Received.congr (h : Received s x r b) (pool : t.pool = s.pool) (stations : t.stations = s.stations) :
    Received t x r b := by
  unfold Received QueuedOrShown at *
  rw [State.batch_congr pool, stations]
  exact h

theorem Received.known (h : Received s x r b) : ∃ b', s.batch? r = some b' ∧ b'.target = x
    ∧ b'.threshold = b.threshold ∧ b'.portions = b.portions ∧ b'.moved = true := by
  obtain ⟨⟨b', hb', target, threshold, portions, -⟩, b'', hb'', moved⟩ := h
  exact ⟨b', hb', target, threshold, portions, Option.some.inj (hb''.symm.trans hb') ▸ moved⟩

/-- A batch stays received while its record, its place in the queue and its slot stand. -/
theorem Received.keep (h : Received s x r b) (batch : t.batch? r = s.batch? r)
    (queue : r ∈ (s.stations[x]).queue → r ∈ (t.stations[x]).queue)
    (slots : ∀ j : SlotId, (s.stations[x]).slots[j] = some r → (t.stations[x]).slots[j] = some r) :
    Received t x r b := by
  obtain ⟨⟨b', hb', target, threshold, portions, place⟩, moved⟩ := h
  refine ⟨⟨b', batch.trans hb', target, threshold, portions, ?_⟩, by rw [batch]; exact moved⟩
  rcases place with ⟨due, queued⟩ | ⟨j, shown, slot⟩
  · exact .inl ⟨due, queue queued⟩
  · exact .inr ⟨j, shown, slots j slot⟩

theorem Station.timed_queue (unread : Bool) (x : Station) : (Station.timed unread x).queue = x.queue := by
  unfold Station.timed
  split <;> rfl

theorem Station.shown_queue (unread : Bool) (x : Station) (q : Nat) (k : SlotId) :
    r ∈ (((Station.timed unread x).unqueue q).fill k q).queue ↔ r ∈ x.queue ∧ r ≠ q := by
  rw [← Station.timed_queue unread x]
  exact Station.mem_queue_unqueue

theorem State.showAt_station (st : StationId) (r : Nat) (k : SlotId) (s : State) :
    (s.showAt st r k).stations[st] = ((Station.timed (s.hasUnread st) s.stations[st]).unqueue r).fill k r := by
  rw [State.showAt_stations, getElem_set_fin_self]

theorem State.showAt_slot (st : StationId) (r : Nat) (k : SlotId) (s : State) :
    ((s.showAt st r k).stations[st]).slots[k] = some r := by
  rw [State.showAt_station]
  exact getElem_set_fin_self _ _ _

theorem State.showAt_received (h : Received s x r b) {k : SlotId} (queued : q ∈ (s.stations[x]).queue)
    (free : (s.stations[x]).slots[k] = none) : Received (s.showAt x q k) x r b := by
  by_cases same : r = q
  · subst same
    obtain ⟨b', hb', target, threshold, portions, moved⟩ := h.known
    obtain ⟨late, shown⟩ := State.showAt_shows (st := x) (k := k) hb'
    exact ⟨⟨_, shown, target, threshold, portions, .inr ⟨k, rfl, s.showAt_slot x r k⟩⟩, _, shown, moved⟩
  · have places : Places (fun _ => False) (· = x) s (s.showAt x q k) := State.showAt_places queued free
    refine h.keep (State.showAt_batch_ne same) (fun mem => ?_) fun j => places.slots x j r
    rw [State.showAt_station, Station.shown_queue]
    exact ⟨mem, same⟩

theorem State.checkShow_received (h : Received s x r b) : Received (s.checkShow x) x r b := by
  unfold State.checkShow
  generalize 16 = n
  induction n generalizing s with
  | zero => exact h
  | succ n ih =>
    unfold State.showLoop
    split
    · next shows =>
      obtain ⟨q, k, head, slot⟩ := State.showing_head shows
      rw [State.showHead_eq head slot]
      exact ih (State.showAt_received h (List.mem_of_mem_head? head) (Station.emptySlot_free slot))
    · exact h

-- ## A batch that moves

/-- The change of a batch that moves to a station (R76). -/
def Batch.moveTo (x : StationId) (b : Batch) : Batch := { b with state := .due, moved := true, target := x }

/-- A batch that moves has joined the priority part of the queue before the station is checked (R74, R76). -/
def State.moveIn (r : Nat) (x : StationId) (s : State) : State :=
  (s.updBatch r (Batch.moveTo x)).updStation x (Station.join r true)

theorem State.moveTo_checks (hb : s.batch? r = some b) (x : StationId) : s.moveTo r x = (s.moveIn r x).checkShow x :=
  State.moveTo_eq hb x

theorem State.moveIn_station (r : Nat) (x : StationId) (s : State) :
    (s.moveIn r x).stations[x] = (s.stations[x]).join r true :=
  State.updStation_station_self _ x _

theorem State.moveIn_batch (hb : s.batch? r = some b) (x : StationId) :
    (s.moveIn r x).batch? r = some (b.moveTo x) := by
  unfold State.moveIn
  rw [State.updStation_batch, State.updBatch_batch_self, hb]
  rfl

theorem State.moveIn_batch_ne (h : q ≠ r) (x : StationId) (s : State) : (s.moveIn r x).batch? q = s.batch? q := by
  unfold State.moveIn
  rw [State.updStation_batch, State.updBatch_batch_ne _ h]

theorem State.moveIn_received {b' : Batch} (hb : s.batch? r = some b') (threshold : b'.threshold = b.threshold)
    (portions : b'.portions = b.portions) : Received (s.moveIn r x) x r b := by
  refine ⟨⟨_, State.moveIn_batch hb x, rfl, threshold, portions, .inl ⟨rfl, ?_⟩⟩, _, State.moveIn_batch hb x, rfl⟩
  rw [State.moveIn_station, Station.mem_queue_join]
  exact .inl rfl

theorem State.moveTo_receives {b' : Batch} (hb : s.batch? r = some b') (threshold : b'.threshold = b.threshold)
    (portions : b'.portions = b.portions) : Received (s.moveTo r x) x r b := by
  rw [State.moveTo_checks hb]
  exact State.checkShow_received (State.moveIn_received hb threshold portions)

/-- A received batch stays received when another one moves to its station. -/
theorem State.moveTo_received (h : Received s x r b) (known : ∃ b', s.batch? q = some b') :
    Received (s.moveTo q x) x r b := by
  by_cases same : r = q
  · subst same
    obtain ⟨b', hb', -, threshold, portions, -⟩ := h.known
    exact State.moveTo_receives hb' threshold portions
  · obtain ⟨b', hb'⟩ := known
    rw [State.moveTo_checks hb']
    refine State.checkShow_received (h.keep (State.moveIn_batch_ne same x s) (fun mem => ?_) fun j slot => ?_)
    · rw [State.moveIn_station, Station.mem_queue_join]
      exact .inr mem
    · rw [State.moveIn_station, (Station.join_sameState _ _ _).2.2.1]
      exact slot

-- ## Batches that move in a row

/-- Batches move to a station, each placed and checked before the next. -/
def State.moveAll (rs : List Nat) (x : StationId) (s : State) : State := rs.foldl (fun u r => u.moveTo r x) s

theorem State.moveAll_places (rs : List Nat) (x : StationId) (s : State) : Places (· ∈ rs) (· = x) s (s.moveAll rs x) :=
  Places.foldl (fun _ r hr => (State.moveTo_places r x).mono (fun _ same => same ▸ hr) fun _ => id) s

/-- Every batch number of a list is in use. -/
def State.Knows (s : State) (rs : List Nat) : Prop := ∀ r ∈ rs, ∃ b, s.batch? r = some b

theorem Moves.knows {P : Nat → Prop} {Q : StationId → Prop} (h : Moves P Q s t) {rs : List Nat} (known : s.Knows rs) :
    t.Knows rs := by
  intro r hr
  obtain ⟨b, hb⟩ := known r hr
  obtain ⟨b', hb', -⟩ := h.batches r b hb
  exact ⟨b', hb'⟩

/-- From `s` to `t` the batches of the list have moved to station `x`, in order, and what happened between the moves
touched neither the station nor a batch. -/
inductive Hands (x : StationId) : List Nat → State → State → Prop
  | done (s : State) : Hands x [] s s
  | apart {rs : List Nat} {s u t : State} (pool : u.pool = s.pool) (part : u.part = s.part)
      (station : u.stations[x] = s.stations[x]) (rest : Hands x rs u t) : Hands x rs s t
  | move {r : Nat} {rs : List Nat} {s t : State} (known : ∃ b, s.batch? r = some b)
      (rest : Hands x rs (s.moveTo r x) t) : Hands x (r :: rs) s t

theorem Hands.append {rs qs : List Nat} {u : State} (h : Hands x rs s t) (g : Hands x qs t u) :
    Hands x (rs ++ qs) s u := by
  induction h with
  | done s => exact g
  | apart pool part station _ ih => exact .apart pool part station (ih g)
  | move known _ ih => exact .move known (ih g)

theorem Hands.ends {rs : List Nat} {u : State} (h : Hands x rs s u) (pool : t.pool = u.pool) (part : t.part = u.part)
    (stations : t.stations = u.stations) : Hands x rs s t := by
  have last : Hands x [] u t := .apart pool part (by rw [stations]) (.done t)
  rw [← List.append_nil rs]
  exact h.append last

theorem State.moveAll_hands {rs : List Nat} (known : s.Knows rs) : Hands x rs s (s.moveAll rs x) := by
  induction rs generalizing s with
  | nil => exact .done s
  | cons r rs ih =>
    refine .move (known r List.mem_cons_self) (ih ?_)
    exact (State.moveTo_places r x).knows fun q hq => known q (List.mem_cons_of_mem _ hq)

theorem Hands.received {rs : List Nat} (h : Hands x rs s t) (received : Received s x r b) : Received t x r b := by
  induction h with
  | done s => exact received
  | apart pool part station _ ih =>
    refine ih (received.keep (State.batch_congr pool r) ?_ ?_) <;> rw [station]
    · exact id
    · exact fun _ => id
  | move known _ ih => exact ih (State.moveTo_received received known)

/-- Every batch that has moved stands at its station. -/
theorem Hands.receives {rs : List Nat} (h : Hands x rs s t) (mem : r ∈ rs) (hb : s.batch? r = some b) :
    Received t x r b := by
  induction h generalizing b with
  | done s => exact absurd mem List.not_mem_nil
  | apart pool part station _ ih => exact ih mem ((State.batch_congr pool r).trans hb)
  | @move q rs s t known rest ih =>
    by_cases same : r = q
    · subst same
      exact rest.received (State.moveTo_receives hb rfl rfl)
    · obtain ⟨b', hb', goes⟩ := (State.moveTo_places q x).batches r b hb
      obtain ⟨⟨b'', hb'', target, threshold, portions, place⟩, moved⟩ :=
        ih ((List.mem_cons.1 mem).resolve_left same) hb'
      exact ⟨⟨b'', hb'', target, threshold.trans goes.threshold, portions.trans goes.portions, place⟩, moved⟩

theorem State.checkShow_quiet (h : (s.stations[st]).state ≠ .opened) : s.checkShow st = s :=
  State.checkShow_idle (State.showing_quiet (.inl h))

/-- A batch that stands DUE with MOVED for a station. -/
def Batch.IsMoved (x : StationId) (b : Batch) : Prop := b.state = .due ∧ b.target = x ∧ b.moved = true

/-- A station that is not OPEN queues what moves to it, in order (R74, R76). -/
theorem Hands.queues {rs : List Nat} (h : Hands x rs s t) (closed : (s.stations[x]).state ≠ .opened) :
    t.stations[x] = { (s.stations[x]) with prio := (s.stations[x]).prio ++ rs }
      ∧ ∀ r b, r ∈ rs ∨ b.IsMoved x → s.batch? r = some b → ∃ b', t.batch? r = some b' ∧ b'.IsMoved x := by
  induction h with
  | done s =>
    refine ⟨?_, fun r b placed hb => ⟨b, hb, placed.resolve_left List.not_mem_nil⟩⟩
    rw [List.append_nil]
  | apart pool part station _ ih =>
    rw [station] at ih
    obtain ⟨queue, batches⟩ := ih closed
    exact ⟨queue, fun r b placed hb => batches r b placed ((State.batch_congr pool r).trans hb)⟩
  | @move q rs s t known rest ih =>
    obtain ⟨c, hc⟩ := known
    have state : ((s.moveIn q x).stations[x]).state ≠ .opened := by
      rw [State.moveIn_station, (Station.join_sameState _ _ _).1.1]
      exact closed
    rw [State.moveTo_checks hc, State.checkShow_quiet state] at ih
    obtain ⟨queue, batches⟩ := ih state
    refine ⟨?_, fun r b placed hb => ?_⟩
    · rw [queue, State.moveIn_station]
      exact congrArg (fun l => { (s.stations[x]) with prio := l }) (List.append_assoc (s.stations[x]).prio [q] rs)
    · by_cases same : r = q
      · subst same
        exact batches r _ (.inr ⟨rfl, rfl, rfl⟩) (State.moveIn_batch hb x)
      · exact batches r b (placed.imp_left fun mem => (List.mem_cons.1 mem).resolve_left same)
          ((State.moveIn_batch_ne same x s).trans hb)

theorem Hands.queued {rs : List Nat} (h : Hands x rs s t) (closed : (s.stations[x]).state ≠ .opened) (mem : r ∈ rs)
    (hb : s.batch? r = some b) : ∃ b', t.batch? r = some b' ∧ b'.state = .due ∧ b'.target = x ∧ b'.moved = true :=
  (h.queues closed).2 r b (.inl mem) hb

/-- A station to which nothing has moved stands. -/
theorem Hands.rests (h : Hands x [] s t) : t.stations[x] = s.stations[x] := by
  generalize empty : ([] : List Nat) = rs at h
  induction h with
  | done s => rfl
  | apart pool part station _ ih => exact (ih empty).trans station
  | move known _ ih => exact nomatch empty

-- ## An OPEN station shows what moves to it

/-- A station to which batches have moved has nothing left to show. -/
theorem Hands.showing {rs : List Nat} (h : Hands x rs s t) (some' : rs ≠ [] ∨ s.showing x = false) :
    t.showing x = false := by
  induction h with
  | done s => exact some'.resolve_left fun ne => ne rfl
  | @apart rs s u t pool part station _ ih =>
    have same : u.showing x = s.showing x := by
      unfold State.showing
      rw [part, station]
    exact ih (some'.imp_right same.trans)
  | move known _ ih =>
    obtain ⟨b, hb⟩ := known
    refine ih (.inr ?_)
    rw [State.moveTo_checks hb]
    exact State.checkShow_showing x _

theorem Hands.slots {rs : List Nat} (h : Hands x rs s t) {k : SlotId} (filled : (s.stations[x]).slots[k] = some r) :
    (t.stations[x]).slots[k] = some r := by
  induction h with
  | done s => exact filled
  | apart pool part station _ ih => exact ih (by rw [station]; exact filled)
  | move known _ ih => exact ih ((State.moveTo_places _ x).slots x k r filled)

/-- The first batch that moves to an OPEN station with an empty priority part stands in its lowest empty slot. -/
theorem State.moveTo_first {k : SlotId} (hb : s.batch? r = some b) (running : s.part ≠ .stopped)
    (opened : (s.stations[x]).state = .opened) (prio : (s.stations[x]).prio = [])
    (room : (s.stations[x]).tokens < (s.stations[x]).plan.capacity) (free : (s.stations[x]).slots[k] = none)
    (lowest : ∀ j : SlotId, j < k → (s.stations[x]).slots[j] ≠ none) :
    ((s.moveTo r x).stations[x]).slots[k] = some r := by
  have station := s.moveIn_station r x
  have joined : (s.stations[x]).join r true = { (s.stations[x]) with prio := [r] } := by
    unfold Station.join
    rw [prio]
    rfl
  rw [joined] at station
  have slot : ((s.moveIn r x).stations[x]).emptySlot? = some k := by
    rw [station]
    exact Station.emptySlot_some.2 ⟨free, lowest⟩
  have head : ((s.moveIn r x).stations[x]).queue.head? = some r := by
    rw [station]
    rfl
  have shows : (s.moveIn r x).showing x = true := by
    rw [State.showing_iff, station]
    exact ⟨running, opened, List.cons_ne_nil _ _, room, k, free⟩
  have places : Places (fun _ => False) (· = x) ((s.moveIn r x).showAt x r k) (((s.moveIn r x).showAt x r k).checkShow x) :=
    State.checkShow_places x
  rw [State.moveTo_checks hb, State.checkShow_head shows, State.showHead_eq head slot]
  exact places.slots x k r (State.showAt_slot x r k _)

/-- The first batch of a list stands in the lowest empty slot of the OPEN station that it moved to. -/
theorem Hands.first {rs : List Nat} (h : Hands x rs s t) (running : s.part ≠ .stopped)
    (opened : (s.stations[x]).state = .opened) (r : Nat) (k : SlotId) (prio : (s.stations[x]).prio = [])
    (head : rs.head? = some r) (room : (s.stations[x]).tokens < (s.stations[x]).plan.capacity)
    (free : (s.stations[x]).slots[k] = none) (lowest : ∀ j : SlotId, j < k → (s.stations[x]).slots[j] ≠ none) :
    (t.stations[x]).slots[k] = some r := by
  induction h with
  | done s => exact nomatch head
  | apart pool part station _ ih =>
    rw [part, station] at ih
    exact ih running opened prio head room free lowest
  | @move q rs s t known rest ih =>
    obtain ⟨b, hb⟩ := known
    obtain rfl : q = r := Option.some.inj head
    exact rest.slots (State.moveTo_first hb running opened prio room free lowest)

theorem Hands.showsFirst {rs : List Nat} (h : Hands x rs s t) (some' : rs ≠ []) (running : s.part ≠ .stopped)
    (opened : (s.stations[x]).state = .opened) : ShowsFirst s t x rs :=
  ⟨h.showing (.inl some'), h.first running opened⟩

-- ## CLOSE

/-- The usable backup of a station is another one, OPEN or PAUSED (R76). -/
theorem State.usableBackup_some (h : s.usableBackup st = some x) :
    x ≠ st ∧ ((s.stations[x]).state = .opened ∨ (s.stations[x]).state = .paused) := by
  unfold State.usableBackup at h
  split at h
  · next y _ =>
    split at h
    · next usable => exact Option.some.inj h ▸ usable
    · exact nomatch h
  · exact nomatch h

theorem State.usableBackup_congr (h : t.stations = s.stations) (st : StationId) :
    t.usableBackup st = s.usableBackup st := by
  unfold State.usableBackup
  rw [h]

/-- The record of a station that closes (R91). -/
def Station.shut (x : Station) : Station :=
  { x with state := .closed, retry := 0, progress := 0, prio := [], ordinary := [] }

theorem State.stationClose_moves (state : (s.stations[st]).state = .opened ∨ (s.stations[st]).state = .paused)
    (empty : (s.stations[st]).occupied = 0) (backup : s.usableBackup st = some x) : s.stationClose st
      = (.ended .done 0, (s.updStation st Station.shut).moveAll (s.stations[st]).queue x) := by
  unfold State.stationClose
  rw [if_pos ⟨state, empty⟩, backup]
  rfl

/-- Batches enter the stranded set of a station in a row. -/
def State.strandAll (rs : List Nat) (st : StationId) (sub : Nat) (s : State) : State :=
  rs.foldl (fun u r => u.strand r st sub) s

theorem State.stationClose_strands (state : (s.stations[st]).state = .opened ∨ (s.stations[st]).state = .paused)
    (empty : (s.stations[st]).occupied = 0) (backup : s.usableBackup st = none) : s.stationClose st
      = (.ended .done 0, (s.updStation st Station.shut).strandAll (s.stations[st]).queue st 3) := by
  unfold State.stationClose
  rw [if_pos ⟨state, empty⟩, backup]
  rfl

theorem State.strand_stations (r : Nat) (st : StationId) (sub : Nat) (s : State) : (s.strand r st sub).stations
    = s.stations.set st { (s.stations[st]) with stranded := (s.stations[st]).stranded ++ [r] } := by
  unfold State.strand
  exact (State.recordFault_tables _ _).2.2.1

theorem State.strand_batch_ne (h : q ≠ r) (st : StationId) (sub : Nat) (s : State) :
    (s.strand r st sub).batch? q = s.batch? q := by
  unfold State.strand
  rw [State.batch_congr (State.recordFault_tables _ _).2.2.2.1, State.updStation_batch, State.updBatch_batch_ne _ h]

/-- The stranded set grows by the batches, in order (R87). -/
theorem State.strandAll_strands {rs : List Nat} {sub : Nat} (known : s.Knows rs) :
    (s.strandAll rs st sub).stations
        = s.stations.set st { (s.stations[st]) with stranded := (s.stations[st]).stranded ++ rs }
      ∧ ∀ r b, (r ∈ rs ∨ b.state = .stranded ∧ b.target = st) → s.batch? r = some b →
        ∃ b', (s.strandAll rs st sub).batch? r = some b' ∧ b'.state = .stranded ∧ b'.target = st := by
  induction rs generalizing s with
  | nil =>
    refine ⟨?_, fun r b placed hb => ⟨b, hb, placed.resolve_left List.not_mem_nil⟩⟩
    rw [List.append_nil]
    exact (Vector.set_getElem_self st.isLt).symm
  | cons q rs ih =>
    have rest : (s.strand q st sub).Knows rs :=
      (State.strand_moves q st sub).knows fun r hr => known r (List.mem_cons_of_mem _ hr)
    obtain ⟨stations, batches⟩ := ih rest
    refine ⟨?_, fun r b placed hb => ?_⟩
    · refine stations.trans ?_
      rw [State.strand_stations, getElem_set_fin_self, Vector.set_set]
      exact congrArg (fun l => s.stations.set st { (s.stations[st]) with stranded := l })
        (List.append_assoc (s.stations[st]).stranded [q] rs)
    · by_cases same : r = q
      · subst same
        exact batches r _ (.inr ⟨rfl, rfl⟩) (State.strand_strands hb st sub).2.1
      · exact batches r b (placed.imp_left fun mem => (List.mem_cons.1 mem).resolve_left same)
          ((State.strand_batch_ne same st sub s).trans hb)

theorem State.batchFault_source (r : Nat) (f : FaultReport) (s : State) : (s.batchFault r f).source = f.source := by
  unfold State.batchFault
  split
  · split <;> rfl
  · rfl

/-- Stranded batches leave a record of fault STRANDED, or the overflow mark (R87, R167). -/
theorem State.strandAll_recorded {rs : List Nat} (some' : rs ≠ []) (st : StationId) (sub : Nat) (s : State) :
    Recorded (s.strandAll rs st sub) .stranded (linkTag st) := by
  obtain ⟨first, last, rfl⟩ := List.eq_nil_or_concat' rs |>.resolve_left some'
  have ends : s.strandAll (first ++ [last]) st sub = (s.strandAll first st sub).strand last st sub :=
    List.foldl_append ..
  rw [ends]
  unfold State.strand
  generalize s.strandAll first st sub = u
  have logs := (((u.updBatch last (fun x => { x with state := .stranded, target := st })).updStation st
    (fun x => { x with stranded := x.stranded ++ [last] })).recordFault_logs
      (u.batchFault last { reason := .stranded, source := linkTag st, sub := sub, station := st.val })).recorded
  rw [State.batchFault_reason, State.batchFault_source] at logs
  exact logs

theorem State.strandAll_moves (rs : List Nat) (st : StationId) (sub : Nat) (s : State) :
    Moves (· ∈ rs) (· = st) s (s.strandAll rs st sub) :=
  Moves.foldl (fun _ r hr => (State.strand_moves r st sub).mono (fun _ same => same ▸ hr) fun _ => id) s

theorem State.shut_marked (state : (s.stations[st]).state = .opened ∨ (s.stations[st]).state = .paused) :
    st ∈ (s.updStation st Station.shut).marks.stations := by
  refine State.updStation_marked (Station.mirrored_state fun same => ?_)
  rcases state with state | state
  · exact nomatch same.trans state
  · exact nomatch same.trans state

theorem State.Knows.congr {rs : List Nat} (h : s.Knows rs) (pool : t.pool = s.pool) : t.Knows rs := by
  intro r hr
  rw [State.batch_congr pool]
  exact h r hr

/-- Settles O42, by whether the station has a usable backup. -/
theorem closeEmptiesTheQueue : Obligations.CloseEmptiesTheQueue := by
  intro s n station st named ready returns state empty known
  obtain ⟨id, row⟩ := exec_stationEntry (value := 0) named ready returns
  have marked := State.shut_marked (s := s.fetched id) state
  have known' : ((s.fetched id).updStation st Station.shut).Knows (s.stations[st]).queue := known
  refine ⟨fun none' => ?strands, fun backup usable => ?moves⟩
  case strands =>
    obtain ⟨t, runs, finishes⟩ := row _ _ _ (State.stationClose_strands (s := s.fetched id) state empty none')
    obtain ⟨stations, batches⟩ := State.strandAll_strands (st := st) (sub := 3) known'
    have moves := State.strandAll_moves (s.stations[st]).queue st 3 ((s.fetched id).updStation st Station.shut)
    have leaves := finishes.leaves
    refine ⟨t, runs, finishes.completes, finishes.stations st (moves.marks.stations st marked), ?_, fun r hr => ?_,
      fun some' => ?_, fun r b k one hb hk => ?_, fun none'' => ?_⟩
    · rw [leaves.stations]
      refine stations.trans ?_
      rw [State.updStation_station_self]
      exact Vector.set_set ..
    · obtain ⟨b, hb⟩ := known r hr
      obtain ⟨b', hb', stranded⟩ := batches r b (.inl hr) hb
      exact ⟨b', (State.batch_congr leaves.pool r).trans hb', stranded⟩
    · have recorded := State.strandAll_recorded some' st 3 ((s.fetched id).updStation st Station.shut)
      unfold Recorded at recorded ⊢
      rw [leaves.faults, leaves.overflow]
      exact recorded
    · have faults := leaves.faults
      have overflow := leaves.overflow
      have only : ((s.fetched id).stations[st]).queue = [r] := one
      rw [only] at faults overflow
      exact ((State.strand_strands (s := (s.fetched id).updStation st Station.shut) hb st 3).2.2 k hk).congr
        rfl rfl faults overflow
    · have faults := leaves.faults
      have none : ((s.fetched id).stations[st]).queue = [] := none''
      rw [none] at faults
      exact faults
  case moves =>
    obtain ⟨t, runs, finishes⟩ := row _ _ _ (State.stationClose_moves (s := s.fetched id) state empty usable)
    obtain ⟨other, -⟩ := State.usableBackup_some usable
    have places := State.moveAll_places (s.stations[st]).queue backup ((s.fetched id).updStation st Station.shut)
    have leaves := finishes.leaves
    have kept (x : StationId) (hx : x ≠ st) :
        ((s.fetched id).updStation st Station.shut).stations[x] = s.stations[x] :=
      State.updStation_station_ne _ (Ne.symm hx) _
    have hands : Hands backup (s.stations[st]).queue s t :=
      .apart (u := (s.fetched id).updStation st Station.shut) rfl rfl (kept backup other)
        ((State.moveAll_hands known').ends leaves.pool leaves.part leaves.stations)
    refine ⟨t, runs, finishes.completes, finishes.stations st (places.marks.stations st marked), ?_,
      leaves.faults.trans places.faults, fun paused => ?_, fun none x hx => ?_, fun opened some' _ _ => ?_⟩
    · rw [leaves.stations]
      exact (places.elsewhere st (Ne.symm other)).trans (State.updStation_station_self _ st _)
    · have closed : (s.stations[backup]).state ≠ .opened := by rw [paused]; decide
      refine ⟨(hands.queues closed).1, fun r hr => ?_⟩
      obtain ⟨b, hb⟩ := known r hr
      exact hands.queued closed hr hb
    · have stations := leaves.stations
      have none' : ((s.fetched id).stations[st]).queue = [] := none
      rw [none'] at stations
      rw [stations]
      exact kept x hx
    · exact ⟨hands.showsFirst some' (by rw [ready]; decide) opened, fun r hr b hb => hands.receives hr hb⟩

-- ## RELEASE STRANDED

theorem State.stationRelease_open {v : Nat} (hv : v = x.val) (open' : (s.stations[x]).state ≠ .closed) :
    s.stationRelease st v = (.ended .done 0,
      (s.updStation st (fun y => { y with stranded := [] })).moveAll (s.stations[st]).stranded x) := by
  subst hv
  unfold State.stationRelease
  rw [toBackup_some]
  exact if_neg open'

/-- Settles O43. -/
theorem releaseMovesTheStranded : Obligations.ReleaseMovesTheStranded := by
  intro s n station value st x named aimed ready returns known open'
  obtain ⟨id, row⟩ := exec_stationEntry named ready returns
  obtain ⟨t, runs, finishes⟩ := row _ _ _ (State.stationRelease_open (s := s.fetched id) aimed open')
  have leaves := finishes.leaves
  have known' : ((s.fetched id).updStation st (fun y => { y with stranded := [] })).Knows (s.stations[st]).stranded := known
  have places := State.moveAll_places (s.stations[st]).stranded x
    ((s.fetched id).updStation st (fun y => { y with stranded := [] }))
  have emptied (y : StationId) : ((s.fetched id).updStation st (fun y => { y with stranded := [] })).stations[y]
      = { (s.stations[y]) with stranded := if st = y then [] else (s.stations[y]).stranded } := by
    refine (getElem_set_fin ..).trans ?_
    split
    · next same =>
      subst same
      rfl
    · rfl
  have moved : Hands x (s.stations[st]).stranded ((s.fetched id).updStation st (fun y => { y with stranded := [] })) t :=
    (State.moveAll_hands known').ends leaves.pool leaves.part leaves.stations
  refine ⟨t, runs, finishes.completes, ?_, fun closed => ?_, fun opened _ some' _ => ?_, fun y hst hx => ?_⟩
  · rw [leaves.stations]
    refine (places.stranded st).trans ?_
    rw [emptied, if_pos rfl]
  · have station := (moved.queues (by rw [emptied]; exact closed)).1
    rw [emptied] at station
    refine ⟨by rw [station], by rw [station], fun r hr => ?_⟩
    obtain ⟨b, hb⟩ := known r hr
    exact moved.queued (by rw [emptied]; exact closed) hr hb
  · have shows := moved.showsFirst some' (by rw [State.updStation_part, State.fetched_part, ready]; decide)
      (by rw [emptied]; exact opened)
    unfold ShowsFirst at shows
    rw [emptied] at shows
    exact ⟨shows, fun r hr b hb => moved.receives hr hb⟩
  · rw [leaves.stations]
    refine (places.elsewhere y hx).trans ?_
    rw [emptied, if_neg (Ne.symm hst)]

end Sys2Proof.Machine

/-! SUPPORT. O44: the expiry of an ack timer (R105 to R110, R114, R115, R117). -/

namespace Sys2Proof.Machine

variable {s t v : State} {st x : StationId} {y : Station}

-- ## One station record that changes

/-- `v` is `s` with the record `y` for a station, but for the marks. -/
def SetsStation (s v : State) (st : StationId) (y : Station) : Prop :=
  v = { s with stations := s.stations.set st y, marks := v.marks }

theorem State.updStation_sets (st : StationId) (f : Station → Station) (s : State) :
    SetsStation s (s.updStation st f) st (f s.stations[st]) := (rfl)

theorem SetsStation.station (h : SetsStation s v st y) : v.stations[st] = y := by
  rw [h]
  exact getElem_set_fin_self _ _ _

theorem SetsStation.station_ne (h : SetsStation s v st y) (other : x ≠ st) : v.stations[x] = s.stations[x] := by
  rw [h]
  exact getElem_set_fin_ne (Ne.symm other) _ _

theorem SetsStation.updStation (h : SetsStation s v st y) (f : Station → Station) :
    SetsStation s (v.updStation st f) st (f y) := by
  have stations : (v.updStation st f).stations = s.stations.set st (f y) := by
    change v.stations.set st (f v.stations[st]) = _
    rw [h.station, h]
    exact Vector.set_set ..
  have only : v.updStation st f = { v with
    stations := (v.updStation st f).stations, marks := (v.updStation st f).marks } := rfl
  rw [stations] at only
  unfold SetsStation at h ⊢
  rw [only]
  generalize (v.updStation st f).marks = m
  rw [h]

theorem SetsStation.reported (h : SetsStation s v st y) :
    ReportedFrom { s with stations := s.stations.set st y } v.closeEvent := by
  have reported := State.closeEvent_reported v
  unfold SetsStation at h
  unfold ReportedFrom at reported ⊢
  generalize v.closeEvent = w at reported ⊢
  generalize v.marks = m at h
  subst h
  exact reported

theorem SetsStation.port (h : SetsStation s v st y) : v.port = s.port := by rw [h]

theorem SetsStation.straps (h : SetsStation s v st y) : v.straps = s.straps := by rw [h]

theorem SetsStation.pool (h : SetsStation s v st y) : v.pool = s.pool := by rw [h]

theorem SetsStation.part (h : SetsStation s v st y) : v.part = s.part := by rw [h]

theorem SetsStation.faults (h : SetsStation s v st y) : v.faults = s.faults := by rw [h]

theorem SetsStation.overflow (h : SetsStation s v st y) : v.overflow = s.overflow := by rw [h]

/-- A station with another tick mark. -/
def Station.setTick (m : TickMark) (x : Station) : Station := { x with tick := m }

theorem State.setTickMark_sets (m : TickMark) (st : StationId) (s : State) :
    SetsStation s (s.setTickMark m st) st ((s.stations[st]).setTick m) := s.updStation_sets st (Station.setTick m)

-- ## A station that takes its tick

theorem exec_ackTimerExpiry (high : s.rstLow = false) (st : StationId) :
    exec (.ackTimerExpiry st) s = .next (({ s with responses := [] } : State).ackTimerExpiry st).closeEvent :=
  congrArg Host.Outcome.next (State.runLive_high high _)

/-- The tick of a station is taken: owed, or early; then its mark is this (log 16). -/
def TakesTick (s : State) (x : Station) (mark : TickMark) : Prop :=
  (x.tick = .owed ∧ mark = .clear) ∨ (x.tick = .clear ∧ 0 < s.ticksDue ∧ mark = .early)

theorem State.ackTimerExpiry_expires {mark : TickMark} (ready : s.part = .ready)
    (takes : TakesTick s s.stations[st] mark)
    (last : (s.stations[st]).timer = some 1 ∨ (s.stations[st]).timer = some 0) :
    s.ackTimerExpiry st = (s.setTickMark mark st).expire st := by
  unfold State.ackTimerExpiry
  rw [if_pos ready]
  rcases takes with ⟨owed, rfl⟩ | ⟨clear, due, rfl⟩
  · have timer : ((s.setTickMark .clear st).stations[st]).timer = (s.stations[st]).timer := by
      rw [(s.setTickMark_sets .clear st).station]
      rfl
    unfold State.takeOwed
    rw [owed]
    unfold State.takeTick
    rcases last with last | last <;> rw [timer, last] <;> rfl
  · have atLast : (s.stations[st]).atLastTick = true := by
      unfold Station.atLastTick
      rcases last with last | last <;> rw [last] <;> rfl
    have produced : s.tickProduced = true := decide_eq_true due
    rw [clear]
    simp only [produced, atLast, Bool.and_self, if_true]

theorem State.expire_retries (state : (s.stations[st]).state = .opened ∨ (s.stations[st]).state = .paused)
    (room : (s.stations[st]).plan.retryLimit = 0
      ∨ min 255 ((s.stations[st]).retry + 1) < (s.stations[st]).plan.retryLimit) :
    s.expire st = s.updStation st Station.retried := by
  have below : ((s.updStation st Station.retried).stations[st]).atLimit = false := by
    rw [State.updStation_station_self]
    unfold Station.atLimit
    rw [Bool.and_eq_false_iff]
    exact room.imp (fun none => by rw [bne_eq_false_iff_eq]; exact none) fun lower => decide_eq_false (not_le.2 lower)
  unfold State.expire
  rcases state with state | state <;> rw [state] <;> simp only [below] <;> rfl

theorem State.expire_goesDown (state : (s.stations[st]).state = .opened ∨ (s.stations[st]).state = .paused)
    (limited : (s.stations[st]).plan.retryLimit ≠ 0)
    (reached : (s.stations[st]).plan.retryLimit ≤ min 255 ((s.stations[st]).retry + 1)) :
    s.expire st = (s.updStation st Station.retried).goDown st := by
  have full : ((s.updStation st Station.retried).stations[st]).atLimit = true := by
    rw [State.updStation_station_self]
    unfold Station.atLimit
    rw [Bool.and_eq_true, bne_iff_ne]
    exact ⟨limited, decide_eq_true reached⟩
  unfold State.expire
  rcases state with state | state <;> rw [state] <;> simp only [full] <;> rfl

theorem State.expire_down (state : (s.stations[st]).state = .down) :
    s.expire st = s.updStation st (fun x => { x with progress := 0, timer := some x.plan.timeout }) := by
  unfold State.expire
  rw [state]

-- ## The DOWN transition

/-- The record of a station that goes DOWN (R108). -/
def Station.fallen (x : Station) : Station := { x with state := .down, progress := 0 }

/-- A station has become DOWN, with STATION DOWN logged and its condition set, and its work still in place (R108). -/
def State.fallDown (st : StationId) (s : State) : State :=
  ((s.updStation st Station.fallen).recordFault (s.downFault st)).setCondition (fun n => { n with down := true })

/-- What the fall of a station leaves. -/
structure FallsDown (s t : State) (st : StationId) : Prop where
  stations : t.stations = s.stations.set st (s.stations[st]).fallen
  pool : t.pool = s.pool
  part : t.part = s.part
  down : t.conditions.down = true
  logs : Logs s t { reason := .stationDown, source := linkTag st, sub := (s.stations[st]).plan.retryLimit
                    station := st.val }
  marks : (s.updStation st Station.fallen).marks.Grows t.marks
  port : s.port.nextId ≤ t.port.nextId
  straps : t.straps = s.straps

theorem State.fallDown_falls (st : StationId) (s : State) : FallsDown s (s.fallDown st) st := by
  have moves : Moves (fun _ => False) (fun _ => False) (s.updStation st Station.fallen)
      ((s.updStation st Station.fallen).recordFault (s.downFault st)) := State.recordFault_moves rfl
  obtain ⟨-, -, stations, pool, port⟩ := (s.updStation st Station.fallen).recordFault_tables (s.downFault st)
  have logs := (s.updStation st Station.fallen).recordFault_logs (s.downFault st)
  refine ⟨?_, ?_, moves.part, rfl, logs.congr rfl rfl rfl rfl, moves.marks, moves.port.nextId, moves.straps⟩
  · exact stations
  · exact pool

theorem FallsDown.station (h : FallsDown s t st) : t.stations[st] = (s.stations[st]).fallen := by
  rw [h.stations, getElem_set_fin_self]

theorem FallsDown.station_ne (h : FallsDown s t st) (other : x ≠ st) : t.stations[x] = s.stations[x] := by
  rw [h.stations, getElem_set_fin_ne (Ne.symm other)]

/-- The usable backup of a station reads its plan and the states of the others. -/
theorem State.usableBackup_of (plan : (t.stations[st]).plan = (s.stations[st]).plan)
    (others : ∀ x, x ≠ st → t.stations[x] = s.stations[x]) : t.usableBackup st = s.usableBackup st := by
  unfold State.usableBackup
  rw [plan]
  cases (s.stations[st]).plan.backup with
  | none => rfl
  | some b =>
    by_cases own : b = st
    · simp only [own, ne_eq, not_true, false_and, if_false]
    · simp only [others b own]

theorem FallsDown.usableBackup (h : FallsDown s t st) : t.usableBackup st = s.usableBackup st :=
  State.usableBackup_of (by rw [h.station]; rfl) fun _ => h.station_ne

theorem State.goDown_eq (st : StationId) (s : State) : s.goDown st = match s.usableBackup st with
    | some b => (s.fallDown st).moveWork st b
    | none => (s.fallDown st).recordFault ((s.fallDown st).noBackupFault st) := by
  rw [← (State.fallDown_falls st s).usableBackup]
  rfl

theorem State.goDown_stays (none' : s.usableBackup st = none) :
    s.goDown st = (s.fallDown st).recordFault ((s.fallDown st).noBackupFault st) := by
  rw [State.goDown_eq, none']

theorem State.noBackupSub_eq (state : (s.stations[st]).state = .opened ∨ (s.stations[st]).state = .paused) :
    (s.fallDown st).noBackupSub st = match (s.stations[st]).plan.backup with
      | none => 0
      | some y => if (s.stations[y]).state = .closed then 1 else 2 := by
  have falls := State.fallDown_falls st s
  have plan : ((s.fallDown st).stations[st]).plan = (s.stations[st]).plan := by
    rw [falls.station]
    rfl
  unfold State.noBackupSub
  rw [plan]
  cases (s.stations[st]).plan.backup with
  | none => rfl
  | some b =>
    simp only
    by_cases own : b = st
    · subst own
      rw [falls.station, if_neg nofun, if_neg]
      rcases state with state | state <;> rw [state] <;> decide
    · rw [falls.station_ne own]

-- ## The expiry of a station whose tick is taken

theorem SetsStation.writesMirror (h : SetsStation s v st y) {f : Station → Station}
    (changed : (f y).mirrored ≠ y.mirrored) :
    WritesStationMirror s (v.updStation st f).closeEvent st := by
  refine (State.closeEvent_writes (s0 := s) ?_ ?_).2.1 st (State.updStation_marked (by rw [h.station]; exact changed))
  · exact (congrArg MemPort.nextId h.port).ge
  · exact h.straps

theorem SetsStation.retries (h : SetsStation s v st y) (state : y.state = .opened ∨ y.state = .paused)
    (room : y.plan.retryLimit = 0 ∨ min 255 (y.retry + 1) < y.plan.retryLimit) :
    ReportedFrom { s with stations := s.stations.set st y.retried } (v.expire st).closeEvent
      ∧ (y.retry < 255 → WritesStationMirror s (v.expire st).closeEvent st)
      ∧ (v.expire st).closeEvent.alertPattern st = .fast := by
  rw [State.expire_retries (by rw [h.station]; exact state) (by rw [h.station]; exact room)]
  refine ⟨(h.updStation Station.retried).reported, fun below => h.writesMirror fun same => ?_, ?_⟩
  · have retry : min 255 (y.retry + 1) = y.retry := congrArg (fun m => m.2.2.2.2) same
    omega
  · have open' : ¬y.retried.state = .closed := by
      change ¬y.state = .closed
      rcases state with state | state <;> rw [state] <;> decide
    have some' : 0 < y.retried.retry := by
      change 0 < min 255 (y.retry + 1)
      omega
    unfold State.alertPattern
    rw [State.closeEvent_stations, (h.updStation Station.retried).station, if_neg open', if_pos some']

/-- The record of NO BACKUP names why there is none (R117). -/
theorem SetsStation.noBackupFault (h : SetsStation s v st y) (state : y.state = .opened ∨ y.state = .paused)
    (same : y.state = (s.stations[st]).state) :
    (v.fallDown st).noBackupFault st = { reason := .noBackup, source := linkTag st, station := st.val
                                         sub := match y.plan.backup with
                                           | none => 0
                                           | some x => if (s.stations[x]).state = .closed then 1 else 2 } := by
  have states (x : StationId) : (v.stations[x]).state = (s.stations[x]).state := by
    by_cases own : x = st
    · rw [own, h.station, same]
    · rw [h.station_ne own]
  unfold State.noBackupFault
  rw [State.noBackupSub_eq (by rw [h.station]; exact state), h.station]
  cases y.plan.backup with
  | none => rfl
  | some x => simp only [states]

/-- The station goes DOWN with no usable backup: its work stays, and two faults are logged (R108, R110, R117). -/
theorem SetsStation.stays (h : SetsStation s v st y) (state : y.state = .opened ∨ y.state = .paused)
    (same : y.state = (s.stations[st]).state) (plan : y.plan = (s.stations[st]).plan)
    (none' : s.usableBackup st = none) :
    (v.goDown st).closeEvent.stations = s.stations.set st y.fallen
      ∧ (∃ u : State,
          Logs s u { reason := .stationDown, source := linkTag st, sub := y.plan.retryLimit, station := st.val }
          ∧ Logs u (v.goDown st).closeEvent { reason := .noBackup, source := linkTag st, station := st.val
                                              sub := match y.plan.backup with
                                                | none => 0
                                                | some x => if (s.stations[x]).state = .closed then 1 else 2 })
      ∧ (v.goDown st).closeEvent.conditions.down = true ∧ (v.goDown st).closeEvent.pool = s.pool
      ∧ WritesStationMirror s (v.goDown st).closeEvent st := by
  have falls := State.fallDown_falls st v
  have backup : v.usableBackup st = none := by
    rw [State.usableBackup_of (s := s) (by rw [h.station]; exact plan) fun x other => h.station_ne other]
    exact none'
  have open' : (StationState.down : StationState) ≠ y.state := by rcases state with state | state <;> rw [state] <;> decide
  have marked : st ∈ (v.updStation st Station.fallen).marks.stations :=
    State.updStation_marked (Station.mirrored_state (by rw [h.station]; exact open'))
  have fault := h.noBackupFault state same
  rw [State.goDown_stays backup]
  generalize hu : v.fallDown st = u at falls fault ⊢
  have logs := u.recordFault_logs (u.noBackupFault st)
  obtain ⟨-, -, stations, pool, port⟩ := u.recordFault_tables (u.noBackupFault st)
  have moves : Moves (fun _ => False) (fun _ => False) u (u.recordFault (u.noBackupFault st)) :=
    State.recordFault_moves rfl
  refine ⟨?_, ⟨u, ?_, ?_⟩, ?_, ?_, ?_⟩
  · rw [State.closeEvent_stations, stations, falls.stations, h.station, h]
    exact Vector.set_set ..
  · have down := falls.logs
    rw [h.station] at down
    exact down.congr h.faults.symm h.overflow.symm rfl rfl
  · rw [fault] at logs ⊢
    exact logs.congr rfl rfl (State.closeEvent_faults _) (State.closeEvent_overflow _)
  · rw [State.closeEvent_conditions, moves.conditions]
    exact falls.down
  · rw [State.closeEvent_pool, pool, falls.pool, h.pool]
  · refine (State.closeEvent_writes (s0 := s) ?_ ?_).2.1 st (moves.marks.stations st (falls.marks.stations st marked))
    · exact ((congrArg MemPort.nextId h.port).ge.trans falls.port).trans moves.port.nextId
    · exact moves.straps.trans (falls.straps.trans h.straps)

/-- A station that has taken a spared tick: its timer is one lower, or stopped as it was (R114, R115). -/
def Station.spared (x : Station) : Station :=
  { x with tick := .clear, timer := x.timer.map (fun k => k - 1) }

theorem Station.spared_none {x : Station} (h : x.timer = none) : x.spared = x.setTick .clear := by
  unfold Station.spared Station.setTick
  rw [h]
  rfl

theorem Station.spared_some {x : Station} {k : Nat} (h : x.timer = some k) :
    x.spared = { x.setTick .clear with timer := some (k - 1) } := by
  unfold Station.spared Station.setTick
  rw [h]
  rfl

theorem State.sparedTick_sets (st : StationId) (s : State) :
    SetsStation s ((s.setTickMark .clear st).takeSparedTick st) st (s.stations[st]).spared := by
  have marked := s.setTickMark_sets .clear st
  have timer : ((s.setTickMark .clear st).stations[st]).timer = (s.stations[st]).timer := by
    rw [marked.station]
    rfl
  unfold State.takeSparedTick
  rw [timer]
  cases running : (s.stations[st]).timer with
  | none =>
    rw [Station.spared_none running]
    exact marked
  | some k =>
    rw [Station.spared_some running]
    exact marked.updStation (fun x => { x with timer := some (k - 1) })

theorem State.ackTimerExpiry_spared (ready : s.part = .ready) (owed : (s.stations[st]).tick = .owedSpared) :
    s.ackTimerExpiry st = (s.setTickMark .clear st).takeSparedTick st := by
  unfold State.ackTimerExpiry State.takeOwed
  rw [if_pos ready, owed]

/-- Settles O44, by the state of the station. -/
theorem expiryRetriesThenGoesDown : Obligations.ExpiryRetriesThenGoesDown := by
  refine ⟨fun s st x mark high ready hx takes last => ?expires, fun s st x high ready hx spared => ?spared⟩
  case expires =>
    subst hx
    have runs := exec_ackTimerExpiry high st
    rw [State.ackTimerExpiry_expires (s := { s with responses := [] }) (mark := mark) ready takes last] at runs
    have marked := State.setTickMark_sets mark st { s with responses := [] }
    generalize ({ s with responses := [] } : State).setTickMark mark st = u at runs marked
    refine ⟨fun state room => ⟨_, runs, marked.retries state room⟩, fun state limited reached none' => ?_,
      fun state => ?_⟩
    · rw [State.expire_goesDown (by rw [marked.station]; exact state) (by rw [marked.station]; exact limited)
        (by rw [marked.station]; exact reached)] at runs
      exact ⟨_, runs, (marked.updStation Station.retried).stays state rfl rfl none'⟩
    · rw [State.expire_down (by rw [marked.station]; exact state)] at runs
      exact ⟨_, runs, (marked.updStation _).reported⟩
  case spared =>
    subst hx
    have runs := exec_ackTimerExpiry high st
    rw [State.ackTimerExpiry_spared (s := { s with responses := [] }) ready spared] at runs
    exact ⟨_, runs, (State.sparedTick_sets st { s with responses := [] }).reported⟩

end Sys2Proof.Machine

/-! SUPPORT. O45: a station that goes DOWN gives its work to its backup, and returns (R104, R108, R109, R112, R113). -/

namespace Sys2Proof.Machine

variable {s t u v : State} {st b : StationId} {x y : Station}

-- ## The slots of a station that goes DOWN

/-- A station without the batches of some slots. -/
def Station.vacateAll (ks : List SlotId) (x : Station) : Station := ks.foldl (fun x k => x.vacate k) x

theorem Station.vacate_slot (k j : SlotId) (x : Station) :
    (x.vacate k).slots[j] = if j = k then none else x.slots[j] := by
  unfold Station.vacate
  split
  · refine (getElem_set_fin ..).trans ?_
    simp only [eq_comm]
  · next empty =>
    split
    · next same => simpa [same] using empty
    · rfl

theorem Station.vacate_keeps (k : SlotId) (x : Station) :
    x.SameState (x.vacate k) ∧ (x.vacate k).queue = x.queue ∧ (x.vacate k).timer = x.timer := by
  unfold Station.vacate
  split <;> exact ⟨⟨rfl, rfl, rfl, rfl⟩, rfl, rfl⟩

theorem Station.SameState.trans {z : Station} (h : x.SameState y) (g : y.SameState z) : x.SameState z := by
  obtain ⟨state, plan, retry, progress⟩ := h
  obtain ⟨state', plan', retry', progress'⟩ := g
  exact ⟨state'.trans state, plan'.trans plan, retry'.trans retry, progress'.trans progress⟩

theorem Station.vacateAll_keeps (ks : List SlotId) (x : Station) :
    x.SameState (x.vacateAll ks) ∧ (x.vacateAll ks).queue = x.queue
      ∧ ∀ j : SlotId, (x.vacateAll ks).slots[j] = if j ∈ ks then none else x.slots[j] := by
  induction ks generalizing x with
  | nil => exact ⟨⟨rfl, rfl, rfl, rfl⟩, rfl, fun _ => (if_neg List.not_mem_nil).symm⟩
  | cons k ks ih =>
    obtain ⟨state, queue, slots⟩ := ih (x.vacate k)
    obtain ⟨state', queue', -⟩ := x.vacate_keeps k
    refine ⟨state'.trans state, queue.trans queue', fun j => (slots j).trans ?_⟩
    rw [Station.vacate_slot]
    by_cases same : j = k <;> simp [same]

-- ## What a station that gives its work away leaves

/-- Work goes from one station to another, and to no third; no fault is recorded. -/
structure Sheds (st b : StationId) (s t : State) : Prop where
  faults : t.faults = s.faults
  overflow : t.overflow = s.overflow
  conditions : t.conditions = s.conditions
  part : t.part = s.part
  straps : t.straps = s.straps
  nextId : s.port.nextId ≤ t.port.nextId
  marks : s.marks.Grows t.marks
  known : ∀ r, (∃ c, s.batch? r = some c) → ∃ c, t.batch? r = some c
  others : ∀ x, x ≠ st → x ≠ b → t.stations[x] = s.stations[x]

theorem Sheds.refl (s : State) : Sheds st b s s :=
  ⟨rfl, rfl, rfl, rfl, rfl, le_rfl, .refl _, fun _ => id, fun _ _ _ => rfl⟩

theorem Sheds.trans (h : Sheds st b s t) (g : Sheds st b t u) : Sheds st b s u :=
  ⟨g.faults.trans h.faults, g.overflow.trans h.overflow, g.conditions.trans h.conditions, g.part.trans h.part,
    g.straps.trans h.straps, h.nextId.trans g.nextId, h.marks.trans g.marks, fun r => g.known r ∘ h.known r,
    fun x own other => (g.others x own other).trans (h.others x own other)⟩

theorem Places.sheds {P : Nat → Prop} (h : Places P (· = b) s t) : Sheds st b s t :=
  ⟨h.faults, h.overflow, h.conditions, h.part, h.straps, h.port.nextId, h.marks,
    fun r ⟨c, hc⟩ => (h.batches r c hc).imp fun _ => And.left, fun x _ other => h.elsewhere x other⟩

theorem State.updStation_sheds (st b : StationId) (f : Station → Station) (s : State) :
    Sheds st b s (s.updStation st f) :=
  ⟨rfl, rfl, rfl, rfl, rfl, le_rfl, s.updStation_marks st f, fun _ => id,
    fun _ own _ => State.updStation_station_ne s (Ne.symm own) f⟩

theorem State.moveSlot_eq {k : SlotId} {r : Nat} {c : Batch} (h : s.slotBatch st k = some (r, c)) :
    s.moveSlot st b k = (s.updStation st (Station.vacate k)).moveTo r b := by
  unfold State.moveSlot
  rw [h]

theorem State.slotBatch_iff {k : SlotId} {r : Nat} {c : Batch} :
    s.slotBatch st k = some (r, c) ↔ (s.stations[st]).slots[k] = some r ∧ s.batch? r = some c := by
  unfold State.slotBatch State.batch?
  constructor
  · intro h
    split at h
    · exact nomatch h
    · next q slot =>
      split at h
      · exact nomatch h
      · next d batch =>
        obtain ⟨rfl, rfl⟩ := Prod.mk.inj (Option.some.inj h)
        exact ⟨slot, batch⟩
  · rintro ⟨slot, batch⟩
    rw [slot]
    simp only [batch]

theorem State.vacated_moveTo_station (other : b ≠ st) (k : SlotId) (r : Nat) (s : State) :
    ((s.updStation st (Station.vacate k)).moveTo r b).stations[st] = (s.stations[st]).vacate k :=
  ((State.moveTo_places r b).elsewhere st (Ne.symm other)).trans (s.updStation_station_self st _)

/-- The slots of the unread batches are emptied one by one, and their batches move to the backup in slot order (R109). -/
theorem State.moveSlots (other : b ≠ st) {ks : List SlotId} (distinct : ks.Nodup)
    (filled : ∀ k ∈ ks, ∃ r c, s.slotBatch st k = some (r, c)) :
    Sheds st b s (ks.foldl (State.moveSlot st b) s)
      ∧ (ks.foldl (State.moveSlot st b) s).stations[st] = (s.stations[st]).vacateAll ks
      ∧ Hands b (ks.filterMap (fun k => (s.stations[st]).slots[k])) s (ks.foldl (State.moveSlot st b) s) := by
  induction ks generalizing s with
  | nil => exact ⟨.refl s, rfl, .done s⟩
  | cons k ks ih =>
    obtain ⟨r, c, slot⟩ := filled k List.mem_cons_self
    obtain ⟨fresh, distinct⟩ := List.nodup_cons.1 distinct
    have first : Sheds st b s ((s.updStation st (Station.vacate k)).moveTo r b) :=
      (s.updStation_sheds st b _).trans (State.moveTo_places r b).sheds
    have station := State.vacated_moveTo_station other k r s
    have slots (j : SlotId) (hj : j ∈ ks) :
        (((s.updStation st (Station.vacate k)).moveTo r b).stations[st]).slots[j] = (s.stations[st]).slots[j] := by
      rw [station, Station.vacate_slot, if_neg]
      rintro rfl
      exact fresh hj
    have rest := ih (s := (s.updStation st (Station.vacate k)).moveTo r b) distinct fun j hj => by
      obtain ⟨q, d, own⟩ := filled j (List.mem_cons_of_mem _ hj)
      obtain ⟨own, batch⟩ := State.slotBatch_iff.1 own
      obtain ⟨d', batch'⟩ := first.known q ⟨d, batch⟩
      exact ⟨q, d', State.slotBatch_iff.2 ⟨(slots j hj).trans own, batch'⟩⟩
    obtain ⟨sheds, station', hands⟩ := rest
    obtain ⟨own, batch⟩ := State.slotBatch_iff.1 slot
    have same : ks.filterMap (fun j => (((s.updStation st (Station.vacate k)).moveTo r b).stations[st]).slots[j])
        = ks.filterMap (fun j => (s.stations[st]).slots[j]) := List.filterMap_congr slots
    rw [same] at hands
    have listed : (k :: ks).filterMap (fun j => (s.stations[st]).slots[j])
        = r :: ks.filterMap (fun j => (s.stations[st]).slots[j]) := List.filterMap_cons_some own
    rw [List.foldl_cons, State.moveSlot_eq slot, listed]
    refine ⟨first.trans sheds, ?_, ?_⟩
    · rw [station', station]
      rfl
    · exact .apart (u := s.updStation st (Station.vacate k)) rfl rfl (s.updStation_station_ne (Ne.symm other) _)
        (.move ⟨c, batch⟩ hands)

-- ## The DOWN transition with a backup

/-- The slots of a station that hold an unread batch, in order. -/
def State.unreadSlots (s : State) (st : StationId) : List SlotId := (List.finRange 16).filter (fun k => s.slotUnread st k)

theorem State.mem_unreadSlots {k : SlotId} : k ∈ s.unreadSlots st ↔ s.slotUnread st k = true := by
  unfold State.unreadSlots
  rw [List.mem_filter]
  exact and_iff_right (List.mem_finRange k)

theorem State.slotUnread_congr (slots : (t.stations[st]).slots = (s.stations[st]).slots) (pool : t.pool = s.pool)
    (k : SlotId) : t.slotUnread st k = s.slotUnread st k := by
  unfold State.slotUnread State.slotBatch
  rw [slots, pool]

theorem State.unreadSlots_congr (slots : (t.stations[st]).slots = (s.stations[st]).slots) (pool : t.pool = s.pool) :
    t.unreadSlots st = s.unreadSlots st := List.filter_congr fun k _ => State.slotUnread_congr slots pool k

/-- The work of a station: its unread batches in slot order, then its due queue (R109). -/
def State.work (s : State) (st : StationId) : List Nat :=
  (s.unreadSlots st).filterMap (fun k => (s.stations[st]).slots[k]) ++ (s.stations[st]).queue

/-- The record of a station that has given its work away (R104, R109). -/
def Station.emptied (ks : List SlotId) (x : Station) : Station :=
  { x.vacateAll ks with timer := none, prio := [], ordinary := [] }

theorem Station.emptied_keeps (ks : List SlotId) (x : Station) : x.SameState (x.emptied ks)
    ∧ ∀ j : SlotId, (x.emptied ks).slots[j] = if j ∈ ks then none else x.slots[j] :=
  ⟨(x.vacateAll_keeps ks).1, (x.vacateAll_keeps ks).2.2⟩

theorem State.moveWork_gives (other : b ≠ st) (s : State) : Sheds st b s (s.moveWork st b)
    ∧ (s.moveWork st b).stations[st] = (s.stations[st]).emptied (s.unreadSlots st)
    ∧ (s.Knows (s.stations[st]).queue → Hands b (s.work st) s (s.moveWork st b)) := by
  obtain ⟨sheds, station, hands⟩ := State.moveSlots (ks := s.unreadSlots st) other
    ((List.nodup_finRange 16).filter _) fun k hk => by
      obtain ⟨r, c, slot, -⟩ := (s.slotUnread_iff st k).1 (State.mem_unreadSlots.1 hk)
      exact ⟨r, c, slot⟩
  have queue := ((s.stations[st]).vacateAll_keeps (s.unreadSlots st)).2.1
  have moves : s.moveWork st b = (((s.unreadSlots st).foldl (State.moveSlot st b) s).updStation st
      (fun x => { x with timer := none, prio := [], ordinary := [] })).moveAll (s.stations[st]).queue b := by
    rw [← queue, ← station]
    rfl
  rw [moves]
  generalize (s.unreadSlots st).foldl (State.moveSlot st b) s = u at sheds station hands
  refine ⟨(sheds.trans (u.updStation_sheds st b _)).trans (State.moveAll_places _ b _).sheds, ?_, fun known => ?_⟩
  · rw [(State.moveAll_places _ b _).elsewhere st (Ne.symm other), State.updStation_station_self, station]
    rfl
  · refine hands.append (.apart (u := u.updStation st (fun x => { x with timer := none, prio := [], ordinary := [] }))
      rfl rfl (u.updStation_station_ne (Ne.symm other) _) (State.moveAll_hands fun r hr => ?_))
    exact sheds.known r (known r hr)

/-- What a station that goes DOWN with a usable backup leaves, and what its backup has received (R108, R109, R117). -/
structure GivesWork (s t : State) (st b : StationId) : Prop where
  falls : ∃ u, FallsDown s u st ∧ Sheds st b u t
  station : t.stations[st] = ((s.stations[st]).fallen).emptied (s.unreadSlots st)
  hands : s.Knows (s.stations[st]).queue → Hands b (s.work st) s t

theorem State.goDown_gives (usable : s.usableBackup st = some b) : GivesWork s (s.goDown st) st b := by
  obtain ⟨other, -⟩ := State.usableBackup_some usable
  have falls := State.fallDown_falls st s
  have eq : s.goDown st = (s.fallDown st).moveWork st b := by rw [State.goDown_eq, usable]
  rw [eq]
  generalize s.fallDown st = u at falls
  obtain ⟨sheds, station, hands⟩ := u.moveWork_gives other
  have slots : (u.stations[st]).slots = (s.stations[st]).slots := by rw [falls.station]; rfl
  have unread := State.unreadSlots_congr slots falls.pool
  have queue : (u.stations[st]).queue = (s.stations[st]).queue := by rw [falls.station]; rfl
  have work : u.work st = s.work st := by
    unfold State.work
    rw [unread, slots, queue]
  refine ⟨⟨u, falls, sheds⟩, ?_, fun known => ?_⟩
  · rw [station, unread, falls.station]
  · rw [work, queue] at hands
    exact .apart falls.pool falls.part (falls.station_ne other) (hands fun r hr => by
      rw [State.batch_congr falls.pool]
      exact known r hr)

section
variable (h : GivesWork s t st b)
include h

theorem GivesWork.fell : (t.stations[st]).state = .down ∧ (t.stations[st]).queue = [] ∧ (t.stations[st]).timer = none
    ∧ (t.stations[st]).progress = 0 ∧ (t.stations[st]).retry = (s.stations[st]).retry
    ∧ ∀ k : SlotId, (t.stations[st]).slots[k] = if s.slotUnread st k = true then none else (s.stations[st]).slots[k] := by
  obtain ⟨⟨state, -, retry, progress⟩, slots⟩ := ((s.stations[st]).fallen).emptied_keeps (s.unreadSlots st)
  rw [h.station]
  refine ⟨state, rfl, rfl, progress, retry, fun k => (slots k).trans ?_⟩
  simp only [State.mem_unreadSlots]
  rfl

theorem GivesWork.tells : t.conditions.down = true ∧ Logs s t
    { reason := .stationDown, source := linkTag st, sub := (s.stations[st]).plan.retryLimit, station := st.val } := by
  obtain ⟨u, falls, sheds⟩ := h.falls
  exact ⟨by rw [sheds.conditions, falls.down], falls.logs.congr rfl rfl sheds.faults sheds.overflow⟩

theorem GivesWork.others {y : StationId} (own : y ≠ st) (other : y ≠ b) : t.stations[y] = s.stations[y] := by
  obtain ⟨u, falls, sheds⟩ := h.falls
  exact (sheds.others y own other).trans (falls.station_ne own)

end

-- ## The return

theorem State.countReturn_counts (down : (s.stations[st]).state = .down)
    (below : (s.stations[st]).progress + 1 < (s.stations[st]).plan.returnCount) :
    s.countReturn st = s.updStation st (fun x => { x with progress := x.progress + 1 }) := by
  unfold State.countReturn
  rw [if_pos down, if_neg (not_le.2 below)]

theorem State.countReturn_returns (down : (s.stations[st]).state = .down)
    (reached : (s.stations[st]).plan.returnCount ≤ (s.stations[st]).progress + 1) :
    s.countReturn st = s.returnOpen st := by
  unfold State.countReturn
  rw [if_pos down, if_pos reached]

/-- A station that returns is OPEN, with its counts at 0, and shows what it can (R113). -/
theorem State.returnOpen_opens (st : StationId) (s : State) : ((s.returnOpen st).stations[st]).state = .opened
    ∧ ((s.returnOpen st).stations[st]).retry = 0 ∧ ((s.returnOpen st).stations[st]).progress = 0
    ∧ (s.returnOpen st).showing st = false := by
  obtain ⟨⟨state, -, retry, progress⟩, showing, -⟩ :=
    State.setAndShow st (fun x => { x with state := .opened, retry := 0, progress := 0 }) s
  exact ⟨state, retry, progress, showing⟩

-- ## The statement

/-- The record of a station whose owed tick is taken and whose ack timer has expired once more. -/
def Station.expired (x : Station) : Station := (x.setTick .clear).retried

theorem exec_ackTimerExpiry_down (high : s.rstLow = false) (ready : s.part = .ready)
    (owed : (s.stations[st]).tick = .owed) (last : (s.stations[st]).timer = some 1)
    (state : (s.stations[st]).state = .opened ∨ (s.stations[st]).state = .paused)
    (limited : (s.stations[st]).plan.retryLimit ≠ 0)
    (reached : (s.stations[st]).plan.retryLimit ≤ min 255 ((s.stations[st]).retry + 1)) :
    ∃ v, SetsStation { s with responses := [] } v st (s.stations[st]).expired
      ∧ exec (.ackTimerExpiry st) s = .next (v.goDown st).closeEvent := by
  have runs := exec_ackTimerExpiry high st
  rw [State.ackTimerExpiry_expires (s := { s with responses := [] }) (mark := .clear) ready (.inl ⟨owed, rfl⟩)
    (.inl last)] at runs
  have marked := State.setTickMark_sets .clear st { s with responses := [] }
  generalize ({ s with responses := [] } : State).setTickMark .clear st = u at runs marked
  rw [State.expire_goesDown (by rw [marked.station]; exact state) (by rw [marked.station]; exact limited)
    (by rw [marked.station]; exact reached)] at runs
  exact ⟨_, marked.updStation Station.retried, runs⟩

/-- Settles O45: the DOWN transition by itself, the return, and the expiry that leads to the transition. -/
theorem downMovesTheWorkAndReturns : Obligations.DownMovesTheWorkAndReturns := by
  refine ⟨fun s st backup usable => ?down, fun s st down => ⟨fun below => ?counts, fun reached => ?returns⟩, ?expiry⟩
  case down =>
    have gives := State.goDown_gives usable
    obtain ⟨state, queue, timer, -, -, slots⟩ := gives.fell
    obtain ⟨condition, logs⟩ := gives.tells
    refine ⟨state, queue, timer, condition, logs, slots, fun paused known => ?_, fun y => gives.others⟩
    rw [((gives.hands known).queues (by rw [paused]; decide)).1]
    exact (List.append_assoc ..).symm
  case counts =>
    rw [State.countReturn_counts down below, State.updStation_station_self]
  case returns =>
    rw [State.countReturn_returns down reached]
    exact State.returnOpen_opens st s
  case expiry =>
    intro s st backup x y work high ready hx hy owed last state limited reached usable hwork known
    subst hx hy
    obtain ⟨other, -⟩ := State.usableBackup_some usable
    obtain ⟨v, sets, runs⟩ := exec_ackTimerExpiry_down high ready owed last state limited reached
    have usable' : v.usableBackup st = some backup := by
      rw [State.usableBackup_of (s := s) (by rw [sets.station]; rfl) fun z => sets.station_ne]
      exact usable
    have gives := State.goDown_gives usable'
    have slots : (v.stations[st]).slots = (s.stations[st]).slots := by rw [sets.station]; rfl
    have work' : v.work st = work := by
      rw [hwork]
      unfold State.work
      rw [State.unreadSlots_congr slots sets.pool, sets.station]
      rfl
    have hands : Hands backup work s (v.goDown st).closeEvent := by
      have queue : v.Knows (v.stations[st]).queue := fun r hr => by
        rw [State.batch_congr sets.pool]
        refine known r ?_
        rw [← work']
        exact List.mem_append_right _ hr
      rw [← work']
      exact .apart sets.pool sets.part (sets.station_ne other) ((gives.hands queue).ends
        (State.closeEvent_pool _) (State.closeEvent_part _) (State.closeEvent_stations _))
    obtain ⟨u, falls, sheds⟩ := gives.falls
    obtain ⟨state', queue', timer', progress', retry', slots'⟩ := gives.fell
    obtain ⟨condition, logs⟩ := gives.tells
    have marked : st ∈ (v.updStation st Station.fallen).marks.stations := by
      refine State.updStation_marked (Station.mirrored_state ?_)
      rw [sets.station]
      change StationState.down ≠ (s.stations[st]).state
      rcases state with state | state <;> rw [state] <;> decide
    rw [sets.station] at retry' logs
    refine ⟨_, runs, ?_⟩
    rw [State.closeEvent_stations, State.closeEvent_conditions]
    refine ⟨state', retry', queue', timer', progress', fun k => ?_, condition, ?_, ?_, fun paused => ?_, fun none => ?_,
      fun opened some' _ _ => ?_, fun z own other' => ?_⟩
    · rw [slots', State.slotUnread_congr slots sets.pool, slots]
    · exact logs.congr sets.faults.symm sets.overflow.symm (State.closeEvent_faults _) (State.closeEvent_overflow _)
    · refine (State.closeEvent_writes (s0 := s) ?_ ?_).2.1 st (sheds.marks.stations st (falls.marks.stations st marked))
      · exact ((congrArg MemPort.nextId sets.port).ge.trans falls.port).trans sheds.nextId
      · exact sheds.straps.trans (falls.straps.trans sets.straps)
    · have closed : (s.stations[backup]).state ≠ .opened := by rw [paused]; decide
      have station := (hands.queues closed).1
      rw [State.closeEvent_stations] at station
      refine ⟨by rw [station], by rw [station], fun r hr => ?_⟩
      obtain ⟨c, hc⟩ := known r hr
      exact hands.queued closed hr hc
    · subst none
      have rests := hands.rests
      rw [State.closeEvent_stations] at rests
      exact rests
    · exact ⟨hands.showsFirst some' (by rw [ready]; decide) opened, fun r hr c hc => hands.receives hr hc⟩
    · exact (gives.others own other').trans (sets.station_ne own)

end Sys2Proof.Machine

/-! SUPPORT. O49: a tick at the ack timers (R105, R114, R115). -/

namespace Sys2Proof.Machine

variable {s t : State} {st : StationId}

-- ## One ack timer

/-- What a tick makes of a station record (R105, R114, R115). -/
def Station.lowered (x : Station) : Station :=
  if x.tick = .early then { x with tick := .clear }
  else if x.tick = .spared then { x with tick := .clear, timer := x.timer.map (fun k => k - 1) }
  else match x.timer with
    | none => x
    | some k => if k ≤ 1 then { x with tick := .owed } else { x with timer := some (k - 1) }

theorem Station.lowered_none {x : Station} (early : x.tick ≠ .early) (spared : x.tick ≠ .spared) (h : x.timer = none) :
    x.lowered = x := by
  unfold Station.lowered
  rw [if_neg early, if_neg spared, h]

theorem Station.lowered_some {x : Station} {k : Nat} (early : x.tick ≠ .early) (spared : x.tick ≠ .spared)
    (h : x.timer = some k) : x.lowered = if k ≤ 1 then { x with tick := .owed } else { x with timer := some (k - 1) } := by
  unfold Station.lowered
  rw [if_neg early, if_neg spared, h]

theorem SetsStation.refl (st : StationId) (s : State) : SetsStation s s st s.stations[st] := by
  have same : s.stations.set st s.stations[st] = s.stations := Vector.set_getElem_self st.isLt
  unfold SetsStation
  rw [same]

theorem State.lowerTimer_sets (st : StationId) (s : State) : SetsStation s (s.lowerTimer st) st
    (s.stations[st]).lowered := by
  have runs (early : (s.stations[st]).tick ≠ .early) (spared : (s.stations[st]).tick ≠ .spared) :
      SetsStation s (match (s.stations[st]).timer with
        | none => s
        | some n => if n ≤ 1 then s.setTickMark .owed st else s.updStation st (fun x => { x with timer := some (n - 1) }))
        st (s.stations[st]).lowered := by
    cases timer : (s.stations[st]).timer with
    | none =>
      rw [Station.lowered_none early spared timer]
      exact .refl st s
    | some k =>
      rw [Station.lowered_some early spared timer]
      simp only
      split
      · exact s.updStation_sets st _
      · exact s.updStation_sets st _
  unfold State.lowerTimer
  split
  · next early =>
    rw [show (s.stations[st]).lowered = (s.stations[st]).setTick .clear from if_pos early]
    exact s.setTickMark_sets .clear st
  · next spared =>
    rw [show (s.stations[st]).lowered = (s.stations[st]).spared by
      unfold Station.lowered
      rw [if_neg (by rw [spared]; decide), if_pos spared]
      rfl]
    exact s.sparedTick_sets st
  · next clear => exact runs (by rw [clear]; decide) (by rw [clear]; decide)
  · next owed => exact runs (by rw [owed]; decide) (by rw [owed]; decide)
  · next owed => exact runs (by rw [owed]; decide) (by rw [owed]; decide)

-- ## All of them

/-- `t` is `s` but for the station records and the marks. -/
def SetsStations (s t : State) : Prop := t = { s with stations := t.stations, marks := t.marks }

theorem SetsStation.stations {y : Station} (h : SetsStation s t st y) : SetsStations s t := by
  unfold SetsStations
  rw [h]

theorem SetsStations.trans {u : State} (h : SetsStations s t) (g : SetsStations t u) : SetsStations s u := by
  unfold SetsStations at h g ⊢
  generalize u.stations = stations, u.marks = marks at g ⊢
  subst g
  generalize t.stations = stations', t.marks = marks' at h
  subst h
  rfl

theorem State.lowerTimers_foldl {l : List StationId} (distinct : l.Nodup) :
    SetsStations s (l.foldl State.lowerTimer s) ∧ ∀ st : StationId,
      (l.foldl State.lowerTimer s).stations[st] = if st ∈ l then (s.stations[st]).lowered else s.stations[st] := by
  induction l generalizing s with
  | nil => exact ⟨rfl, fun st => (if_neg List.not_mem_nil).symm⟩
  | cons a l ih =>
    obtain ⟨fresh, distinct⟩ := List.nodup_cons.1 distinct
    have first := s.lowerTimer_sets a
    obtain ⟨rest, stations⟩ := ih (s := s.lowerTimer a) distinct
    refine ⟨first.stations.trans rest, fun st => (stations st).trans ?_⟩
    by_cases same : st = a
    · subst same
      rw [if_neg fresh, first.station, if_pos List.mem_cons_self]
    · rw [first.station_ne same]
      simp only [List.mem_cons, same, false_or]

theorem State.lowerTimers_lowers (s : State) : SetsStations s s.lowerTimers
    ∧ ∀ st : StationId, s.lowerTimers.stations[st] = (s.stations[st]).lowered := by
  obtain ⟨sets, stations⟩ := State.lowerTimers_foldl (s := s) (List.nodup_finRange 32)
  exact ⟨sets, fun st => (stations st).trans (if_pos (List.mem_finRange st))⟩

-- ## The tick

theorem State.firedCourses_none (h : ∀ c : CourseId, (s.courses[c]).state ≠ .fired) : s.firedCourses = [] := by
  refine List.filter_eq_nil_iff.2 fun c _ => ?_
  rw [beq_iff_eq]
  exact h c

theorem State.dueBatches_none {p : CourseId → Bool} (h : ∀ c, p c = false) : s.dueBatches p = [] := by
  refine List.flatMap_eq_nil_iff.2 fun e _ => ?_
  rw [h, if_neg Bool.false_ne_true]

/-- With no FIRED course a tick does nothing at the Course Table (R53). -/
theorem State.courseTick_idle (h : ∀ c : CourseId, (s.courses[c]).state ≠ .fired) : s.courseTick = s := by
  have releases : s.release (s.dueBatches (fun c => decide (c ∈ ([] : List CourseId)))) = s := by
    rw [State.dueBatches_none (p := fun c => decide (c ∈ ([] : List CourseId))) fun _ => rfl]
    rfl
  have passes : s.passAll [] = s := if_neg (by rw [State.passIsBoundary, List.any_nil, Bool.and_false]; decide)
  unfold State.courseTick
  rw [State.firedCourses_none h]
  exact (congrArg (State.passAll []) releases).trans passes

/-- A tick is paid by no station that owes none (log 16). -/
theorem State.payTicks_idle {l : List StationId} (h : ∀ st : StationId, (s.stations[st]).owes = false) :
    l.foldl State.payTick s = s := by
  induction l with
  | nil => rfl
  | cons a l ih =>
    rw [List.foldl_cons, State.payTick, if_neg (Bool.eq_false_iff.1 (h a))]
    exact ih

theorem State.owes_false {x : Station} (owed : x.tick ≠ .owed) (spared : x.tick ≠ .owedSpared) : x.owes = false := by
  unfold Station.owes
  rw [Bool.or_eq_false_iff, beq_eq_false_iff_ne, beq_eq_false_iff_ne]
  exact ⟨owed, spared⟩

/-- TICK while the part is READY, when every owed tick has been taken. -/
theorem exec_tick (order : TickOrder) (high : s.rstLow = false) (due : s.ticksDue ≠ 0) (ready : s.part = .ready)
    (owes : ∀ st : StationId, (s.stations[st]).owes = false) : exec (.tick order) s
      = .next (({ s with responses := [], ticksDue := s.ticksDue - 1 } : State).takersTick order).closeEvent := by
  have starts : (s.rstLow || s.part != .ready || s.ticksDue == 0) = false := by
    rw [high, ready, Bool.false_or, Bool.or_eq_false_iff, beq_eq_false_iff_ne]
    exact ⟨rfl, due⟩
  have ticks : ({ s with responses := [] } : State).tick order
      = ({ s with responses := [], ticksDue := s.ticksDue - 1 } : State).takersTick order := by
    unfold State.tick
    exact (if_neg due).trans (if_pos ready)
  refine congrArg Host.Outcome.next ?_
  rw [starts, if_neg Bool.false_ne_true, State.payTicks_idle (s := { s with responses := [] }) owes]
  refine congrArg State.closeEvent (Eq.trans ?_ ticks)
  exact if_neg (by rw [high]; decide)

theorem SetsStations.reported (h : SetsStations s t) :
    ReportedFrom { s with stations := t.stations } t.closeEvent := by
  have reported := State.closeEvent_reported t
  unfold SetsStations at h
  unfold ReportedFrom at reported ⊢
  generalize t.closeEvent = w at reported ⊢
  generalize t.stations = stations, t.marks = marks at h ⊢
  subst h
  exact reported

theorem SetsStations.courses (h : SetsStations s t) : t.courses = s.courses := by
  have same := congrArg State.courses h
  exact same

/-- With no FIRED course either order of the takers leaves what the ack timers do (R67). -/
theorem State.takersTick_idle (order : TickOrder) (h : ∀ c : CourseId, (s.courses[c]).state ≠ .fired) :
    s.takersTick order = s.lowerTimers := by
  cases order with
  | coursesFirst => exact congrArg State.lowerTimers (State.courseTick_idle h)
  | timersFirst =>
    have same := s.lowerTimers_lowers.1.courses
    change s.lowerTimers.courseTick = s.lowerTimers
    generalize s.lowerTimers = u at same ⊢
    refine State.courseTick_idle ?_
    rw [same]
    exact h

/-- Settles O49: the Course Table is idle, so either order of the takers leaves what the ack timers do. -/
theorem tickLowersTimers : Obligations.TickLowersTimers := by
  intro s order high due ready none' owed
  have runs := exec_tick order high due ready fun st => State.owes_false (owed st).1 (owed st).2
  have takers := State.takersTick_idle (s := { s with responses := [], ticksDue := s.ticksDue - 1 }) order none'
  rw [takers] at runs
  obtain ⟨sets, stations⟩ := State.lowerTimers_lowers { s with responses := [], ticksDue := s.ticksDue - 1 }
  refine ⟨_, runs, ?_, fun st => ?_⟩
  · rw [State.closeEvent_stations]
    exact sets.reported
  · rw [State.closeEvent_stations, stations]
    rfl

end Sys2Proof.Machine

/-! SUPPORT. O30 and O31: AMEND of RUSH and of STATION (R23, R24). -/

namespace Sys2Proof.Machine

section
variable {s t u : State}

-- ## Batches that change one by one

/-- `t` is `s` but for the batch records. -/
def SetsPool (s t : State) : Prop := t = { s with pool := t.pool }

theorem SetsPool.refl (s : State) : SetsPool s s := rfl

theorem SetsPool.trans (h : SetsPool s t) (g : SetsPool t u) : SetsPool s u := by
  unfold SetsPool at h g ⊢
  generalize u.pool = pool at g ⊢
  subst g
  generalize t.pool = pool' at h
  subst h
  rfl

theorem SetsPool.rest (h : SetsPool s t) :
    t.intake = s.intake ∧ t.part = s.part ∧ t.conditions.notify = s.conditions.notify := by
  have eq : t = { s with pool := t.pool } := h
  exact ⟨(congrArg State.intake eq).trans rfl, (congrArg State.part eq).trans rfl,
    (congrArg (fun u => u.conditions.notify) eq).trans rfl⟩

theorem State.updBatch_setsPool (r : Nat) (f : Batch → Batch) (s : State) : SetsPool s (s.updBatch r f) := (rfl)

theorem State.updBatch_batch (s : State) (r q : Nat) (f : Batch → Batch) :
    (s.updBatch r f).batch? q = if q = r then (s.batch? q).map f else s.batch? q := by
  split
  · next same => rw [same, State.updBatch_batch_self]
  · next other => exact s.updBatch_batch_ne other f

/-- What a step that changes the record of one batch, of those that pass a test, does to the records. -/
def ChangesBatch (step : State → Nat → State) (ok : Batch → Prop) (g : Batch → Batch) : Prop :=
  ∀ (s : State) (a : Nat), (∀ b, s.batch? a = some b → ok b) →
    SetsPool s (step s a) ∧ ∀ r, (step s a).batch? r = if r = a then (s.batch? r).map g else s.batch? r

theorem ChangesBatch.stands {s : State} {a : Nat} {b : Batch} {g : Batch → Batch} (hb : s.batch? a = some b)
    (same : g b = b) : SetsPool s s ∧ ∀ r, s.batch? r = if r = a then (s.batch? r).map g else s.batch? r := by
  refine ⟨.refl s, fun r => ?_⟩
  split
  · next own => rw [own, hb, Option.map_some, same]
  · rfl

theorem ChangesBatch.unknown {s : State} {a : Nat} {g : Batch → Batch} (none' : s.batch? a = none) :
    SetsPool s s ∧ ∀ r, s.batch? r = if r = a then (s.batch? r).map g else s.batch? r := by
  refine ⟨.refl s, fun r => ?_⟩
  split
  · next own => rw [own, none', Option.map_none]
  · rfl

theorem ChangesBatch.updates {s : State} {a : Nat} {b : Batch} {f g : Batch → Batch} (hb : s.batch? a = some b)
    (same : g b = f b) : SetsPool s (s.updBatch a f)
      ∧ ∀ r, (s.updBatch a f).batch? r = if r = a then (s.batch? r).map g else s.batch? r := by
  refine ⟨s.updBatch_setsPool a f, fun r => (s.updBatch_batch a r f).trans ?_⟩
  split
  · next own => rw [own, hb, Option.map_some, Option.map_some, same]
  · rfl

/-- The records that a list of changes leaves, as one change under a test. -/
theorem map_if_mem {l : List Nat} {r : Nat} (o : Option Batch) (p : Batch → Prop) [DecidablePred p] {f g : Batch → Batch}
    (h : ∀ b, g b = if p b then f b else b) :
    (if r ∈ l then o.map g else o) = o.map (fun b => if r ∈ l ∧ p b then f b else b) := by
  split
  · next mem => exact congrArg (fun k => o.map k) (funext fun b => by simp only [h, mem, true_and])
  · next out =>
    have same : (fun b : Batch => if r ∈ l ∧ p b then f b else b) = id := funext fun b => if_neg fun both => out both.1
    rw [same, Option.map_id]
    rfl

theorem ChangesBatch.foldl {step : State → Nat → State} {ok : Batch → Prop} {g : Batch → Batch}
    (h : ChangesBatch step ok g) (again : ∀ b, g (g b) = g b) (keeps : ∀ b, ok b → ok (g b)) {l : List Nat}
    (all : ∀ r ∈ l, ∀ b, s.batch? r = some b → ok b) : SetsPool s (l.foldl step s)
      ∧ ∀ r, (l.foldl step s).batch? r = if r ∈ l then (s.batch? r).map g else s.batch? r := by
  induction l generalizing s with
  | nil => exact ⟨.refl s, fun _ => (if_neg List.not_mem_nil).symm⟩
  | cons a l ih =>
    obtain ⟨first, batches⟩ := h s a (all a List.mem_cons_self)
    obtain ⟨rest, batches'⟩ := ih (s := step s a) fun r hr b hb => by
      rw [batches] at hb
      split at hb
      · obtain ⟨c, hc, rfl⟩ := Option.map_eq_some_iff.1 hb
        exact keeps c (all r (List.mem_cons_of_mem _ hr) c hc)
      · exact all r (List.mem_cons_of_mem _ hr) b hb
    refine ⟨first.trans rest, fun r => ?_⟩
    have twice : ((s.batch? r).map g).map g = (s.batch? r).map g := by
      rw [Option.map_map]
      exact congrArg (fun f => (s.batch? r).map f) (funext again)
    rw [List.foldl_cons, batches', batches]
    by_cases same : r = a <;> by_cases mem : r ∈ l <;> simp [same, mem] <;> simp_all

-- ## The row of an AMEND that is applied

theorem exec_amendApplies {f : AmendField} {n : Bool} {line value : BitVec 16} {e : Nat} {k : Ticket}
    (ready : s.part = .ready) (returns : s.EntryReturns n (.amend f line.toNat value.toNat))
    (inside : line.toNat < s.lineCount) (entry : s.entryOfLine? line.toNat = some (e, k))
    (good : s.amendValueOk f k value.toNat = true) (fresh : k.voided = false) :
    ∃ id, ∀ status result u, (s.fetched id).amendApply line.toNat e k f value.toNat = (.ended status result, u) →
      u.intake = s.intake → u.part = s.part → u.conditions.notify = s.conditions.notify →
      ∃ t, exec (amendRow f n line value) s = .next t ∧ Finishes s u t n status result := by
  obtain ⟨id, finishes⟩ := State.takeAs_finishes returns (s.takesEntries_of_ready ready)
  refine ⟨id, fun status result u applies intake part notify =>
    ⟨_, exec_amendRow f n line value s, finishes status result u ?_ intake part notify⟩⟩
  have good' : (s.fetched id).amendValueOk f k value.toNat = true := good
  refine (State.judge_ready (s := s.fetched id) (c := .amend f line.toNat value.toNat) ready nofun).trans ?_
  refine (State.amendCommand_entry (s := s.fetched id) inside entry).trans ?_
  rw [good', fresh]
  exact applies

/-- A list of batch records that a command has changed beside a ticket, seen from the state before. -/
theorem SetsPool.ends {v : State} {n : Bool} {status : Status} {result e id : Nat} {f : Ticket → Ticket}
    (sets : SetsPool ((s.fetched id).updTicket e f) v) (h : Finishes s v t n status result) :
    EndsWith s { s with tickets := Table.update e f s.tickets, pool := t.pool } t n status result := by
  refine ⟨h.completes, h.leaves.rebase ?_⟩
  rw [h.leaves.pool]
  unfold SetsPool at sets
  unfold SameTables
  generalize v.pool = pool at sets ⊢
  subst sets
  rfl

end

-- ## RUSH

/-- RUSH of a PLANNED batch (R23). -/
def Batch.setRush (v : Bool) (b : Batch) : Batch := if b.state = .planned then { b with rush := v } else b

theorem State.rushBatch_changes (v : Bool) : ChangesBatch (State.rushBatch v) (fun b => b.state ≠ .due)
    (Batch.setRush v) := by
  intro s a ok
  unfold State.rushBatch
  split
  · next b hb =>
    have ok' := ok b hb
    split
    · next planned => exact ChangesBatch.updates hb (if_pos planned)
    · next due => exact absurd due ok'
    all_goals
      next state => exact ChangesBatch.stands hb (if_neg (by rw [state]; nofun))
  · next none' => exact ChangesBatch.unknown none'

theorem Batch.setRush_setRush (v : Bool) (b : Batch) : (b.setRush v).setRush v = b.setRush v := by
  unfold Batch.setRush
  split <;> simp_all

theorem Batch.setRush_state (v : Bool) (b : Batch) : (b.setRush v).state = b.state := by
  unfold Batch.setRush
  split <;> rfl

/-- A DUE batch leaves its queue and joins the part that its flags name; a station that did not show, shows not (R23). -/
theorem State.rushBatch_due {s : State} {r : Nat} {b : Batch} {v : Bool} (hb : s.batch? r = some b)
    (due : b.state = .due) (queued : r ∈ (s.stations[b.target]).queue) (rests : s.showing b.target = false) :
    s.rushBatch v r = (s.updBatch r (fun x => { x with rush := v })).updStation b.target
      (fun x => (x.unqueue r).join r (v || b.moved)) := by
  have station : ((s.updBatch r (fun x => { x with rush := v })).updStation b.target
      (fun x => (x.unqueue r).join r (v || b.moved))).stations[b.target]
        = ((s.stations[b.target]).unqueue r).join r (v || b.moved) := State.updStation_station_self _ _ _
  have quiet : ((s.updBatch r (fun x => { x with rush := v })).updStation b.target
      (fun x => (x.unqueue r).join r (v || b.moved))).showing b.target = false := by
    refine Bool.eq_false_iff.2 fun shows => Bool.eq_false_iff.1 rests ?_
    obtain ⟨part, state, -, room, slot⟩ := (State.showing_iff _ _).1 shows
    obtain ⟨⟨state', plan, -, -⟩, -, slots, tokens⟩ :=
      Station.join_sameState ((s.stations[b.target]).unqueue r) r (v || b.moved)
    rw [station, state'] at state
    rw [station, plan, tokens] at room
    rw [station, slots] at slot
    exact (s.showing_iff b.target).2 ⟨part, state, List.ne_nil_of_mem queued, room, slot⟩
  unfold State.rushBatch
  rw [hb]
  simp only [due]
  exact State.checkShow_idle quiet

/-- Settles O30. -/
theorem amendRushReplaces : Obligations.AmendRushReplaces := by
  intro s n line value e k ready returns inside entry small fresh
  have good : s.amendValueOk .rush k value.toNat = true := decide_eq_true small
  obtain ⟨id, row⟩ := exec_amendApplies ready returns inside entry good fresh
  refine ⟨fun none' => ?_, fun r b only hb due queued rests => ?_⟩
  · have changes := (State.rushBatch_changes (value.toNat == 1)).foldl
      (s := (s.fetched id).updTicket e (fun x => x.amended .rush value.toNat)) (l := k.batches)
      (Batch.setRush_setRush _) (fun b ok => by rw [Batch.setRush_state]; exact ok) none'
    obtain ⟨sets, batches⟩ := changes
    obtain ⟨intake, part, notify⟩ := sets.rest
    obtain ⟨t, runs, finishes⟩ := row _ _ _ rfl intake part notify
    refine ⟨t, runs, sets.ends finishes, fun r => ?_⟩
    rw [State.batch_congr finishes.leaves.pool, batches]
    exact map_if_mem (s.batch? r) (fun b => b.state = .planned) fun b => rfl
  · have applies : (s.fetched id).amendApply line.toNat e k .rush value.toNat = (.ended .done 0,
        (((s.fetched id).updTicket e (fun x => x.amended .rush value.toNat)).updBatch r
          (fun x => { x with rush := value.toNat == 1 })).updStation b.target
            (fun x => (x.unqueue r).join r (value.toNat == 1 || b.moved))) := by
      unfold State.amendApply
      rw [only]
      exact congrArg (fun u => (CommandEnd.ended .done 0, u)) (State.rushBatch_due
        (s := (s.fetched id).updTicket e (fun x => x.amended .rush value.toNat)) hb due queued rests)
    obtain ⟨t, runs, finishes⟩ := row _ _ _ applies rfl rfl rfl
    refine ⟨t, runs, finishes.completes, ?_, ?_, fun st other => ?_⟩
    · rw [State.batch_congr finishes.leaves.pool, State.updStation_batch, State.updBatch_batch_self]
      exact congrArg (Option.map _) hb
    · rw [finishes.leaves.stations]
      exact State.updStation_station_self _ _ _
    · rw [finishes.leaves.stations]
      exact State.updStation_station_ne _ (Ne.symm other) _

-- ## STATION

/-- STATION of a PLANNED regular batch (R24). -/
def Batch.retarget (st : StationId) (b : Batch) : Batch :=
  if b.state = .planned ∧ b.kind = .regular then { b with target := st } else b

theorem Batch.retarget_retarget (st : StationId) (b : Batch) : (b.retarget st).retarget st = b.retarget st := by
  unfold Batch.retarget
  split <;> simp_all

theorem Batch.retarget_keeps (st : StationId) (b : Batch) :
    (b.retarget st).state = b.state ∧ (b.retarget st).kind = b.kind := by
  unfold Batch.retarget
  split <;> exact ⟨rfl, rfl⟩

theorem State.retargetBatch_changes (st : StationId) :
    ChangesBatch (State.retargetBatch st) (fun b => b.state ≠ .due ∨ b.kind = .special) (Batch.retarget st) := by
  intro s a ok
  unfold State.retargetBatch
  split
  · next b hb =>
    have ok' := ok b hb
    split
    · next special => exact ChangesBatch.stands hb (if_neg fun h => by rw [special] at h; exact nomatch h.2)
    · next ordinary =>
      have regular : b.kind = .regular := by
        cases kind : b.kind with
        | regular => rfl
        | special => exact absurd kind ordinary
      split
      · next planned => exact ChangesBatch.updates hb (if_pos ⟨planned, regular⟩)
      · next due => exact absurd due (ok'.resolve_right ordinary)
      all_goals
        next state => exact ChangesBatch.stands hb (if_neg fun h => by rw [state] at h; exact nomatch h.1)
  · next none' => exact ChangesBatch.unknown none'

/-- The state in which a DUE regular batch has left its queue for another station (R24). -/
def State.turnAway (st : StationId) (r : Nat) (b : Batch) (s : State) : State :=
  (s.updStation b.target (Station.unqueue r)).updBatch r (fun x => { x with target := st })

theorem State.retargetBatch_due {s : State} {r : Nat} {b : Batch} {st : StationId} (hb : s.batch? r = some b)
    (due : b.state = .due) (regular : b.kind = .regular) (other : b.target ≠ st)
    (state : (s.stations[st]).state = .paused ∨ (s.stations[st]).state = .opened) :
    s.retargetBatch st r = ((s.turnAway st r b).updStation st (Station.join r (b.rush || b.moved))).checkShow st := by
  have station : (s.turnAway st r b).stations[st] = s.stations[st] := State.updStation_station_ne _ other _
  have batch : (s.turnAway st r b).batch? r = some { b with target := st } := by
    unfold State.turnAway
    rw [State.updBatch_batch_self, State.updStation_batch, hb]
    rfl
  have enters : s.retargetBatch st r = (s.turnAway st r b).enterStation r st := by
    unfold State.retargetBatch
    rw [hb]
    simp only [due, regular]
    rfl
  have open' : ((s.turnAway st r b).stations[st]).state = .opened ∨ ((s.turnAway st r b).stations[st]).state = .paused
      ∨ ((s.turnAway st r b).stations[st]).state = .down ∧ (s.turnAway st r b).usableBackup st = none := by
    rw [station]
    exact state.elim (fun h => .inr (.inl h)) .inl
  have joins := State.enterStation_joins batch open'
  exact enters.trans joins

/-- A batch that joins the empty queue of an OPEN station with room is shown at once in its lowest empty slot (R75,
R78, R79). -/
theorem State.joinAndShow {s : State} {st : StationId} {r : Nat} {p : Bool} {j : SlotId} (running : s.part ≠ .stopped)
    (opened : (s.stations[st]).state = .opened) (empty : (s.stations[st]).queue = [])
    (room : (s.stations[st]).tokens < (s.stations[st]).plan.capacity) (free : (s.stations[st]).slots[j] = none)
    (lowest : ∀ i : SlotId, i < j → (s.stations[st]).slots[i] ≠ none) :
    (s.updStation st (Station.join r p)).checkShow st = (s.updStation st (Station.join r p)).showAt st r j
      ∧ (((s.updStation st (Station.join r p)).showAt st r j).stations[st]).queue = []
      ∧ (((s.updStation st (Station.join r p)).showAt st r j).stations[st]).slots
          = (s.stations[st]).slots.set j (some r)
      ∧ (((s.updStation st (Station.join r p)).showAt st r j).stations[st]).tokens = (s.stations[st]).tokens + 1 := by
  obtain ⟨⟨state', plan, -, -⟩, -, slots, tokens⟩ := Station.join_sameState s.stations[st] r p
  have queue : ((s.stations[st]).join r p).queue = [r] := by
    obtain ⟨prio, ordinary⟩ := List.append_eq_nil_iff.1 empty
    unfold Station.join Station.queue
    cases p
    · simp only [Bool.false_eq_true, if_false, prio, ordinary, List.nil_append]
    · simp only [if_true, prio, ordinary, List.nil_append, List.append_nil]
  have station := s.updStation_station_self st (Station.join r p)
  generalize (s.stations[st]).join r p = y at state' plan slots tokens queue station
  have hu : ((s.updStation st (Station.join r p)).part = s.part) := rfl
  generalize s.updStation st (Station.join r p) = u at station hu ⊢
  have slot : (u.stations[st]).emptySlot? = some j := by
    rw [station, Station.emptySlot_some, slots]
    exact ⟨free, lowest⟩
  have head : (u.stations[st]).queue.head? = some r := by
    rw [station, queue]
    rfl
  have shows : u.showing st = true := by
    rw [State.showing_iff, station, queue, state', plan, tokens, slots, hu]
    exact ⟨running, opened, List.cons_ne_nil _ _, room, j, free⟩
  have shown : ((u.showAt st r j).stations[st]).queue = [] := by
    refine List.eq_nil_iff_forall_not_mem.2 fun q hq => ?_
    rw [State.showAt_station, Station.shown_queue, station, queue] at hq
    exact hq.2 (List.mem_singleton.1 hq.1)
  refine ⟨?_, shown, ?_, ?_⟩
  · rw [State.checkShow_head shows, State.showHead_eq head slot]
    exact State.checkShow_idle (State.showing_quiet (.inr (.inl shown)))
  · rw [State.showAt_station, Station.shown_eq, station, slots]
  · rw [State.showAt_station, Station.shown_eq, station, tokens]

theorem Issues.of_enqueue {s q u t : State} {m : MemRequest} (h : s.port.nextId ≤ q.port.nextId)
    (port : u.port = q.port.enqueue m) (g : PortGrows u.port t.port) : Issues s t m := by
  rw [port] at g
  exact Issues.mono ⟨_, Entered.issue h m⟩ g

/-- Settles O31. -/
theorem amendStationRetargets : Obligations.AmendStationRetargets := by
  intro s n line value e k st ready returns inside entry aimed fresh
  have good : s.amendValueOk .station k value.toNat = true := decide_eq_true (by omega)
  have station : toStation value.toNat = st := by
    rw [aimed]
    exact Fin.ofNat_val_eq_self st
  have row' := exec_amendApplies ready returns inside entry good fresh
  obtain ⟨id, row⟩ := row'
  have amended : (fun x : Ticket => x.amended .station value.toNat) = fun x => { x with station := some st } := by
    rw [← station]
    rfl
  have applies : (s.fetched id).amendApply line.toNat e k .station value.toNat = (.ended .done 0,
      k.batches.foldl (State.retargetBatch st) ((s.fetched id).updTicket e (fun x => { x with station := some st }))) := by
    rw [← amended, ← station]
    rfl
  refine ⟨fun none' => ?_, fun r b only hb due regular other state => ?_⟩
  · have changes := (State.retargetBatch_changes st).foldl
      (s := (s.fetched id).updTicket e (fun x => { x with station := some st })) (l := k.batches)
      (Batch.retarget_retarget st) (fun b ok => by
        obtain ⟨state, kind⟩ := b.retarget_keeps st
        rw [state, kind]
        exact ok) none'
    obtain ⟨sets, batches⟩ := changes
    obtain ⟨intake, part, notify⟩ := sets.rest
    obtain ⟨t, runs, finishes⟩ := row _ _ _ applies intake part notify
    refine ⟨t, runs, sets.ends finishes, fun r => ?_⟩
    rw [State.batch_congr finishes.leaves.pool, batches]
    exact map_if_mem (s.batch? r) (fun b => b.state = .planned ∧ b.kind = .regular) fun b => rfl
  · have retargets := State.retargetBatch_due
      (s := (s.fetched id).updTicket e (fun x => { x with station := some st })) hb due regular other state
    rw [only, List.foldl_cons, List.foldl_nil, retargets] at applies
    generalize hq : ((s.fetched id).updTicket e (fun x => { x with station := some st })).turnAway st r b = q at applies
    have shop : q.stations[st] = s.stations[st] := by
      rw [← hq]
      exact State.updStation_station_ne _ other _
    have left : q.stations[b.target] = (s.stations[b.target]).unqueue r := by
      rw [← hq]
      exact State.updStation_station_self _ _ _
    have apart (x : StationId) (hx : x ≠ b.target) : q.stations[x] = s.stations[x] := by
      rw [← hq]
      exact State.updStation_station_ne _ (Ne.symm hx) _
    have batch : q.batch? r = some { b with target := st } := by
      rw [← hq]
      refine (State.updBatch_batch_self _ r _).trans ?_
      exact congrArg (Option.map _) hb
    have port : q.port = (s.fetched id).port := by rw [← hq]; rfl
    have straps : q.straps = s.straps := by rw [← hq]; rfl
    have part : q.part = s.part := by rw [← hq]; rfl
    have work : StationWork q ((q.updStation st (Station.join r (b.rush || b.moved))).checkShow st) :=
      (q.updStation_work st _).trans (State.checkShow_work st _)
    have places : Places (fun _ => False) (· = st) (q.updStation st (Station.join r (b.rush || b.moved)))
        ((q.updStation st (Station.join r (b.rush || b.moved))).checkShow st) := State.checkShow_places st
    obtain ⟨t, runs, finishes⟩ := row _ _ _ applies
      (work.intake.trans (by rw [← hq]; rfl)) (work.part.trans part)
      (congrArg Conditions.notify (work.conditions.trans (by rw [← hq]; rfl)))
    have leaves := finishes.leaves
    have elsewhere (x : StationId) (hx : x ≠ st) : t.stations[x] = q.stations[x] := by
      rw [leaves.stations, places.elsewhere x hx]
      exact State.updStation_station_ne _ (Ne.symm hx) _
    refine ⟨t, runs, finishes.completes, (elsewhere _ other).trans left,
      fun x hx hst => (elsewhere x hst).trans (apart x hx), fun full => ?_, fun j opened empty room free lowest => ?_⟩
    · have quiet : (q.updStation st (Station.join r (b.rush || b.moved))).checkShow st
          = q.updStation st (Station.join r (b.rush || b.moved)) := by
        obtain ⟨⟨state', plan, -, -⟩, -, -, tokens⟩ := Station.join_sameState q.stations[st] r (b.rush || b.moved)
        refine State.setAndShow_quiet ?_
        rw [state', plan, tokens, shop]
        exact full.elim (fun paused => .inl (by rw [paused]; decide)) fun full => .inr (.inr full)
      rw [quiet] at leaves
      refine ⟨?_, ?_⟩
      · rw [State.batch_congr leaves.pool, State.updStation_batch]
        exact batch
      · rw [leaves.stations, State.updStation_station_self, shop]
    · obtain ⟨shows, queue, slots, tokens⟩ := State.joinAndShow (s := q) (st := st) (r := r) (p := b.rush || b.moved)
        (j := j) (by rw [part, ready]; decide) (by rw [shop]; exact opened) (by rw [shop]; exact empty)
        (by rw [shop]; exact room) (by rw [shop]; exact free) (by rw [shop]; exact lowest)
      have grows := finishes.port
      rw [shows] at leaves grows
      rw [shop] at slots tokens
      obtain ⟨late, shown⟩ := State.showAt_shows (s := q.updStation st (Station.join r (b.rush || b.moved))) (st := st)
        (k := j) batch
      rw [leaves.stations, State.batch_congr leaves.pool]
      refine ⟨slots, tokens, queue, ?_, late, shown⟩
      have enters := State.showAt_port st r j (q.updStation st (Station.join r (b.rush || b.moved)))
      rw [State.updStation_straps, straps] at enters
      refine Issues.of_enqueue ?_ enters grows
      rw [State.updStation_port, port]
      exact s.fetched_nextId id

end Sys2Proof.Machine

/-! SUPPORT. O35 and O36: which batches are due, how a batch becomes DUE, and FIRE (R48 to R50, R53). -/

namespace Sys2Proof.Machine

section
variable {s t : State} {r : Nat} {b : Batch} {k : Ticket} {c : CourseId}

-- ## Which batches are due

theorem State.mem_dueBatches {p : CourseId → Bool} : r ∈ s.dueBatches p ↔
    ∃ e k b, (e, k) ∈ s.tickets ∧ p k.course = true ∧ r ∈ k.batches ∧ s.batch? r = some b ∧ b.state = .planned
      ∧ (s.courses[k.course]).countdown ≤ b.threshold := by
  have own (k : Ticket) : (r ∈ if p k.course then k.batches.filter (fun r => match s.batch? r with
        | some b => dueAt (s.courses[k.course]).countdown b
        | none => false) else []) ↔
      p k.course = true ∧ r ∈ k.batches ∧ ∃ b, s.batch? r = some b ∧ b.state = .planned
        ∧ (s.courses[k.course]).countdown ≤ b.threshold := by
    split
    · next chosen =>
      rw [List.mem_filter]
      simp only [chosen, true_and]
      refine and_congr_right fun _ => ?_
      cases s.batch? r with
      | none => exact ⟨nofun, fun ⟨b, h, _⟩ => nomatch h⟩
      | some b =>
        simp only [dueAt, Bool.and_eq_true, beq_iff_eq, decide_eq_true_iff, Option.some.injEq, exists_eq_left']
    · next other =>
      exact ⟨fun mem => absurd mem List.not_mem_nil, fun h => absurd h.1 other⟩
  unfold State.dueBatches
  rw [List.mem_flatMap]
  constructor
  · rintro ⟨⟨e, k⟩, mem, due⟩
    obtain ⟨chosen, listed, b, hb, planned, reached⟩ := (own k).1 due
    exact ⟨e, k, b, mem, chosen, listed, hb, planned, reached⟩
  · rintro ⟨e, k, b, mem, chosen, listed, hb, planned, reached⟩
    exact ⟨(e, k), mem, (own k).2 ⟨chosen, listed, b, hb, planned, reached⟩⟩

-- ## How a batch becomes DUE

/-- A batch becomes DUE and is judged by the grace of its course (R50). -/
theorem State.makeDue_makes (hb : s.batch? r = some b) (hk : s.ticketOf? b = some k) {late : Bool}
    (hlate : late = true ↔ (s.courses[k.course]).countdown + (s.courses[k.course]).plan.grace < b.threshold) :
    (s.makeDue r).batch? r = some { b with state := .due, late := b.late || late }
      ∧ (s.makeDue r).stations = s.stations
      ∧ (s.makeDue r).courses = s.courses.set k.course { (s.courses[k.course]) with
          late := if late = true ∧ b.late = false then min 65535 ((s.courses[k.course]).late + 1)
            else (s.courses[k.course]).late } := by
  have due : (s.updBatch r (fun b => { b with state := .due })).batch? r = some { b with state := .due } := by
    rw [State.updBatch_batch_self, hb]
    rfl
  have judged : lateAtRelease s.courses[k.course] b.threshold = late := by
    rw [Bool.eq_iff_iff, hlate]
    exact decide_eq_true_iff
  unfold State.makeDue
  rw [hb]
  simp only [hk, judged]
  split
  · next isLate =>
    obtain ⟨batch, courses⟩ := State.markLate_late due k.course
    simp only [isLate, Bool.or_true, true_and]
    exact ⟨batch, State.markLate_stations _, courses⟩
  · next onTime =>
    rw [Bool.eq_false_iff.2 onTime]
    simp only [Bool.or_false, Bool.false_eq_true, false_and, if_false]
    exact ⟨due, rfl, (Vector.set_getElem_self k.course.isLt).symm⟩

-- ## FIRE

/-- The record of a course that is fired with a countdown (R49). -/
def Course.fire (n : Nat) (x : Course) : Course := { x with countdown := x.fireCountdown n, late := 0, state := .fired }

theorem State.fireCourse_eq (c : CourseId) (n : Nat) (s : State) : s.fireCourse c n
    = (s.updCourse c (Course.fire n)).release ((s.updCourse c (Course.fire n)).dueBatches (fun d => d == c)) := rfl

/-- Only a PLANNED batch of the fired course whose threshold is at or above its countdown is released (R49). -/
theorem State.mem_fired {n : Nat} (h : r ∈ (s.updCourse c (Course.fire n)).dueBatches (fun d => d == c)) :
    ∃ b, s.batch? r = some b ∧ b.state = .planned ∧ (s.courses[c]).fireCountdown n ≤ b.threshold := by
  obtain ⟨e, k, b, -, course, -, hb, planned, reached⟩ := State.mem_dueBatches.1 h
  obtain rfl := eq_of_beq course
  rw [State.updCourse_course_self] at reached
  exact ⟨b, hb, planned, reached⟩

theorem State.fireCourse_moves (c : CourseId) (n : Nat) (s : State) :
    Moves (fun r => ∃ b, s.batch? r = some b ∧ b.state = .planned ∧ (s.courses[c]).fireCountdown n ≤ b.threshold)
      (fun _ => True) (s.updCourse c (Course.fire n)) (s.fireCourse c n) :=
  (State.release_moves _).mono (fun _ => State.mem_fired) fun _ => id

theorem State.fireCourse_none {n : Nat}
    (h : (s.updCourse c (Course.fire n)).dueBatches (fun d => d == c) = []) :
    s.fireCourse c n = s.updCourse c (Course.fire n) := by
  rw [State.fireCourse_eq, h]
  rfl

theorem State.fireCourse_quiet {n : Nat}
    (h : ∀ r b, s.batch? r = some b → b.state = .planned → b.threshold < (s.courses[c]).fireCountdown n) :
    s.fireCourse c n = s.updCourse c (Course.fire n) :=
  State.fireCourse_none (List.eq_nil_iff_forall_not_mem.2 fun r hr => by
    obtain ⟨b, hb, planned, reached⟩ := State.mem_fired hr
    exact absurd (h r b hb planned) (not_lt.2 reached))

theorem State.fireCommand_unplanned {m n : Nat} (h : s.plan.courseCount ≤ m) :
    s.fireCommand m n = (.ended .badField 0, s) := by
  unfold State.fireCommand
  rw [State.plannedCourse_none h]

theorem State.fireCommand_planned {m n : Nat} (hc : m = c.val) (h : c.val < s.plan.courseCount) : s.fireCommand m n
    = if (s.courses[c]).state ≠ .staged then (.ended .badState 0, s)
      else if 4 ≤ s.liveCount then (.ended .limit 0, s) else (.ended .done 0, s.fireCourse c n) := by
  unfold State.fireCommand
  rw [State.plannedCourse_some hc h]

/-- The row of a FIRE that fires its course. -/
theorem exec_fires {n : Bool} {course : Byte} {countdown : BitVec 16} (ready : s.part = .ready)
    (returns : s.EntryReturns n (.fire course.toNat countdown.toNat)) (hc : course.toNat = c.val)
    (planned : c.val < s.plan.courseCount) (staged : (s.courses[c]).state = .staged) (room : s.liveCount < 4) :
    ∃ id t, exec (.fire n course countdown) s = .next t
      ∧ Finishes s ((s.fetched id).fireCourse c countdown.toNat) t n .done 0 := by
  obtain ⟨id, finishes⟩ := State.takeAs_finishes returns (s.takesEntries_of_ready ready)
  have work := (s.fetched id).fireCourse_work c countdown.toNat
  refine ⟨id, _, rfl, finishes _ _ _ ?_ work.intake work.part (congrArg Conditions.notify work.conditions)⟩
  refine (State.judge_ready (s := s.fetched id) (c := .fire course.toNat countdown.toNat) ready nofun).trans ?_
  refine (State.fireCommand_planned (s := s.fetched id) hc planned).trans ?_
  exact (if_neg (not_not.2 staged)).trans (if_neg (not_le.2 room))

theorem State.fireCourse_marked {n : Nat} (staged : (s.courses[c]).state = .staged) :
    c ∈ (s.fireCourse c n).marks.courses := by
  refine (s.fireCourse_moves c n).marks.courses c (State.updCourse_marked fun same => ?_)
  have state : CourseState.fired = (s.courses[c]).state := congrArg (fun m => m.1) same
  rw [staged] at state
  exact nomatch state

end

/-- Settles O36. -/
theorem fireStartsTheCountdown : Obligations.FireStartsTheCountdown := by
  intro s n course countdown c k ready returns
  have known : Command.fire course.toNat countdown.toNat ≠ .unknown := nofun
  refine ⟨fun past => ⟨_, rfl, State.takeAs_stands returns ready known fun id =>
      State.fireCommand_unplanned (s := s.fetched id) past⟩, fun hc planned hk => ?_⟩
  have row (id : Nat) := State.fireCommand_planned (s := s.fetched id) (n := countdown.toNat) hc planned
  refine ⟨fun other => ⟨_, rfl, State.takeAs_stands returns ready known fun id => (row id).trans (if_pos other)⟩,
    fun staged full => ⟨_, rfl, State.takeAs_stands returns ready known fun id =>
      (row id).trans ((if_neg (not_not.2 staged)).trans (if_pos full))⟩, fun staged room => ?fires,
    fun staged room none' => ?quiet⟩
  case quiet =>
    obtain ⟨id, t, runs, finishes⟩ := exec_fires ready returns hc planned staged room
    have quiet := State.fireCourse_quiet (s := s.fetched id) (c := c) (n := countdown.toNat) fun r b hb state => by
      have below := none' r b hb state
      rw [hk] at below
      exact below
    rw [quiet] at finishes
    subst hk
    exact ⟨t, runs, finishes.completes, finishes.leaves.rebase rfl⟩
  case fires =>
    obtain ⟨id, t, runs, finishes⟩ := exec_fires ready returns hc planned staged room
    have moves := (s.fetched id).fireCourse_moves c countdown.toNat
    have marked := State.fireCourse_marked (s := s.fetched id) (n := countdown.toNat) staged
    have leaves := finishes.leaves
    have fired : ((s.fetched id).updCourse c (Course.fire countdown.toNat)).courses[c]
        = (s.courses[c]).fire countdown.toNat := State.updCourse_course_self _ c _
    have countdown' : (s.courses[c]).fireCountdown countdown.toNat = k := hk.symm
    obtain ⟨plan, state, count, openCount⟩ := moves.courses c
    rw [fired] at plan state count openCount
    rw [← leaves.courses] at plan state count openCount
    have released {e r : Nat} {x : Ticket} {b : Batch} (mem : (e, x) ∈ s.tickets)
        (entry : Table.get? e s.tickets = some x) (course : x.course = c) (listed : r ∈ x.batches)
        (hb : s.batch? r = some b) (owner : b.owner = e) (waits : b.state = .planned) (reached : k ≤ b.threshold) :
        ∃ b', t.batch? r = some b' ∧ b'.state ≠ .planned
          ∧ (k + (s.courses[c]).plan.grace < b.threshold → b'.late = true) := by
      subst course
      have due : r ∈ ((s.fetched id).updCourse x.course (Course.fire countdown.toNat)).dueBatches
          (fun d => d == x.course) := by
        refine State.mem_dueBatches.2 ⟨e, x, b, mem, beq_self_eq_true _, listed, hb, waits, ?_⟩
        rw [fired]
        exact countdown'.le.trans reached
      have ticket : s.ticketOf? b = some x := by
        unfold State.ticketOf?
        rw [owner]
        exact entry
      obtain ⟨b', hb', -, left, late⟩ := State.release_judged
        (s := (s.fetched id).updCourse x.course (Course.fire countdown.toNat)) due hb ticket
      refine ⟨b', (State.batch_congr leaves.pool r).trans hb', left, fun exceeds => late ?_⟩
      rw [fired]
      rw [← countdown'] at exceeds
      exact exceeds
    refine ⟨t, runs, finishes.completes, finishes.courses c marked, state, count.trans countdown', openCount,
      fun d other => ?_, leaves.tickets.trans moves.tickets, leaves.service.trans moves.service,
      leaves.dram.trans moves.dram, fun e x r b mem entry course listed hb owner planned reached => ?_,
      fun r b hb free planned below => ?_⟩
    · obtain ⟨-, state, count, -⟩ := moves.courses d
      rw [State.updCourse_course_ne _ (Ne.symm other), ← leaves.courses] at state count
      exact ⟨state, count⟩
    · exact released mem entry course listed hb owner planned reached
    · have spared : ¬∃ b, (s.fetched id).batch? r = some b ∧ b.state = .planned
          ∧ ((s.fetched id).courses[c]).fireCountdown countdown.toNat ≤ b.threshold := by
        rintro ⟨b', hb', -, reached⟩
        rw [Option.some.inj (hb.symm.trans hb'), ← countdown'] at below
        exact absurd below (not_lt.2 reached)
      exact (State.batch_congr leaves.pool r).trans ((moves.apart r spared free).1.trans hb)

/-- The due batches of a fired course whose one ticket has one batch. -/
theorem State.dueBatches_one {s : State} {c : CourseId} {n e r : Nat} {k : Ticket} {b : Batch}
    (tickets : s.tickets = [(e, k)]) (course : k.course = c) (batches : k.batches = [r]) (hb : s.batch? r = some b)
    (planned : b.state = .planned) : (s.updCourse c (Course.fire n)).dueBatches (fun d => d == c)
      = if (s.courses[c]).fireCountdown n ≤ b.threshold then [r] else [] := by
  subst course
  have fired : (s.updCourse k.course (Course.fire n)).courses[k.course] = (s.courses[k.course]).fire n :=
    State.updCourse_course_self _ _ _
  have hb' : (s.updCourse k.course (Course.fire n)).batch? r = some b := hb
  have isDue : dueAt ((s.courses[k.course]).fire n).countdown b
      = decide ((s.courses[k.course]).fireCountdown n ≤ b.threshold) := by
    unfold dueAt
    rw [planned]
    rfl
  unfold State.dueBatches
  rw [show (s.updCourse k.course (Course.fire n)).tickets = [(e, k)] from tickets]
  simp only [List.flatMap_cons, List.flatMap_nil, List.append_nil, beq_self_eq_true, if_true, batches, fired]
  split
  · next reached => exact List.filter_cons_of_pos (by simp only [hb', isDue, decide_eq_true reached])
  · next below => exact List.filter_cons_of_neg (by simp only [hb', isDue, decide_eq_false below]; decide)

/-- A FIRE that releases one batch for a PAUSED station (R49, R50, R74, R75). -/
theorem State.fireCourse_one {s : State} {c : CourseId} {n e r : Nat} {k : Ticket} {b : Batch} {late : Bool}
    (tickets : s.tickets = [(e, k)]) (course : k.course = c) (batches : k.batches = [r]) (hb : s.batch? r = some b)
    (owner : b.owner = e) (planned : b.state = .planned) (paused : (s.stations[b.target]).state = .paused)
    (hlate : late = true ↔ (s.courses[c]).fireCountdown n + (s.courses[c]).plan.grace < b.threshold)
    (reached : (s.courses[c]).fireCountdown n ≤ b.threshold) :
    (s.fireCourse c n).batch? r = some { b with state := .due, late := b.late || late }
      ∧ (s.fireCourse c n).courses = s.courses.set c { ((s.courses[c]).fire n) with
          late := if late = true ∧ b.late = false then 1 else 0 }
      ∧ (s.fireCourse c n).stations
        = s.stations.set b.target ((s.stations[b.target]).join r (b.rush || b.moved)) := by
  have due := State.dueBatches_one (n := n) tickets course batches hb planned
  subst course
  rw [if_pos reached] at due
  have fired : (s.updCourse k.course (Course.fire n)).courses[k.course] = (s.courses[k.course]).fire n :=
    State.updCourse_course_self _ _ _
  have ticket : (s.updCourse k.course (Course.fire n)).ticketOf? b = some k := by
    unfold State.ticketOf?
    rw [owner, show (s.updCourse k.course (Course.fire n)).tickets = [(e, k)] from tickets]
    exact if_pos rfl
  have makes := State.makeDue_makes (s := s.updCourse k.course (Course.fire n)) (b := b) (late := late) hb ticket
    (by rw [fired]; exact hlate)
  rw [State.fireCourse_eq, due]
  change ((s.updCourse k.course (Course.fire n)).makeDue r |>.enter r).batch? r = _
    ∧ ((s.updCourse k.course (Course.fire n)).makeDue r |>.enter r).courses = _
    ∧ ((s.updCourse k.course (Course.fire n)).makeDue r |>.enter r).stations = _
  obtain ⟨batch, stations, courses⟩ := makes
  rw [fired] at courses
  have stations' : ((s.updCourse k.course (Course.fire n)).makeDue r).stations = s.stations := stations
  have courses' : ((s.updCourse k.course (Course.fire n)).makeDue r).courses
      = s.courses.set k.course { ((s.courses[k.course]).fire n) with
          late := if late = true ∧ b.late = false then 1 else 0 } := by
    refine courses.trans (Eq.trans (Vector.set_set ..) ?_)
    rfl
  generalize (s.updCourse k.course (Course.fire n)).makeDue r = u at batch stations' courses'
  have state : (u.stations[b.target]).state = .paused := by rw [stations']; exact paused
  have joins := State.enterStation_joins batch (.inr (.inl state))
  have quiet : (u.updStation b.target (Station.join r (b.rush || b.moved))).checkShow b.target
      = u.updStation b.target (Station.join r (b.rush || b.moved)) := by
    refine State.setAndShow_quiet (.inl ?_)
    rw [(Station.join_sameState _ _ _).1.1, state]
    decide
  have enters : u.enter r = u.updStation b.target (Station.join r (b.rush || b.moved)) := by
    unfold State.enter
    rw [batch]
    exact joins.trans quiet
  rw [enters]
  refine ⟨batch, courses', ?_⟩
  rw [← stations']
  rfl

/-- Settles O35. -/
theorem dueAndLateAtRelease : Obligations.DueAndLateAtRelease := by
  refine ⟨fun s p r => State.mem_dueBatches, fun s r b k hb hk => ⟨fun exceeds first => ?late, fun within => ?onTime⟩,
    ?fire⟩
  case late =>
    obtain ⟨batch, -, courses⟩ := State.makeDue_makes hb hk (late := true) (iff_of_true rfl exceeds)
    refine ⟨by rw [batch, Bool.or_true], ?_⟩
    rw [courses, getElem_set_fin_self, if_pos ⟨rfl, first⟩]
  case onTime =>
    obtain ⟨batch, -, courses⟩ := State.makeDue_makes hb hk (late := false)
      (iff_of_false Bool.false_ne_true (not_lt.2 within))
    refine ⟨by rw [batch, Bool.or_false], ?_⟩
    rw [courses, if_neg fun h => Bool.false_ne_true h.1]
    exact Vector.set_getElem_self k.course.isLt
  case fire =>
    intro s n course countdown c v e r k b lateNow ready returns hc planned staged room hv tickets hcourse batches hb
      owner state paused hlate
    obtain ⟨id, t, runs, finishes⟩ := exec_fires ready returns hc planned staged room
    have leaves := finishes.leaves
    have countdown' : (s.courses[c]).fireCountdown countdown.toNat = v := hv.symm
    refine ⟨t, runs, finishes.completes, fun reached => ?_, fun below => ?_⟩
    · obtain ⟨batch, courses, stations⟩ := State.fireCourse_one (s := s.fetched id) (c := c) (n := countdown.toNat)
        tickets hcourse batches hb owner state paused (hlate.trans (by rw [← countdown']; rfl))
        (by rw [← countdown'] at reached; exact reached)
      rw [State.batch_congr leaves.pool, leaves.courses, leaves.stations]
      refine ⟨batch, courses.trans ?_, stations⟩
      rw [← countdown']
      rfl
    · have due := State.dueBatches_one (s := s.fetched id) (n := countdown.toNat) tickets hcourse batches hb state
      have below' : ¬((s.fetched id).courses[c]).fireCountdown countdown.toNat ≤ b.threshold := by
        rw [← countdown'] at below
        exact not_le.2 below
      rw [if_neg below'] at due
      rw [State.fireCourse_none due] at leaves
      refine ⟨leaves.pool, leaves.stations, leaves.courses.trans ?_⟩
      rw [← countdown']
      rfl

end Sys2Proof.Machine

/-! SUPPORT. O38, and the first parts of O39: staging, calling, the boundary and the clearing of a course (R58 to R66). -/

namespace Sys2Proof.Machine

variable {s t u : State} {c d : CourseId}

-- ## What the Course Table's changes keep

/-- Of the batches that stand in no queue only those of `P` have changed; stations keep their states, and courses their
plans and their open batches. -/
structure Stirs (P : Nat → Prop) (s t : State) : Prop extends CourseWork s t where
  stations : ∀ st : StationId, (s.stations[st]).SameState t.stations[st]
  courses : ∀ c : CourseId, (t.courses[c]).plan = (s.courses[c]).plan
    ∧ (t.courses[c]).openCount = (s.courses[c]).openCount
  apart : ∀ r, ¬P r → s.NotQueued r → t.batch? r = s.batch? r ∧ t.NotQueued r
  fills : ∀ (st : StationId) (j : SlotId) (r : Nat), ¬P r → s.NotQueued r →
    (t.stations[st]).slots[j] = some r → (s.stations[st]).slots[j] = some r
  unknown : ∀ r, s.batch? r = none → t.batch? r = none
  marks : s.marks.Grows t.marks

variable {P P' : Nat → Prop}

theorem Moves.stirs {Q : StationId → Prop} (h : Moves P Q s t) : Stirs P s t where
  toCourseWork := h.toCourseWork
  stations := h.stations
  courses c := by
    obtain ⟨plan, -, -, openCount⟩ := h.courses c
    exact ⟨plan, openCount⟩
  apart := h.apart
  fills := h.fills
  unknown := h.unknown
  marks := h.marks

theorem Stirs.refl (s : State) : Stirs P s s := (Moves.refl (Q := fun _ => True) s).stirs

theorem Stirs.trans (h : Stirs P s t) (g : Stirs P t u) : Stirs P s u where
  toCourseWork := h.toCourseWork.trans g.toCourseWork
  stations st := by
    obtain ⟨state, plan, retry, progress⟩ := h.stations st
    obtain ⟨state', plan', retry', progress'⟩ := g.stations st
    exact ⟨state'.trans state, plan'.trans plan, retry'.trans retry, progress'.trans progress⟩
  courses c := by
    obtain ⟨plan, openCount⟩ := h.courses c
    obtain ⟨plan', openCount'⟩ := g.courses c
    exact ⟨plan'.trans plan, openCount'.trans openCount⟩
  apart r hr free := by
    obtain ⟨same, free'⟩ := h.apart r hr free
    obtain ⟨same', free''⟩ := g.apart r hr free'
    exact ⟨same'.trans same, free''⟩
  fills st j r hr free filled := h.fills st j r hr free (g.fills st j r hr (h.apart r hr free).2 filled)
  unknown r none := g.unknown r (h.unknown r none)
  marks := h.marks.trans g.marks

theorem Stirs.mono (h : Stirs P s t) (hP : ∀ r, P r → P' r) : Stirs P' s t :=
  ⟨h.toCourseWork, h.stations, h.courses, fun r hr => h.apart r (hr ∘ hP r), fun st j r hr => h.fills st j r (hr ∘ hP r),
    h.unknown, h.marks⟩

theorem State.updCourse_stirs {f : Course → Course}
    (h : ∀ x : Course, (f x).plan = x.plan ∧ (f x).openCount = x.openCount) :
    Stirs P s (s.updCourse c f) where
  toCourseWork := (s.updCourse_work c f).toCourseWork
  stations _ := ⟨rfl, rfl, rfl, rfl⟩
  courses d := by
    have course : (s.updCourse c f).courses[d] = if c = d then f s.courses[c] else s.courses[d] :=
      getElem_set_fin _ _ _ _
    rw [course]
    split
    · next same => exact same ▸ h _
    · exact ⟨rfl, rfl⟩
  apart _ _ free := ⟨rfl, free⟩
  fills _ _ _ _ _ := id
  unknown _ := id
  marks := s.updCourse_marks c f

theorem State.setCondition_stirs (f : Conditions → Conditions) (s : State) : Stirs P s (s.setCondition f) :=
  ⟨s.setCondition_work f, fun _ => ⟨rfl, rfl, rfl, rfl⟩, fun _ => ⟨rfl, rfl⟩, fun _ _ free => ⟨rfl, free⟩,
    fun _ _ _ _ _ => id, fun _ => id, .refl _⟩

theorem State.updService_stirs (f : Service → Service) (s : State) : Stirs P s (s.updService f) :=
  ⟨s.updService_work f, fun _ => ⟨rfl, rfl, rfl, rfl⟩, fun _ => ⟨rfl, rfl⟩, fun _ _ free => ⟨rfl, free⟩,
    fun _ _ _ _ _ => id, fun _ => id, ⟨fun _ => id, fun _ => id, fun _ => rfl⟩⟩

/-- A batch that waits for its release. -/
def State.Waits (s : State) (r : Nat) : Prop := ∃ b, s.batch? r = some b ∧ b.state = .planned

theorem State.fireCourse_stirs (c : CourseId) (n : Nat) (s : State) : Stirs s.Waits s (s.fireCourse c n) :=
  (State.updCourse_stirs (f := Course.fire n) fun _ => ⟨rfl, rfl⟩).trans
    ((s.fireCourse_moves c n).stirs.mono fun _ ⟨b, hb, planned, _⟩ => ⟨b, hb, planned⟩)

theorem State.autoFire_stirs (c : CourseId) (s : State) : Stirs s.Waits s (s.autoFire c) := by
  unfold State.autoFire
  split
  · split
    · exact s.fireCourse_stirs c 0
    · exact (State.recordFault_moves (Q := fun _ => True) rfl).stirs
  · exact .refl s

-- ## Auto-fire of a STAGED course

theorem State.autoFire_off (h : (s.courses[c]).plan.autoFire = false) : s.autoFire c = s :=
  if_neg (by rw [h]; decide)

theorem State.autoFire_fires (on : (s.courses[c]).plan.autoFire = true) (room : s.liveCount < 4) :
    s.autoFire c = s.fireCourse c 0 := (if_pos on).trans (if_pos room)

theorem State.autoFire_full (on : (s.courses[c]).plan.autoFire = true) (full : 4 ≤ s.liveCount) :
    s.autoFire c = s.recordFault (liveLimitFault c) := (if_pos on).trans (if_neg (not_lt.2 full))

theorem State.autoFire_fired (on : (s.courses[c]).plan.autoFire = true) (room : s.liveCount < 4) :
    ((s.autoFire c).courses[c]).state = .fired ∧ ((s.autoFire c).courses[c]).countdown = (s.courses[c]).plan.countdown := by
  rw [State.autoFire_fires on room]
  obtain ⟨-, state, countdown, -⟩ := (s.fireCourse_moves c 0).courses c
  rw [State.updCourse_course_self] at state countdown
  exact ⟨state, countdown⟩

theorem State.autoFire_limit (on : (s.courses[c]).plan.autoFire = true) (full : 4 ≤ s.liveCount) :
    (s.autoFire c).courses = s.courses ∧ Logs s (s.autoFire c) { reason := .liveLimit, source := 63, course := c.val } := by
  rw [State.autoFire_full on full]
  exact ⟨(s.recordFault_tables _).2.1, s.recordFault_logs _⟩

theorem State.liveCount_congr (h : ∀ d : CourseId, (t.courses[d]).live = (s.courses[d]).live) :
    t.liveCount = s.liveCount := List.countP_congr fun d _ => by rw [h d]

-- ## Staging and calling

/-- The states that a staging makes, or finds, STAGED (R47, R64). -/
def CourseState.Stages (x : CourseState) : Prop := x = .idle ∨ x = .staged ∨ x = .cleared

theorem State.stage_course (h : (s.courses[c]).state.Stages) :
    (s.stage c).courses[c] = { (s.courses[c]) with state := .staged } := by
  unfold State.stage
  split
  · exact State.updCourse_course_self _ _ _
  · next other =>
    have staged : (s.courses[c]).state = .staged := by
      rcases h with h | h | h
      · exact absurd (.inl h) other
      · exact h
      · exact absurd (.inr h) other
    rw [← staged]

theorem State.stage_course_ne (h : c ≠ d) : (s.stage c).courses[d] = s.courses[d] := by
  unfold State.stage
  split
  · exact State.updCourse_course_ne _ h _
  · rfl

theorem State.stage_staged (h : (s.courses[c]).state = .staged) : s.stage c = s :=
  if_neg (by rw [h]; decide)

theorem State.stage_liveCount (h : (s.courses[c]).state.Stages) : (s.stage c).liveCount = s.liveCount := by
  refine State.liveCount_congr fun d => ?_
  by_cases same : c = d
  · subst same
    rw [State.stage_course h]
    unfold Course.live
    rcases h with h | h | h <;> rw [h] <;> rfl
  · rw [State.stage_course_ne same]

theorem State.call_stages (h : (s.courses[c]).state.Stages) : s.call c = (s.stage c).autoFire c := by
  unfold State.call
  rcases h with h | h | h <;> rw [h]

/-- The states that stall a service whose course is called (R64). -/
def CourseState.Stalls (x : CourseState) : Prop := x = .fired ∨ x = .held ∨ x = .passed

theorem State.call_stalls (h : (s.courses[c]).state.Stalls) : s.call c
    = (s.updService (fun v => { v with state := .stalled })).setCondition (fun n => { n with stall := true }) := by
  unfold State.call
  rcases h with h | h | h <;> rw [h]

/-- `t` is `s` but for the course records and the marks, which have only grown. -/
structure SetsCourses (s t : State) : Prop where
  only : t = { s with courses := t.courses, marks := t.marks }
  marks : s.marks.Grows t.marks

theorem SetsCourses.refl (s : State) : SetsCourses s s := ⟨rfl, .refl _⟩

theorem SetsCourses.trans (h : SetsCourses s t) (g : SetsCourses t u) : SetsCourses s u := by
  refine ⟨?_, h.marks.trans g.marks⟩
  have first := h.only
  have second := g.only
  generalize u.courses = courses, u.marks = marks at second ⊢
  subst second
  generalize t.courses = courses', t.marks = marks' at first
  subst first
  rfl

theorem State.updCourse_setsCourses (c : CourseId) (f : Course → Course) (s : State) : SetsCourses s (s.updCourse c f) :=
  ⟨rfl, s.updCourse_marks c f⟩

theorem State.stage_setsCourses (c : CourseId) (s : State) : SetsCourses s (s.stage c) := by
  unfold State.stage
  split
  · exact s.updCourse_setsCourses c _
  · exact .refl s

theorem SetsCourses.service (h : SetsCourses s t) : t.service = s.service := (congrArg State.service h.only).trans rfl

/-- The courses of a list are staged, each where it is IDLE or CLEARED (R61). -/
def State.stageAll (l : List CourseId) (s : State) : State := l.foldl (fun t c => t.stage c) s

theorem State.stageAll_stages (l : List CourseId) (s : State) : SetsCourses s (s.stageAll l)
    ∧ ∀ c : CourseId, (s.stageAll l).courses[c]
      = if c ∈ l ∧ ((s.courses[c]).state = .idle ∨ (s.courses[c]).state = .cleared) then
          { (s.courses[c]) with state := .staged }
        else s.courses[c] := by
  induction l generalizing s with
  | nil => exact ⟨.refl s, fun c => (if_neg fun h => List.not_mem_nil h.1).symm⟩
  | cons a l ih =>
    obtain ⟨sets, courses⟩ := ih (s.stage a)
    refine ⟨(s.stage_setsCourses a).trans sets, fun c => (courses c).trans ?_⟩
    by_cases same : a = c
    · subst same
      by_cases stages : (s.courses[a]).state = .idle ∨ (s.courses[a]).state = .cleared
      · have staged := State.stage_course (s := s) (c := a) (stages.elim .inl fun h => .inr (.inr h))
        have once : ¬(a ∈ l ∧ (((s.stage a).courses[a]).state = .idle ∨ ((s.stage a).courses[a]).state = .cleared)) := by
          rw [staged]
          rintro ⟨-, h | h⟩ <;> exact nomatch h
        rw [if_neg once, staged, if_pos ⟨List.mem_cons_self, stages⟩]
      · have stands : s.stage a = s := if_neg stages
        rw [stands, if_neg fun h => stages h.2, if_neg fun h => stages h.2]
    · rw [State.stage_course_ne same]
      simp only [List.mem_cons, eq_comm.trans (iff_false_intro same), false_or]

theorem State.applyList_eq (l : CourseList) (s : State) : s.applyList l
    = ((s.updService (fun v => { v with state := .running, list := l, position := 0 })).stageAll l.courses).callCurrent :=
  rfl

-- ## The service record along a call

/-- Two service records are one but for the service state. -/
def Service.SamePlace (v w : Service) : Prop := w.position = v.position ∧ w.list = v.list ∧ w.pending = v.pending

theorem State.call_service (c : CourseId) (s : State) : s.service.SamePlace (s.call c).service := by
  have stages : s.service.SamePlace ((s.stage c).autoFire c).service := by
    rw [((s.stage c).autoFire_work c).service, (s.stage_work c).service]
    exact ⟨rfl, rfl, rfl⟩
  unfold State.call
  split
  · exact stages
  · exact stages
  · exact stages
  all_goals exact ⟨rfl, rfl, rfl⟩

theorem State.callCurrent_service (s : State) : s.service.SamePlace s.callCurrent.service := by
  unfold State.callCurrent
  split
  · exact s.call_service _
  · exact ⟨rfl, rfl, rfl⟩

theorem State.applyList_service (l : CourseList) (s : State) : (s.applyList l).service.position = 0
    ∧ (s.applyList l).service.list = l ∧ (s.applyList l).service.pending = s.service.pending := by
  have staged := (State.stageAll_stages l.courses
    (s.updService (fun v => { v with state := .running, list := l, position := 0 }))).1.service
  obtain ⟨position, list, pending⟩ := State.callCurrent_service
    ((s.updService (fun v => { v with state := .running, list := l, position := 0 })).stageAll l.courses)
  rw [State.applyList_eq]
  rw [staged] at position list pending
  exact ⟨position, list, pending⟩

/-- The list that comes into force calls its first course (R61, R63). -/
theorem State.applyList_calls {l : CourseList} (first : l.courses.head? = some c) : s.applyList l
    = ((s.updService (fun v => { v with state := .running, list := l, position := 0 })).stageAll l.courses).call c := by
  have staged := (State.stageAll_stages l.courses
    (s.updService (fun v => { v with state := .running, list := l, position := 0 }))).1.service
  have current : ((s.updService (fun v => { v with state := .running, list := l, position := 0 })).stageAll
      l.courses).service.current? = some c := by
    rw [staged]
    exact (List.head?_eq_getElem? ..).symm.trans first
  rw [State.applyList_eq]
  unfold State.callCurrent
  rw [current]

theorem State.call_notify (c : CourseId) (s : State) : (s.call c).conditions.notify = s.conditions.notify := by
  have stages : ((s.stage c).autoFire c).conditions = s.conditions := by
    rw [((s.stage c).autoFire_work c).conditions, (s.stage_work c).conditions]
  unfold State.call
  split
  · rw [stages]
  · rw [stages]
  · rw [stages]
  all_goals rfl

theorem State.callCurrent_notify (s : State) : s.callCurrent.conditions.notify = s.conditions.notify := by
  unfold State.callCurrent
  split
  · exact s.call_notify _
  · rfl

theorem State.applyList_notify (l : CourseList) (s : State) : (s.applyList l).conditions.notify = s.conditions.notify := by
  have staged := (State.stageAll_stages l.courses
    (s.updService (fun v => { v with state := .running, list := l, position := 0 }))).1.only
  rw [State.applyList_eq, State.callCurrent_notify]
  exact (congrArg (fun u => u.conditions.notify) staged).trans rfl

-- ## The boundary

theorem State.boundary_pending {l : CourseList} (h : s.service.pending = some l) :
    s.boundary = (s.updService (fun v => { v with pending := none })).applyList l := by
  unfold State.boundary
  rw [h]

theorem State.boundary_next (h : s.service.pending = none)
    (more : s.service.position + 1 < s.service.list.courses.length) :
    s.boundary = (s.updService (fun v => { v with position := v.position + 1 })).callCurrent := by
  unfold State.boundary
  rw [h]
  exact if_pos more

theorem State.boundary_again (h : s.service.pending = none)
    (last : s.service.list.courses.length ≤ s.service.position + 1) (cycle : s.service.list.cycle = true) :
    s.boundary = (s.updService (fun v => { v with position := 0 })).callCurrent := by
  unfold State.boundary
  rw [h]
  exact (if_neg (not_lt.2 last)).trans (if_pos cycle)

theorem State.boundary_ends (h : s.service.pending = none)
    (last : s.service.list.courses.length ≤ s.service.position + 1) (once : s.service.list.cycle = false) :
    s.boundary = (s.updService (fun v => { v with state := .ended })).setCondition (fun n => { n with ended := true }) := by
  unfold State.boundary
  rw [h]
  exact (if_neg (not_lt.2 last)).trans (if_neg (by rw [once]; decide))

-- ## Clearing

theorem State.clearIfDone_open (h : (s.courses[c]).state ≠ .passed ∨ (s.courses[c]).openCount ≠ 0) : s.clearIfDone c = s :=
  if_neg fun done => h.elim (fun other => other done.1) fun some => some done.2

/-- A course in another state. -/
def Course.setState (y : CourseState) (x : Course) : Course := { x with state := y }

/-- A PASSED course with no open batch becomes CLEARED, with its condition set (R58). -/
def State.clear (c : CourseId) (s : State) : State :=
  (s.updCourse c (Course.setState .cleared)).setCondition (fun n => { n with cleared := true })

/-- The calling course that has cleared is STAGED, and the service runs on (R65). -/
def State.resume (c : CourseId) (s : State) : State :=
  (s.updCourse c (Course.setState .staged)).updService (fun v => { v with state := .running })

/-- The service waits for a course to clear (R65). -/
def State.StalledAt (s : State) (c : CourseId) : Prop := s.service.state = .stalled ∧ s.service.calling? = some c

theorem State.clearIfDone_clears (passed : (s.courses[c]).state = .passed) (none' : (s.courses[c]).openCount = 0)
    (h : ¬s.StalledAt c) : s.clearIfDone c = s.clear c := by
  unfold State.clearIfDone
  rw [if_pos ⟨passed, none'⟩]
  exact if_neg h

theorem State.clearIfDone_resumes (passed : (s.courses[c]).state = .passed) (none' : (s.courses[c]).openCount = 0)
    (h : s.StalledAt c) : s.clearIfDone c = ((s.clear c).resume c).autoFire c := by
  unfold State.clearIfDone
  rw [if_pos ⟨passed, none'⟩]
  exact if_pos h

theorem State.resume_course (c : CourseId) (s : State) :
    ((s.clear c).resume c).courses[c] = { (s.courses[c]) with state := .staged } := by
  have cleared : (s.clear c).courses[c] = Course.setState .cleared s.courses[c] := State.updCourse_course_self s c _
  have staged : ((s.clear c).resume c).courses[c] = Course.setState .staged (s.clear c).courses[c] :=
    State.updCourse_course_self (s.clear c) c _
  rw [staged, cleared]
  rfl

theorem State.resume_course_ne (h : c ≠ d) (s : State) : ((s.clear c).resume c).courses[d] = s.courses[d] := by
  have cleared : (s.clear c).courses[d] = s.courses[d] := State.updCourse_course_ne s h (Course.setState .cleared)
  have staged : ((s.clear c).resume c).courses[d] = (s.clear c).courses[d] :=
    State.updCourse_course_ne (s.clear c) h (Course.setState .staged)
  rw [staged, cleared]

theorem State.clearIfDone_stirs (c : CourseId) (s : State) : Stirs s.Waits s (s.clearIfDone c) := by
  have clears : Stirs s.Waits s (s.clear c) :=
    (State.updCourse_stirs (f := Course.setState .cleared) fun _ => ⟨rfl, rfl⟩).trans (State.setCondition_stirs _ _)
  by_cases done : (s.courses[c]).state = .passed ∧ (s.courses[c]).openCount = 0
  · by_cases stalled : s.StalledAt c
    · rw [State.clearIfDone_resumes done.1 done.2 stalled]
      have resumes : Stirs s.Waits (s.clear c) ((s.clear c).resume c) :=
        (State.updCourse_stirs (f := Course.setState .staged) fun _ => ⟨rfl, rfl⟩).trans (State.updService_stirs _ _)
      exact (clears.trans resumes).trans (((s.clear c).resume c).autoFire_stirs c)
    · rw [State.clearIfDone_clears done.1 done.2 stalled]
      exact clears
  · rw [State.clearIfDone_open (not_and_or.1 done)]
    exact .refl s

/-- What the end of a stall leaves (R65, R66). -/
theorem State.resume_outcome (passed : (s.courses[c]).state = .passed) :
    (((s.clear c).resume c).autoFire c).service = { s.service with state := .running }
      ∧ (((s.clear c).resume c).autoFire c).conditions.cleared = true
      ∧ ((s.courses[c]).plan.autoFire = false → ((((s.clear c).resume c).autoFire c).courses[c]).state = .staged)
      ∧ ((s.courses[c]).plan.autoFire = true → s.liveCount < 4 →
          ((((s.clear c).resume c).autoFire c).courses[c]).state = .fired
            ∧ ((((s.clear c).resume c).autoFire c).courses[c]).countdown = (s.courses[c]).plan.countdown)
      ∧ ((s.courses[c]).plan.autoFire = true → 4 ≤ s.liveCount →
          ((((s.clear c).resume c).autoFire c).courses[c]).state = .staged
            ∧ Logs s (((s.clear c).resume c).autoFire c) { reason := .liveLimit, source := 63, course := c.val }) := by
  have course := s.resume_course c
  have work := ((s.clear c).resume c).autoFire_work c
  have live : ((s.clear c).resume c).liveCount = s.liveCount := by
    refine State.liveCount_congr fun d => ?_
    by_cases same : c = d
    · subst same
      rw [course]
      unfold Course.live
      rw [passed]
      rfl
    · exact congrArg Course.live (State.resume_course_ne same s)
  refine ⟨work.service, congrArg Conditions.cleared work.conditions, fun off => ?_, fun on room => ?_, fun on full => ?_⟩
  · rw [State.autoFire_off (by rw [course]; exact off), course]
  · have fired := State.autoFire_fired (s := (s.clear c).resume c) (c := c) (by rw [course]; exact on)
      (by rw [live]; exact room)
    rw [course] at fired
    exact fired
  · obtain ⟨courses, logs⟩ := State.autoFire_limit (s := (s.clear c).resume c) (c := c) (by rw [course]; exact on)
      (by rw [live]; exact full)
    refine ⟨?_, logs.congr rfl rfl rfl rfl⟩
    rw [courses, course]

-- ## SERVICE

theorem State.plannedList_some {l : List CourseId} {cs : List Nat} (same : l.map (fun c => c.val) = cs)
    (planned : ∀ x ∈ cs, x < s.plan.courseCount) : s.plannedList? cs = some l := by
  induction l generalizing cs with
  | nil =>
    subst same
    rfl
  | cons c l ih =>
    subst same
    have first := State.plannedCourse_some (s := s) (n := c.val) rfl (planned c.val List.mem_cons_self)
    have rest := ih rfl fun x hx => planned x (List.mem_cons_of_mem _ hx)
    rw [List.map_cons, State.plannedList?, first, rest]

theorem State.plannedList_none {cs : List Nat} {x : Nat} (mem : x ∈ cs) (past : s.plan.courseCount ≤ x) :
    s.plannedList? cs = none := by
  induction cs with
  | nil => exact absurd mem List.not_mem_nil
  | cons a cs ih =>
    rw [State.plannedList?]
    rcases List.mem_cons.1 mem with rfl | mem
    · rw [State.plannedCourse_none past]
    · rw [ih mem]
      split
      · next h => exact nomatch h
      · rfl

theorem State.serviceCommand_bad {count cycle : Nat} {cs : List Nat} (h : count = 0 ∨ 8 < count ∨ 1 < cycle
    ∨ ∃ x ∈ cs.take count, s.plan.courseCount ≤ x) : s.serviceCommand count cycle cs = (.ended .badField 0, s) := by
  unfold State.serviceCommand
  by_cases range : count = 0 ∨ 8 < count
  · rw [if_pos range]
  · rw [if_neg range]
    have rest : 1 < cycle ∨ ∃ x ∈ cs.take count, s.plan.courseCount ≤ x :=
      h.elim (fun h => absurd (.inl h) range) (fun h => h.resolve_left fun h => range (.inr h))
    rcases rest with many | ⟨x, mem, past⟩
    · split
      · rfl
      · rw [if_pos many]
    · rw [State.plannedList_none mem past]

theorem State.serviceCommand_good {count cycle : Nat} {cs : List Nat} {l : List CourseId} (lo : count ≠ 0)
    (hi : count ≤ 8) (once : cycle ≤ 1) (same : l.map (fun c => c.val) = cs.take count)
    (planned : ∀ x ∈ cs.take count, x < s.plan.courseCount) :
    s.serviceCommand count cycle cs = s.serviceList { courses := l, cycle := cycle == 1 } := by
  unfold State.serviceCommand
  rw [if_neg (by omega), State.plannedList_some same planned]
  exact if_neg (by omega)

theorem State.serviceList_holds {l : CourseList} (h : s.service.state = .running ∨ s.service.state = .stalled) :
    s.serviceList l = (.ended .doneReplaced (if s.service.pending.isSome then 1 else 0),
      s.updService (fun v => { v with pending := some l })) := by
  unfold State.serviceList
  rcases h with h | h <;> rw [h]

theorem State.serviceList_applies {l : CourseList} (h : s.service.state = .none ∨ s.service.state = .ended) :
    s.serviceList l = (.ended .done 0, s.applyList l) := by
  unfold State.serviceList
  rcases h with h | h <;> rw [h]

/-- The service list that an entry carries is good, and names these courses (R60). -/
structure ListsCourses (s : State) (count cycle : Byte) (courses : Vector Byte 8) (l : List CourseId) : Prop where
  some' : count.toNat ≠ 0
  fits : count.toNat ≤ 8
  once : cycle.toNat ≤ 1
  same : l.map (fun c => c.val) = (courses.toList.take count.toNat).map (fun c => c.toNat)
  planned : ∀ c ∈ l, c.val < s.plan.courseCount

theorem ListsCourses.serviceCommand {count cycle : Byte} {courses : Vector Byte 8} {l : List CourseId}
    (h : ListsCourses s count cycle courses l) (plan : t.plan = s.plan) :
    t.serviceCommand count.toNat cycle.toNat (courses.toList.map (fun c => c.toNat))
      = t.serviceList { courses := l, cycle := cycle.toNat == 1 } := by
  have same : l.map (fun c => c.val) = (courses.toList.map (fun c => c.toNat)).take count.toNat :=
    h.same.trans (List.map_take ..)
  refine State.serviceCommand_good h.some' h.fits h.once same fun x hx => ?_
  rw [← same] at hx
  obtain ⟨c, hc, rfl⟩ := List.mem_map.1 hx
  rw [plan]
  exact h.planned c hc

/-- The row of a SERVICE whose list comes into force (R61). -/
theorem exec_servicesApplies {n : Bool} {count cycle : Byte} {courses : Vector Byte 8} {l : List CourseId}
    (ready : s.part = .ready)
    (returns : s.EntryReturns n (.service count.toNat cycle.toNat (courses.toList.map (fun c => c.toNat))))
    (lists : ListsCourses s count cycle courses l) (free : s.service.state = .none ∨ s.service.state = .ended) :
    ∃ id t, exec (.service n count cycle courses) s = .next t
      ∧ Finishes s ((s.fetched id).applyList { courses := l, cycle := cycle.toNat == 1 }) t n .done 0 := by
  obtain ⟨id, finishes⟩ := State.takeAs_finishes returns (s.takesEntries_of_ready ready)
  have work := (s.fetched id).applyList_work { courses := l, cycle := cycle.toNat == 1 }
  refine ⟨id, _, rfl, finishes _ _ _ ?_ work.intake work.part ?_⟩
  · refine (State.judge_ready (s := s.fetched id)
      (c := .service count.toNat cycle.toNat (courses.toList.map (fun c => c.toNat))) ready nofun).trans ?_
    refine (lists.serviceCommand (t := s.fetched id) rfl).trans ?_
    exact State.serviceList_applies (s := s.fetched id) free
  · exact State.applyList_notify _ _

/-- The list that comes into force, before its first course is called (R61). -/
def State.listed (l : CourseList) (s : State) : State :=
  (s.updService (fun v => { v with state := .running, list := l, position := 0 })).stageAll l.courses

theorem State.listed_lists (l : CourseList) (s : State) :
    SetsCourses (s.updService (fun v => { v with state := .running, list := l, position := 0 })) (s.listed l)
      ∧ ∀ c : CourseId, (s.listed l).courses[c]
        = if c ∈ l.courses ∧ ((s.courses[c]).state = .idle ∨ (s.courses[c]).state = .cleared) then
            { (s.courses[c]) with state := .staged }
          else s.courses[c] := State.stageAll_stages _ _

/-- The first course of a list is STAGED when the list comes into force, unless it is FIRED, HELD or PASSED. -/
theorem State.listed_first {l : CourseList} (mem : c ∈ l.courses) (h : (s.courses[c]).state.Stages) :
    (s.listed l).courses[c] = { (s.courses[c]) with state := .staged } := by
  rw [(s.listed_lists l).2 c]
  rcases h with h | h | h
  · exact if_pos ⟨mem, .inl h⟩
  · rw [if_neg (by rw [h]; rintro ⟨-, h | h⟩ <;> exact nomatch h), ← h]
  · exact if_pos ⟨mem, .inr h⟩

theorem State.applyList_stages {l : CourseList} (first : l.courses.head? = some c) (h : (s.courses[c]).state.Stages) :
    s.applyList l = (s.listed l).autoFire c := by
  have mem : c ∈ l.courses := List.mem_of_mem_head? first
  have staged : ((s.listed l).courses[c]).state = .staged := by rw [State.listed_first mem h]
  rw [State.applyList_calls first]
  change (s.listed l).call c = _
  rw [State.call_stages (.inr (.inl staged)), State.stage_staged staged]

theorem State.applyList_stalls {l : CourseList} (first : l.courses.head? = some c) (h : (s.courses[c]).state.Stalls) :
    s.applyList l = ((s.listed l).updService (fun v => { v with state := .stalled })).setCondition
      (fun n => { n with stall := true }) := by
  have same : (s.listed l).courses[c] = s.courses[c] := by
    rw [(s.listed_lists l).2 c]
    refine if_neg ?_
    rintro ⟨-, g | g⟩ <;> rw [g] at h <;> rcases h with h | h | h <;> exact nomatch h
  rw [State.applyList_calls first]
  exact State.call_stalls (s := s.listed l) (by rw [same]; exact h)

theorem ListsCourses.of_not_bad {count cycle : Byte} {courses : Vector Byte 8} {l : List CourseId} {bad : Prop}
    (hbad : bad ↔ count.toNat = 0 ∨ 8 < count.toNat ∨ 1 < cycle.toNat
      ∨ ∃ i < count.toNat, ∃ x, courses.toList[i]? = some x ∧ s.plan.courseCount ≤ x.toNat) (good : ¬bad)
    (same : l.map (fun c => c.val) = (courses.toList.take count.toNat).map (fun c => c.toNat)) :
    ListsCourses s count cycle courses l := by
  rw [hbad, not_or, not_or, not_or] at good
  obtain ⟨some', fits, once, planned⟩ := good
  refine ⟨some', by omega, by omega, same, fun c hc => ?_⟩
  have mem : c.val ∈ (courses.toList.take count.toNat).map (fun c => c.toNat) := by
    rw [← same]
    exact List.mem_map.2 ⟨c, hc, rfl⟩
  obtain ⟨x, hx, value⟩ := List.mem_map.1 mem
  obtain ⟨i, hi, at'⟩ := List.mem_take_iff_getElem.1 hx
  refine not_le.1 fun past => planned ⟨i, by omega, x, ?_, by omega⟩
  rw [List.getElem?_eq_getElem (by omega), at']

/-- Settles O38, by the state of the service. -/
theorem serviceListIsAppliedOrHeld : Obligations.ServiceListIsAppliedOrHeld := by
  intro s n count cycle courses bad l ready returns hbad _
  have known : Command.service count.toNat cycle.toNat (courses.toList.map (fun c => c.toNat)) ≠ .unknown := nofun
  refine ⟨fun isBad => ⟨_, rfl, State.takeAs_stands returns ready known fun id => ?bad⟩, fun good same => ?_⟩
  case bad =>
    refine State.serviceCommand_bad (s := s.fetched id) ((hbad.1 isBad).imp_right fun h => h.imp_right fun h =>
      h.imp_right ?_)
    rintro ⟨i, hi, x, hx, past⟩
    refine ⟨x.toNat, ?_, past⟩
    rw [← List.map_take]
    refine List.mem_map.2 ⟨x, List.mem_of_getElem? (i := i) ?_, rfl⟩
    rw [List.getElem?_take, if_pos hi, hx]
  have lists := ListsCourses.of_not_bad hbad good same
  refine ⟨fun runs => ?holds, fun free first head => ⟨fun stages off => ?applies, fun stalls => ?stalls⟩⟩
  case holds =>
    obtain ⟨id, finishes⟩ := State.takeAs_finishes returns (s.takesEntries_of_ready ready)
    have judged := (State.judge_ready (s := s.fetched id) ready known).trans
      ((lists.serviceCommand (t := s.fetched id) rfl).trans (State.serviceList_holds (s := s.fetched id) runs))
    have done := finishes _ _ _ judged rfl rfl rfl
    exact ⟨_, rfl, ⟨done.completes, done.leaves.rebase rfl⟩, done.service rfl⟩
  case applies =>
    obtain ⟨id, t, runs, finishes⟩ := exec_servicesApplies ready returns lists free
    obtain ⟨sets, courses'⟩ := (s.fetched id).listed_lists { courses := l, cycle := cycle.toNat == 1 }
    have applies := State.applyList_stages (s := s.fetched id) (l := { courses := l, cycle := cycle.toNat == 1 }) head
      stages
    have staged := State.listed_first (s := s.fetched id) (l := { courses := l, cycle := cycle.toNat == 1 })
      (List.mem_of_mem_head? head) stages
    rw [applies, State.autoFire_off (by rw [staged]; exact off)] at finishes
    have leaves := finishes.leaves
    refine ⟨t, runs, ⟨finishes.completes, leaves.rebase ?_⟩, finishes.service (sets.marks.service rfl), fun c => ?_⟩
    · rw [leaves.courses]
      have only := sets.only
      unfold SameTables
      generalize ((s.fetched id).listed { courses := l, cycle := cycle.toNat == 1 }) = u at only ⊢
      generalize u.courses = cs, u.marks = marks at only ⊢
      subst only
      rfl
    · rw [leaves.courses, courses']
      rfl
  case stalls =>
    obtain ⟨id, t, runs, finishes⟩ := exec_servicesApplies ready returns lists free
    have applies := State.applyList_stalls (s := s.fetched id) (l := { courses := l, cycle := cycle.toNat == 1 }) head
      stalls
    have sets := ((s.fetched id).listed_lists { courses := l, cycle := cycle.toNat == 1 }).1
    rw [applies] at finishes
    have leaves := finishes.leaves
    have service := leaves.service
    refine ⟨t, runs, finishes.completes, ?_, ?_, ?_, leaves.stall, finishes.service rfl⟩
    · rw [service]
      rfl
    · rw [service]
      exact congrArg Service.position sets.service
    · rw [service]
      exact congrArg (fun v => v.list.courses) sets.service

end Sys2Proof.Machine

/-! SUPPORT. The finish of a batch, of which O17, O18, O32, O33 and O39 tell: the records that a finish leaves, the entry
that the last one frees with its outcome, and the course that it may clear (R27 to R29, R58). -/

namespace Sys2Proof.Machine

-- ## Tables without some of their numbers

section
variable {α : Type} {f : α → α} {j k r : Nat}

theorem Table.filter_update {p : Nat → Bool} (out : p k = false) (t : Table α) :
    (Table.update k f t).filter (fun e => p e.1) = t.filter (fun e => p e.1) := by
  induction t with
  | nil => rfl
  | cons e t ih =>
    rw [Table.update]
    split
    · next same =>
      rw [← same] at out
      simp [out]
    · rw [List.filter_cons, List.filter_cons, ih]

theorem Table.erase_update (t : Table α) : Table.erase k (Table.update k f t) = Table.erase k t :=
  Table.filter_update (p := fun j => j != k) (bne_self_eq_false k) t

theorem eraseBatches_eq_filter (rs : List Nat) (p : Table Batch) :
    eraseBatches rs p = p.filter (fun e => !rs.contains e.1) := by
  induction rs generalizing p with
  | nil => exact (List.filter_eq_self.2 fun _ _ => rfl).symm
  | cons r rs ih =>
    refine (ih (Table.erase r p)).trans ?_
    rw [Table.erase, List.filter_filter]
    refine List.filter_congr fun e _ => ?_
    rw [List.contains_cons, Bool.not_or, Bool.and_comm]
    rfl

theorem eraseBatches_update {rs : List Nat} {g : Batch → Batch} (mem : r ∈ rs) (p : Table Batch) :
    eraseBatches rs (Table.update r g p) = eraseBatches rs p := by
  rw [eraseBatches_eq_filter, eraseBatches_eq_filter]
  exact Table.filter_update (p := fun j => !rs.contains j) (by simp [mem]) p

theorem get?_eraseBatches_other {rs : List Nat} (out : r ∉ rs) (p : Table Batch) :
    Table.get? r (eraseBatches rs p) = Table.get? r p := by
  induction rs generalizing p with
  | nil => rfl
  | cons a rs ih =>
    obtain ⟨other, later⟩ := not_or.1 (mt List.mem_cons.2 out)
    exact (ih later (Table.erase a p)).trans (Table.get?_erase_other other p)

theorem get?_eraseBatches_mem {rs : List Nat} (mem : r ∈ rs) (p : Table Batch) :
    Table.get? r (eraseBatches rs p) = none := by
  induction rs generalizing p with
  | nil => exact absurd mem List.not_mem_nil
  | cons a rs ih =>
    by_cases later : r ∈ rs
    · exact ih later _
    · obtain rfl : r = a := (List.mem_cons.1 mem).resolve_right later
      have erased : Table.get? r (Table.erase r p) = none := Table.get?_erase_same r p
      exact (get?_eraseBatches_other later (Table.erase r p)).trans erased

end

-- ## One finish

variable {s t : State} {r : Nat} {b : Batch} {k : Ticket} {c : CourseId}

def Batch.inState (x : BatchState) (b : Batch) : Batch := { b with state := x }

/-- A batch in its final state, with the counts of its finish (R27). -/
def State.counted (r : Nat) (x : BatchState) (e : Nat) (c : CourseId) (s : State) : State :=
  (s.updBatch r (Batch.inState x)).countFinish e c

/-- A finish before the course may clear: the last finish of a ticket frees its entry (R28). -/
def State.settled (r : Nat) (x : BatchState) (e : Nat) (k : Ticket) (s : State) : State :=
  if k.finished + 1 = k.batches.length then (s.counted r x e k.course).freeEntry e k else s.counted r x e k.course

theorem State.finishBatch_eq {x : BatchState} (hb : s.batch? r = some b) (hk : s.ticketOf? b = some k) :
    s.finishBatch r x = (s.settled r x b.owner k).clearIfDone k.course := by
  unfold State.finishBatch
  rw [hb]
  simp only [hk]
  rfl

theorem State.settled_last {x : BatchState} {e : Nat} (last : k.finished + 1 = k.batches.length) :
    s.settled r x e k = (s.counted r x e k.course).freeEntry e k := if_pos last

theorem State.settled_more {x : BatchState} {e : Nat} (more : k.finished + 1 ≠ k.batches.length) :
    s.settled r x e k = s.counted r x e k.course := if_neg more

/-- A course with one open batch less (R27). -/
def Course.lessOpen (x : Course) : Course := { x with openCount := x.openCount - 1 }

/-- A ticket with one finished batch more (R27). -/
def Ticket.oneMore (k : Ticket) : Ticket := { k with finished := k.finished + 1 }

/-- What a finish of a batch of the course `c` leaves, before the course may clear. -/
structure Settles (c : CourseId) (s t : State) : Prop where
  stations : t.stations = s.stations
  service : t.service = s.service
  conditions : t.conditions = s.conditions
  faults : t.faults = s.faults
  overflow : t.overflow = s.overflow
  part : t.part = s.part
  straps : t.straps = s.straps
  courses : t.courses = s.courses.set c (s.courses[c]).lessOpen

theorem State.counted_settles (r : Nat) (x : BatchState) (e : Nat) (c : CourseId) (s : State) :
    Settles c s (s.counted r x e c) := ⟨rfl, rfl, rfl, rfl, rfl, rfl, rfl, rfl⟩

theorem Settles.freeEntry (h : Settles c s t) (e : Nat) (k : Ticket) : Settles c s (t.freeEntry e k) :=
  ⟨h.stations, h.service, h.conditions, h.faults, h.overflow, h.part, h.straps, h.courses⟩

theorem State.settled_settles (r : Nat) (x : BatchState) (e : Nat) (k : Ticket) (s : State) :
    Settles k.course s (s.settled r x e k) := by
  unfold State.settled
  split
  · exact (s.counted_settles r x e k.course).freeEntry e k
  · exact s.counted_settles r x e k.course

theorem Settles.course (h : Settles c s t) : t.courses[c] = (s.courses[c]).lessOpen := by
  rw [h.courses]
  exact getElem_set_fin_self _ _ _

theorem Settles.liveCount (h : Settles c s t) : t.liveCount = s.liveCount := by
  refine State.liveCount_congr fun d => ?_
  rw [h.courses, getElem_set_fin]
  split
  · next same => exact same ▸ rfl
  · rfl

-- ## The batches and the entry that a finish leaves

theorem State.counted_batch {x : BatchState} {e : Nat} (q : Nat) :
    (s.counted r x e c).batch? q = if q = r then (s.batch? q).map (Batch.inState x) else s.batch? q :=
  s.updBatch_batch r q (Batch.inState x)

theorem State.settled_batch_more {x : BatchState} {e : Nat} (more : k.finished + 1 ≠ k.batches.length)
    (hb : s.batch? r = some b) : (s.settled r x e k).batch? r = some { b with state := x } := by
  rw [State.settled_more more, State.counted_batch, if_pos rfl, hb]
  rfl

theorem State.settled_ticket_more {x : BatchState} {e : Nat} (more : k.finished + 1 ≠ k.batches.length)
    (hk : Table.get? e s.tickets = some k) : Table.get? e (s.settled r x e k).tickets = some k.oneMore
      ∧ (s.settled r x e k).locks = s.locks ∧ (s.settled r x e k).logIndex = s.logIndex := by
  rw [State.settled_more more]
  refine ⟨?_, rfl, rfl⟩
  have updated : Table.get? e (Table.update e Ticket.oneMore s.tickets) = (Table.get? e s.tickets).map Ticket.oneMore :=
    Table.get?_update_same e Ticket.oneMore s.tickets
  exact updated.trans (congrArg (Option.map Ticket.oneMore) hk)

/-- What the freeing of an entry leaves (R28, R29). -/
theorem State.settled_freed {x : BatchState} {e : Nat} (last : k.finished + 1 = k.batches.length) (mem : r ∈ k.batches) :
    (s.settled r x e k).tickets = Table.erase e s.tickets ∧ (s.settled r x e k).pool = eraseBatches k.batches s.pool
      ∧ (s.settled r x e k).locks = s.locks.filter (fun l => l != k.line)
      ∧ (s.settled r x e k).logIndex = (s.logIndex + 1) % 128 := by
  rw [State.settled_last last]
  exact ⟨Table.erase_update s.tickets, eraseBatches_update mem s.pool, rfl, rfl⟩

theorem State.settled_issues {x : BatchState} {e : Nat} (last : k.finished + 1 = k.batches.length) :
    Issues s (s.settled r x e k) (anchorWrite s.straps .finishedLog (offFinished s.logIndex)
      (finishedBytes k ((s.counted r x e k.course).outcome k))) := by
  rw [State.settled_last last]
  refine Issues.of_enqueue (q := s.counted r x e k.course) (u := (s.counted r x e k.course).freeEntry e k) le_rfl rfl
    (PortGrows.refl _)

/-- A finish leaves a batch that is not of the ticket's list, and is not the one that finishes, in its final state. -/
theorem State.settled_unknown {x : BatchState} {e : Nat} (last : k.finished + 1 = k.batches.length)
    (mem : r ∈ k.batches) {q : Nat} (hq : q ∈ k.batches) : (s.settled r x e k).batch? q = none := by
  obtain ⟨-, pool, -⟩ := State.settled_freed (s := s) (x := x) (e := e) last mem
  unfold State.batch?
  rw [pool]
  exact get?_eraseBatches_mem hq s.pool

/-- Wherever the batch that has finished still has a record, the record is in the final state. -/
theorem State.settled_state {x : BatchState} {e : Nat} {b' : Batch} (known : (s.settled r x e k).batch? r = some b') :
    b'.state = x := by
  have final {p : Option Batch} (h : p.map (Batch.inState x) = some b') : b'.state = x := by
    obtain ⟨b, -, rfl⟩ := Option.map_eq_some_iff.1 h
    rfl
  have counted : (s.counted r x e k.course).batch? r = (s.batch? r).map (Batch.inState x) := by
    rw [State.counted_batch, if_pos rfl]
  by_cases last : k.finished + 1 = k.batches.length
  · rw [State.settled_last last] at known
    by_cases mem : r ∈ k.batches
    · exact absurd ((get?_eraseBatches_mem mem _).symm.trans known) nofun
    · have kept : ((s.counted r x e k.course).freeEntry e k).batch? r = (s.counted r x e k.course).batch? r :=
        get?_eraseBatches_other mem _
      exact final (counted.symm.trans (kept.symm.trans known))
  · rw [State.settled_more last, counted] at known
    exact final known

-- ## The outcome

/-- A test of the states of a ticket's batches when one of them has just finished. -/
theorem State.counted_states {x : BatchState} {e : Nat} (p : BatchState → Bool) (hb : s.batch? r = some b)
    (mem : r ∈ k.batches) :
    (k.batches.filterMap (fun q => ((s.counted r x e c).batch? q).map (fun b => b.state))).all p = true
      ↔ p x = true ∧ ∀ q ∈ k.batches, q ≠ r → ∀ o, s.batch? q = some o → p o.state = true := by
  have own : (s.counted r x e c).batch? r = some (b.inState x) := by rw [State.counted_batch, if_pos rfl, hb]; rfl
  have other : ∀ q, q ≠ r → (s.counted r x e c).batch? q = s.batch? q := fun q hq => by
    rw [State.counted_batch, if_neg hq]
  simp only [List.all_eq_true, List.mem_filterMap, Option.map_eq_some_iff]
  constructor
  · intro all
    refine ⟨all x ⟨r, mem, _, own, rfl⟩, fun q hq ne o ho => all o.state ⟨q, hq, o, ?_, rfl⟩⟩
    rw [other q ne, ho]
  · rintro ⟨final, rest⟩ y ⟨q, hq, o, ho, rfl⟩
    by_cases same : q = r
    · rw [same, own] at ho
      obtain rfl := Option.some.inj ho
      exact final
    · rw [other q same] at ho
      exact rest q hq same o ho

/-- The outcome of a ticket whose last batch has just finished (R29). -/
theorem State.counted_outcome {x : BatchState} {e : Nat} (hb : s.batch? r = some b) (mem : r ∈ k.batches) :
    (x = .done → (∀ q ∈ k.batches, q ≠ r → ∀ o, s.batch? q = some o → o.state = .done) →
        (s.counted r x e c).outcome k = .allDone)
      ∧ (x = .void → (∀ q ∈ k.batches, q ≠ r → ∀ o, s.batch? q = some o → o.state = .void) →
        (s.counted r x e c).outcome k = .allVoid)
      ∧ (x = .done ∨ x = .void → (∃ q ∈ k.batches, q ≠ r ∧ ∃ o, s.batch? q = some o ∧ o.state ≠ x) →
        (s.counted r x e c).outcome k = .partVoid) := by
  have all (y : BatchState) := State.counted_states (s := s) (x := x) (e := e) (c := c) (k := k) (· == y) hb mem
  simp only [beq_iff_eq] at all
  unfold State.outcome
  refine ⟨fun final rest => if_pos ((all .done).2 ⟨final, rest⟩), fun final rest => ?_, fun final mixed => ?_⟩
  · refine (if_neg fun done => ?_).trans (if_pos ((all .void).2 ⟨final, rest⟩))
    exact absurd (final.symm.trans ((all .done).1 done).1) nofun
  · obtain ⟨q, hq, ne, o, ho, differs⟩ := mixed
    have never (y : BatchState) (same : (k.batches.filterMap fun q =>
        ((s.counted r x e c).batch? q).map (fun b => b.state)).all (· == y) = true) : False := by
      obtain ⟨final, rest⟩ := (all y).1 same
      exact differs ((rest q hq ne o ho).trans final.symm)
    exact (if_neg (never .done)).trans (if_neg (never .void))

end Sys2Proof.Machine

/-! SUPPORT. O33: VOID of the one batch of a ticket, by the state in which the command finds it (R26, R96, R104). -/

namespace Sys2Proof.Machine

variable {s t : State} {st : StationId} {r e : Nat} {b : Batch} {k : Ticket}

-- ## The row of a VOID that is taken

def Ticket.void (k : Ticket) : Ticket := { k with voided := true }

/-- The batches of a ticket that is voided, taken one by one (R26). -/
def State.voidAll (rs : List Nat) (s : State) : State := rs.foldl State.voidBatch s

theorem State.voidAll_work (rs : List Nat) (s : State) : TicketWork s (s.voidAll rs) := by
  induction rs generalizing s with
  | nil => exact .refl s
  | cons r rs ih => exact (s.voidBatch_work r).trans (ih (s.voidBatch r))

theorem State.voidCommand_past {line : Nat} (past : s.lineCount ≤ line) : s.voidCommand line = (.ended .badField 0, s) :=
  if_pos past

theorem State.voidCommand_none {line : Nat} (inside : line < s.lineCount) (unposted : s.entryOfLine? line = none) :
    s.voidCommand line = (.ended .notPosted 0, s) := by
  unfold State.voidCommand
  rw [if_neg (not_le.2 inside), unposted]

theorem State.voidCommand_entry {line : Nat} (inside : line < s.lineCount) (entry : s.entryOfLine? line = some (e, k)) :
    s.voidCommand line = if k.voided then (.ended .done 0, s)
      else (.ended .done 0, (s.updTicket e Ticket.void).voidAll k.batches) := by
  unfold State.voidCommand
  rw [if_neg (not_le.2 inside), entry]
  rfl

/-- The row of a VOID that voids the batches of its ticket. -/
theorem exec_voids {n : Bool} {line : BitVec 16} (ready : s.part = .ready) (returns : s.EntryReturns n (.void line.toNat))
    (inside : line.toNat < s.lineCount) (entry : s.entryOfLine? line.toNat = some (e, k)) (fresh : k.voided = false) :
    ∃ id, ∀ w, ((s.fetched id).updTicket e Ticket.void).voidAll k.batches = w →
      w.conditions.notify = s.conditions.notify →
      ∃ t, exec (.void n line) s = .next t ∧ Finishes s w t n .done 0 := by
  obtain ⟨id, finishes⟩ := State.takeAs_finishes returns (s.takesEntries_of_ready ready)
  refine ⟨id, fun w voids notify => ⟨_, rfl, ?_⟩⟩
  have work := ((s.fetched id).updTicket e Ticket.void).voidAll_work k.batches
  rw [voids] at work
  refine finishes .done 0 w ?_ work.intake work.part notify
  refine (State.judge_ready (s := s.fetched id) (c := .void line.toNat) ready nofun).trans ?_
  refine (State.voidCommand_entry (s := s.fetched id) inside entry).trans ?_
  rw [fresh, voids]
  rfl

theorem State.voided_ticket (hk : Table.get? e s.tickets = some k) (owner : b.owner = e) :
    (s.updTicket e Ticket.void).ticketOf? b = some k.void := by
  have updated : Table.get? e (Table.update e Ticket.void s.tickets) = (Table.get? e s.tickets).map Ticket.void :=
    Table.get?_update_same e Ticket.void s.tickets
  unfold State.ticketOf?
  rw [owner]
  exact updated.trans (congrArg (Option.map Ticket.void) hk)

-- ## A VOIDED batch leaves its station

theorem State.voidBatch_due (hb : s.batch? r = some b) (due : b.state = .due) :
    s.voidBatch r = (s.updStation b.target (Station.unqueue r)).finishBatch r .void := by
  unfold State.voidBatch
  rw [hb]
  simp only [due]

/-- A station without one of its STRANDED batches. -/
def Station.unstrand (r : Nat) (x : Station) : Station := { x with stranded := x.stranded.filter (fun q => q != r) }

theorem State.voidBatch_stranded (hb : s.batch? r = some b) (stranded : b.state = .stranded) :
    s.voidBatch r = (s.updStation b.target (Station.unstrand r)).finishBatch r .void := by
  unfold State.voidBatch
  rw [hb]
  simp only [stranded]
  rfl

/-- A batch has left its slot, its bump entry is cleared, and the timer has seen it go (R96, R104). -/
def State.departed (st : StationId) (j : SlotId) (s : State) : State :=
  ((s.updStation st (Station.vacate j)).clearBump st j).departTimer st

theorem State.voidBatch_shown {j : SlotId} (hb : s.batch? r = some b) (shown : b.state = .shown j) :
    s.voidBatch r = ((s.departed b.target j).finishBatch r .void).checkShow b.target := by
  unfold State.voidBatch
  rw [hb]
  simp only [shown]
  rfl

theorem Issues.before {u : State} {m : MemRequest} (h : Issues u t m) (nextId : s.port.nextId ≤ u.port.nextId) :
    Issues s t m := by
  obtain ⟨id, entered, mem⟩ := h
  exact ⟨id, nextId.trans entered, mem⟩

theorem State.departed_issues (st : StationId) (j : SlotId) (s : State) :
    Issues s (s.departed st j) (anchorWrite s.straps (.bumpClear st) (offBump st j) (zeros 8)) :=
  Issues.of_enqueue (q := s.updStation st (Station.vacate j))
    (u := (s.updStation st (Station.vacate j)).clearBump st j) le_rfl rfl (State.departTimer_work st _).port

/-- The unread batches of a station that has just lost the one in slot `j`. -/
theorem State.vacate_unread (st : StationId) (j i : SlotId) (s : State) :
    (s.updStation st (Station.vacate j)).slotUnread st i = (decide (i ≠ j) && s.slotUnread st i) := by
  have slot : ((s.updStation st (Station.vacate j)).stations[st]).slots[i]
      = if i = j then none else (s.stations[st]).slots[i] := by
    rw [State.updStation_station_self, Station.vacate_slot]
  unfold State.slotUnread State.slotBatch
  rw [slot]
  by_cases same : i = j
  · simp [same]
  · simp only [decide_true, ne_eq, same, not_false_eq_true, Bool.true_and]
    rfl

/-- A station that has lost the batch in slot `j` (R96, R104). -/
def Station.without (j : SlotId) (unread : Bool) (x : Station) : Station :=
  { x with slots := x.slots.set j none, tokens := x.tokens - 1, timer := if unread then x.timer else none }

theorem State.departed_stations {j : SlotId} (filled : (s.stations[st]).slots[j] = some r) :
    (s.departed st j).stations = s.stations.set st ((s.stations[st]).without j
        ((List.finRange 16).any fun i => decide (i ≠ j) && s.slotUnread st i))
      ∧ (s.departed st j).pool = s.pool ∧ (s.departed st j).courses = s.courses
      ∧ (s.departed st j).tickets = s.tickets ∧ (s.departed st j).conditions = s.conditions := by
  have vacate : (s.stations[st]).vacate j
      = { (s.stations[st]) with slots := (s.stations[st]).slots.set j none, tokens := (s.stations[st]).tokens - 1 } := by
    unfold Station.vacate
    rw [filled]
    rfl
  have unread : ((s.updStation st (Station.vacate j)).clearBump st j).hasUnread st
      = (List.finRange 16).any fun i => decide (i ≠ j) && s.slotUnread st i :=
    congrArg (List.finRange 16).any (funext fun i => s.vacate_unread st j i)
  unfold State.departed State.departTimer
  rw [unread]
  split
  · refine ⟨?_, rfl, rfl, rfl, rfl⟩
    next any =>
    change s.stations.set st ((s.stations[st]).vacate j) = _
    rw [vacate, any]
    rfl
  · refine ⟨?_, rfl, rfl, rfl, rfl⟩
    next none' =>
    change (s.stations.set st ((s.stations[st]).vacate j)).set st _ = _
    have station : ((s.updStation st (Station.vacate j)).clearBump st j).stations[st] = (s.stations[st]).vacate j :=
      s.updStation_station_self st (Station.vacate j)
    rw [Vector.set_set, Bool.eq_false_iff.2 none', station, vacate]
    rfl

-- ## The one batch of a ticket

section
variable (one : k.batches = [r]) (fresh : k.finished = 0)
include one fresh

theorem Ticket.void_last : k.void.finished + 1 = k.void.batches.length := by
  change k.finished + 1 = k.batches.length
  rw [one, fresh]
  rfl

/-- VOID of the one batch of a ticket whose course has not passed frees the entry and leaves the course (R26, R28). -/
theorem State.finishBatch_one (hb : s.batch? r = some b) (hk : s.ticketOf? b = some k.void)
    (going : (s.courses[k.course]).state ≠ .passed) : s.finishBatch r .void = s.settled r .void b.owner k.void
      ∧ (s.finishBatch r .void).stations = s.stations
      ∧ (s.finishBatch r .void).tickets = Table.erase b.owner s.tickets ∧ (s.finishBatch r .void).batch? r = none
      ∧ (s.finishBatch r .void).conditions = s.conditions := by
  have mem : r ∈ k.void.batches := by
    change r ∈ k.batches
    rw [one]
    exact List.mem_cons_self
  have settles := s.settled_settles r .void b.owner k.void
  have same : s.finishBatch r .void = s.settled r .void b.owner k.void := by
    rw [State.finishBatch_eq hb hk, State.clearIfDone_open]
    rw [settles.course]
    exact .inl going
  rw [same]
  exact ⟨rfl, settles.stations, (State.settled_freed (Ticket.void_last one fresh) mem).1,
    State.settled_unknown (Ticket.void_last one fresh) mem mem, settles.conditions⟩

end

/-- Settles O33, by the state of the batch: it leaves its queue, its stranded set or its slot, and its finish is the last
of its ticket. -/
theorem voidLeavesTheStation : Obligations.VoidLeavesTheStation := by
  intro s n line e r k b ready returns inside entry fresh hk one none' hb owner going
  obtain ⟨id, voids⟩ := exec_voids ready returns inside entry fresh
  have ticket : ((s.fetched id).updTicket e Ticket.void).ticketOf? b = some k.void :=
    State.voided_ticket (s := s.fetched id) hk owner
  have first (w : State) (step : ((s.fetched id).updTicket e Ticket.void).voidBatch r = w) :
      ((s.fetched id).updTicket e Ticket.void).voidAll k.batches = w := by
    rw [one]
    exact step
  have left (f : Station → Station) := State.finishBatch_one
    (s := ((s.fetched id).updTicket e Ticket.void).updStation b.target f)
    one none' hb ticket going
  have erased : Table.erase b.owner (Table.update e Ticket.void s.tickets) = Table.erase e s.tickets := by
    rw [owner]
    exact Table.erase_update s.tickets
  refine ⟨fun due => ?_, fun stranded => ?_, fun j shown filled empty => ?_⟩
  · obtain ⟨-, stations, tickets, unknown, conditions⟩ := left (Station.unqueue r)
    obtain ⟨t, runs, finishes⟩ := voids _
      (first _ (State.voidBatch_due (s := (s.fetched id).updTicket e Ticket.void) hb due))
      (by rw [conditions]; rfl)
    exact ⟨t, runs, finishes.completes, finishes.leaves.stations.trans stations,
      (finishes.leaves.tickets.trans tickets).trans erased, (State.batch_congr finishes.leaves.pool r).trans unknown⟩
  · obtain ⟨-, stations, tickets, unknown, conditions⟩ := left (Station.unstrand r)
    obtain ⟨t, runs, finishes⟩ := voids _ (first _
      (State.voidBatch_stranded (s := (s.fetched id).updTicket e Ticket.void) hb stranded)) (by rw [conditions]; rfl)
    exact ⟨t, runs, finishes.completes, finishes.leaves.stations.trans stations,
      (finishes.leaves.tickets.trans tickets).trans erased, (State.batch_congr finishes.leaves.pool r).trans unknown⟩
  · obtain ⟨stations', pool, courses, tickets', conditions'⟩ :=
      State.departed_stations (s := (s.fetched id).updTicket e Ticket.void) filled
    generalize gone : ((s.fetched id).updTicket e Ticket.void).departed b.target j = u at *
    have issues := ((s.fetched id).updTicket e Ticket.void).departed_issues b.target j
    rw [gone] at issues
    obtain ⟨finish, stations, tickets, unknown, conditions⟩ := State.finishBatch_one (s := u) (b := b) one none'
      ((State.batch_congr pool r).trans hb) ((State.ticketOf_congr tickets' rfl).trans ticket)
        (by rw [courses]; exact going)
    have rests : (u.finishBatch r .void).checkShow b.target = u.finishBatch r .void := by
      refine State.checkShow_idle (State.showing_quiet (.inr (.inl ?_)))
      rw [stations, stations', getElem_set_fin_self]
      exact empty
    have voided := State.voidBatch_shown (s := (s.fetched id).updTicket e Ticket.void) hb shown
    rw [gone, rests] at voided
    obtain ⟨t, runs, finishes⟩ := voids _ (first _ voided) (by rw [conditions, conditions']; rfl)
    refine ⟨t, runs, finishes.completes, ?_, (finishes.leaves.stations.trans stations).trans stations',
      ((finishes.leaves.tickets.trans tickets).trans (congrArg _ tickets')).trans erased,
      (State.batch_congr finishes.leaves.pool r).trans unknown⟩
    exact ((issues.mono (u.finishBatch_work r .void).port).mono finishes.port).before (State.fetched_nextId id s)

end Sys2Proof.Machine

/-! SUPPORT. O32: VOID of the batches of a ticket, COOKING or finished, or all of them PLANNED (R26 to R29). -/

namespace Sys2Proof.Machine

variable {s t u : State} {r e : Nat} {b : Batch} {k : Ticket}

-- ## Batches that have started or finished

/-- VOID of a COOKING batch leaves it in its slot with VOIDED; a finished batch stands (R26). -/
def Batch.void (b : Batch) : Batch := if b.state ≠ .done ∧ b.state ≠ .void then { b with voided := true } else b

/-- A batch that VOID does not take out of a place: it has finished, or it cooks. -/
def Batch.Stays (b : Batch) : Prop := b.state = .done ∨ b.state = .void ∨ ∃ j, b.state = .cooking j

theorem Batch.void_state (b : Batch) : b.void.state = b.state := by
  unfold Batch.void
  split <;> rfl

theorem Batch.void_void (b : Batch) : b.void.void = b.void := by
  by_cases open' : b.state ≠ .done ∧ b.state ≠ .void
  · have voided : b.void = { b with voided := true } := if_pos open'
    rw [voided]
    exact if_pos open'
  · have stands : b.void = b := if_neg open'
    rw [stands, stands]

theorem State.voidBatch_changes : ChangesBatch State.voidBatch Batch.Stays Batch.void := by
  intro s a ok
  unfold State.voidBatch
  split
  · next unknown => exact ChangesBatch.unknown unknown
  · next b hb =>
    rcases ok b hb with done | void | ⟨j, cooking⟩
    · rw [done]
      exact ChangesBatch.stands hb (if_neg fun h => h.1 done)
    · rw [void]
      exact ChangesBatch.stands hb (if_neg fun h => h.2 void)
    · simp only [cooking]
      exact ChangesBatch.updates hb (if_pos (by rw [cooking]; exact ⟨nofun, nofun⟩))

-- ## A ticket whose batches are all PLANNED

theorem State.voidBatch_planned (hb : s.batch? r = some b) (planned : b.state = .planned) :
    s.voidBatch r = s.finishBatch r .void := by
  unfold State.voidBatch
  rw [hb]
  simp only [planned]

/-- `t` is `s` but for tickets, batches, courses and marks. -/
def SetsTables (s t : State) : Prop :=
  t = { s with tickets := t.tickets, pool := t.pool, marks := t.marks, courses := t.courses }

theorem SetsTables.trans (h : SetsTables s t) (g : SetsTables t u) : SetsTables s u := by
  unfold SetsTables at h g ⊢
  generalize u.tickets = tickets, u.pool = pool, u.marks = marks, u.courses = courses at g ⊢
  subst g
  generalize t.tickets = tickets', t.pool = pool', t.marks = marks', t.courses = courses' at h
  subst h
  rfl

/-- In `u` the batches `ps` of the voided ticket `k` of entry `e` have finished as VOID, and others of it are to come. -/
structure Voiding (s : State) (e : Nat) (k : Ticket) (ps : List Nat) (u : State) : Prop where
  only : SetsTables s u
  courses : u.courses = s.courses.set k.course { (s.courses[k.course]) with
    openCount := (s.courses[k.course]).openCount - ps.length }
  ticket : Table.get? e u.tickets = some { k with voided := true, finished := ps.length }
  entry : Table.erase e u.tickets = Table.erase e s.tickets
  pool : eraseBatches k.batches u.pool = eraseBatches k.batches s.pool
  batch : ∀ q, u.batch? q = if q ∈ ps then (s.batch? q).map (Batch.inState .void) else s.batch? q

theorem Voiding.start (hk : Table.get? e s.tickets = some k) (none' : k.finished = 0) :
    Voiding s e k [] (s.updTicket e Ticket.void) where
  only := (rfl)
  courses := (Vector.set_getElem_self k.course.isLt).symm
  ticket := by
    have updated : Table.get? e (Table.update e Ticket.void s.tickets) = (Table.get? e s.tickets).map Ticket.void :=
      Table.get?_update_same e Ticket.void s.tickets
    refine updated.trans ((congrArg (Option.map Ticket.void) hk).trans ?_)
    unfold Ticket.void
    rw [Option.map_some, List.length_nil, ← none']
  entry := Table.erase_update s.tickets
  pool := rfl
  batch _ := (if_neg List.not_mem_nil).symm

theorem State.counted_only (r : Nat) (x : BatchState) (e : Nat) (c : CourseId) (s : State) :
    SetsTables s (s.counted r x e c) := (rfl)

theorem State.freeEntry_only (e : Nat) (k : Ticket) (s : State) : s.freeEntry e k = { s with
    tickets := Table.erase e s.tickets, pool := eraseBatches k.batches s.pool
    locks := s.locks.filter (fun l => l != k.line), logIndex := (s.logIndex + 1) % 128
    port := (s.freeEntry e k).port } := rfl

theorem courses_set_set (cs : Vector Course 16) (c : CourseId) (x y : Course) : (cs.set c x).set c y = cs.set c y :=
  Vector.set_set ..

section
variable {ps : List Nat}

/-- The ticket in whose name a batch is voided after `ps`. -/
def Ticket.voidedTo (k : Ticket) (ps : List Nat) : Ticket := { k with voided := true, finished := ps.length }

theorem Voiding.voidBatch (h : Voiding s e k ps u) (out : r ∉ ps) (hb : s.batch? r = some b) (planned : b.state = .planned)
    (owner : b.owner = e) (going : (s.courses[k.course]).state ≠ .passed) : u.batch? r = some b
      ∧ u.voidBatch r = u.settled r .void e (k.voidedTo ps) := by
  have hb' : u.batch? r = some b := by rw [h.batch, if_neg out, hb]
  have hk : u.ticketOf? b = some (k.voidedTo ps) := by
    unfold State.ticketOf?
    rw [owner]
    exact h.ticket
  refine ⟨hb', ?_⟩
  rw [State.voidBatch_planned hb' planned, State.finishBatch_eq hb' hk, owner, State.clearIfDone_open]
  have course : (u.settled r .void e (k.voidedTo ps)).courses[k.course] = (u.courses[k.course]).lessOpen :=
    (State.settled_settles ..).course
  refine .inl fun passed => going ?_
  have state := congrArg Course.state course
  rw [h.courses, getElem_set_fin_self] at state
  exact state.symm.trans passed

theorem Voiding.courses_less (h : Voiding s e k ps u) : u.courses.set k.course (u.courses[k.course]).lessOpen
    = s.courses.set k.course { (s.courses[k.course]) with
        openCount := (s.courses[k.course]).openCount - (ps ++ [r]).length } := by
  rw [h.courses, courses_set_set, getElem_set_fin_self, List.length_append]
  rfl

theorem Voiding.more (h : Voiding s e k ps u) (out : r ∉ ps) (mem : r ∈ k.batches)
    (later : ps.length + 1 ≠ k.batches.length)
    (hb : s.batch? r = some b) (planned : b.state = .planned) (owner : b.owner = e)
    (going : (s.courses[k.course]).state ≠ .passed) : Voiding s e k (ps ++ [r]) (u.voidBatch r) := by
  have voids := (h.voidBatch out hb planned owner going).2.trans (State.settled_more later)
  rw [voids]
  refine ⟨?_, h.courses_less, ?_, (Table.erase_update u.tickets).trans h.entry,
    (eraseBatches_update mem u.pool).trans h.pool, fun q => ?_⟩
  · exact h.only.trans (State.counted_only ..)
  · have updated : Table.get? e (Table.update e Ticket.oneMore u.tickets) = (Table.get? e u.tickets).map Ticket.oneMore :=
      Table.get?_update_same e Ticket.oneMore u.tickets
    refine updated.trans ((congrArg (Option.map Ticket.oneMore) h.ticket).trans ?_)
    rw [List.length_append]
    rfl
  · have appended : q ∈ ps ++ [r] ↔ q ∈ ps ∨ q = r := by rw [List.mem_append, List.mem_singleton]
    rw [State.counted_batch, h.batch]
    by_cases same : q = r
    · rw [if_pos same, if_pos (appended.2 (.inr same)), if_neg (same ▸ out)]
    · rw [if_neg same]
      exact if_congr (by simp [same]) rfl rfl

/-- Batches of the ticket that are all PLANNED, with another to come after them. -/
theorem Voiding.all {rs : List Nat} (h : Voiding s e k ps u) (sub : ∀ q ∈ rs, q ∈ k.batches)
    (later : (ps ++ rs).length < k.batches.length) (distinct : (ps ++ rs).Nodup)
    (planned : ∀ q ∈ rs, ∃ b, s.batch? q = some b ∧ b.state = .planned ∧ b.owner = e)
    (going : (s.courses[k.course]).state ≠ .passed) : Voiding s e k (ps ++ rs) (u.voidAll rs) := by
  induction rs generalizing ps u with
  | nil => rwa [List.append_nil]
  | cons r rs ih =>
    obtain ⟨b, hb, isPlanned, owner⟩ := planned r List.mem_cons_self
    have out : r ∉ ps := fun mem => (List.nodup_append.1 distinct).2.2 r mem r List.mem_cons_self rfl
    have rest : ps ++ r :: rs = (ps ++ [r]) ++ rs := (List.append_assoc ps [r] rs).symm
    have step := h.more out (sub r List.mem_cons_self) (by simp at later; omega) hb isPlanned owner going
    rw [rest] at later distinct ⊢
    exact ih step (fun q hq => sub q (List.mem_cons_of_mem _ hq)) later distinct
      (fun q hq => planned q (List.mem_cons_of_mem _ hq)) going

/-- The state that VOID of a ticket with PLANNED batches leaves, but for the port and the marks. -/
def State.allVoided (e : Nat) (k : Ticket) (s : State) : State := { s with
  tickets := Table.erase e s.tickets, pool := eraseBatches k.batches s.pool
  locks := s.locks.filter (fun l => l != k.line), logIndex := (s.logIndex + 1) % 128
  courses := s.courses.set k.course { (s.courses[k.course]) with
    openCount := (s.courses[k.course]).openCount - k.batches.length } }

theorem SetsTables.freeEntry {k' : Ticket} (h : SetsTables s t) (batches : k'.batches = k.batches) (line : k'.line = k.line)
    (entry : Table.erase e t.tickets = Table.erase e s.tickets)
    (pool : eraseBatches k.batches t.pool = eraseBatches k.batches s.pool)
    (courses : t.courses = (s.allVoided e k).courses) : SameTables (s.allVoided e k) (t.freeEntry e k') := by
  rw [State.freeEntry_only, batches, line, entry, pool]
  unfold SetsTables at h
  unfold SameTables State.allVoided
  generalize (t.freeEntry e k').port = port
  rw [courses] at h
  generalize t.tickets = tickets, t.pool = pool', t.marks = marks at h
  subst h
  rfl

/-- The last batch: the entry is freed with outcome ALL VOID (R28, R29). -/
theorem Voiding.last (h : Voiding s e k ps u) (out : r ∉ ps) (whole : ps ++ [r] = k.batches)
    (hb : s.batch? r = some b) (planned : b.state = .planned) (owner : b.owner = e)
    (going : (s.courses[k.course]).state ≠ .passed) : SameTables (s.allVoided e k) (u.voidBatch r)
      ∧ Issues u (u.voidBatch r) (anchorWrite s.straps .finishedLog (offFinished s.logIndex)
        (finishedBytes k .allVoid)) := by
  have last : (k.voidedTo ps).finished + 1 = (k.voidedTo ps).batches.length := by
    change ps.length + 1 = k.batches.length
    rw [← whole, List.length_append]
    rfl
  have mem : r ∈ (k.voidedTo ps).batches := by
    change r ∈ k.batches
    rw [← whole]
    exact List.mem_append_right _ List.mem_cons_self
  obtain ⟨hb', voids⟩ := h.voidBatch out hb planned owner going
  have issues : Issues u (u.settled r .void e (k.voidedTo ps)) _ := State.settled_issues last
  have outcome := (State.counted_outcome (s := u) (x := .void) (e := e) (c := k.course) hb' mem).2.1 rfl
    fun q hq ne o ho => by
      have before : q ∈ ps := by
        have mem' : q ∈ ps ++ [r] := whole ▸ hq
        exact (List.mem_append.1 mem').resolve_right fun same => ne (List.mem_singleton.1 same)
      rw [h.batch, if_pos before] at ho
      obtain ⟨b', -, rfl⟩ := Option.map_eq_some_iff.1 ho
      rfl
  have course : (k.voidedTo ps).course = k.course := rfl
  rw [course, outcome] at issues
  have straps : u.straps = s.straps := (congrArg State.straps h.only).trans rfl
  have logIndex : u.logIndex = s.logIndex := (congrArg State.logIndex h.only).trans rfl
  rw [straps, logIndex] at issues
  rw [voids]
  refine ⟨?_, issues⟩
  rw [State.settled_last last]
  have opens := h.courses_less (r := r)
  rw [whole] at opens
  exact (h.only.trans (State.counted_only r .void e k.course u)).freeEntry rfl rfl
    ((Table.erase_update u.tickets).trans h.entry) ((eraseBatches_update mem u.pool).trans h.pool) opens

end

/-- VOID of a ticket with PLANNED batches only. -/
theorem State.voidAll_planned (hk : Table.get? e s.tickets = some k) (some' : k.batches ≠ []) (distinct : k.batches.Nodup)
    (none' : k.finished = 0) (planned : ∀ q ∈ k.batches, ∃ b, s.batch? q = some b ∧ b.state = .planned ∧ b.owner = e)
    (going : (s.courses[k.course]).state ≠ .passed) :
    SameTables (s.allVoided e k) ((s.updTicket e Ticket.void).voidAll k.batches)
      ∧ Issues s ((s.updTicket e Ticket.void).voidAll k.batches)
          (anchorWrite s.straps .finishedLog (offFinished s.logIndex) (finishedBytes k .allVoid)) := by
  obtain ⟨ps, r, whole⟩ := (List.eq_nil_or_concat k.batches).resolve_left some'
  rw [List.concat_eq_append] at whole
  have sub : ∀ q ∈ ps, q ∈ k.batches := fun q hq => whole ▸ List.mem_append_left _ hq
  have distinct' : ps.Nodup ∧ r ∉ ps := by
    rw [whole] at distinct
    obtain ⟨init, -, apart⟩ := List.nodup_append.1 distinct
    exact ⟨init, fun mem => apart r mem r List.mem_cons_self rfl⟩
  obtain ⟨b, hb, isPlanned, owner⟩ := planned r (whole ▸ List.mem_append_right _ List.mem_cons_self)
  have voids := (Voiding.start hk none').all (rs := ps) sub (by rw [whole]; simp) distinct'.1
    (fun q hq => planned q (sub q hq)) going
  rw [List.nil_append] at voids
  obtain ⟨same, issues⟩ := voids.last distinct'.2 whole.symm hb isPlanned owner going
  have steps : (s.updTicket e Ticket.void).voidAll k.batches
      = ((s.updTicket e Ticket.void).voidAll ps).voidBatch r := by
    unfold State.voidAll
    rw [whole, List.foldl_append]
    rfl
  rw [steps]
  exact ⟨same, issues.before (State.voidAll_work ps (s.updTicket e Ticket.void)).port.nextId⟩

/-- Settles O32. COOKING and finished batches change one by one; PLANNED ones finish in turn, the last of them for the
ticket. -/
theorem voidByBatchState : Obligations.VoidByBatchState := by
  intro s n line ready returns
  have stands (status : Status) (done : ∀ id, (s.fetched id).voidCommand line.toNat = (.ended status 0, s.fetched id)) :
      ∃ t, exec (.void n line) s = .next t ∧ EndsWith s s t n status 0 :=
    ⟨_, rfl, State.takeAs_stands returns ready nofun done⟩
  refine ⟨fun past => stands _ fun id => State.voidCommand_past (s := s.fetched id) past,
    fun inside unposted => stands _ fun id => State.voidCommand_none (s := s.fetched id) inside unposted,
    fun e k inside entry => ⟨fun voided => stands _ fun id => ?again, fun fresh stays => ?cooking,
      fun fresh hk some' distinct none' planned going => ?planned⟩⟩
  case again =>
    refine (State.voidCommand_entry (s := s.fetched id) inside entry).trans ?_
    rw [voided]
    rfl
  case cooking =>
    obtain ⟨id, voids⟩ := exec_voids ready returns inside entry fresh
    obtain ⟨sets, batches⟩ := State.voidBatch_changes.foldl (s := (s.fetched id).updTicket e Ticket.void)
      Batch.void_void (fun b h => by unfold Batch.Stays; rw [b.void_state]; exact h) (l := k.batches) fun r hr b hb => by
        obtain ⟨b', hb', state⟩ := stays r hr
        have same : some b' = some b := hb'.symm.trans hb
        exact Option.some.inj same ▸ state
    obtain ⟨t, runs, finishes⟩ := voids _ rfl sets.rest.2.2
    refine ⟨t, runs, SetsPool.ends sets finishes, fun r => ?_⟩
    refine (State.batch_congr finishes.leaves.pool r).trans ((batches r).trans ?_)
    exact map_if_mem (s.batch? r) (fun b => b.state ≠ .done ∧ b.state ≠ .void) fun _ => rfl
  case planned =>
    obtain ⟨id, voids⟩ := exec_voids ready returns inside entry fresh
    obtain ⟨same, issues⟩ := State.voidAll_planned (s := s.fetched id) hk some' distinct none' planned going
    obtain ⟨t, runs, finishes⟩ := voids _ rfl ((congrArg (fun u => u.conditions.notify) same).trans rfl)
    refine ⟨t, runs, ⟨finishes.completes, finishes.leaves.rebase ?_⟩, (issues.mono finishes.port).before
      (s.fetched_nextId id)⟩
    exact same

end Sys2Proof.Machine

/-! SUPPORT. O39: the calling of a course, the boundary, and the clearing of a course, by itself, at SERVICE and at VOID
(R58, R63 to R66). -/

namespace Sys2Proof.Machine

variable {s t u : State} {c : CourseId} {r e : Nat} {b : Batch} {k : Ticket}

-- ## The calling of a course

/-- The calling of a course that is not live (R64, R66). -/
theorem State.call_outcome (h : (s.courses[c]).state.Stages) :
    ((s.courses[c]).plan.autoFire = false → (s.call c).courses[c] = { (s.courses[c]) with state := .staged })
      ∧ ((s.courses[c]).plan.autoFire = true → s.liveCount < 4 → ((s.call c).courses[c]).state = .fired
          ∧ ((s.call c).courses[c]).countdown = (s.courses[c]).plan.countdown)
      ∧ ((s.courses[c]).plan.autoFire = true → 4 ≤ s.liveCount →
          (s.call c).courses[c] = { (s.courses[c]) with state := .staged }
            ∧ Logs s (s.call c) { reason := .liveLimit, source := 63, course := c.val }) := by
  have staged := State.stage_course h
  have live := State.stage_liveCount h
  have same := (s.stage_setsCourses c).only
  rw [State.call_stages h]
  refine ⟨fun off => ?_, fun on room => ?_, fun on full => ?_⟩
  · rw [State.autoFire_off (by rw [staged]; exact off), staged]
  · have fired := State.autoFire_fired (s := s.stage c) (c := c) (by rw [staged]; exact on) (by rw [live]; exact room)
    rw [staged] at fired
    exact fired
  · obtain ⟨courses, logs⟩ := State.autoFire_limit (s := s.stage c) (c := c) (by rw [staged]; exact on)
      (by rw [live]; exact full)
    refine ⟨by rw [courses, staged], logs.congr ?_ ?_ rfl rfl⟩
    · exact ((congrArg State.faults same).trans rfl).symm
    · exact ((congrArg State.overflow same).trans rfl).symm

-- ## The boundary

theorem State.boundary_moves (none' : s.service.pending = none) :
    (s.service.position + 1 < s.service.list.courses.length →
      s.boundary.service.position = s.service.position + 1 ∧ s.boundary.service.list = s.service.list)
    ∧ (s.service.list.courses.length ≤ s.service.position + 1 → s.service.list.cycle = true →
      s.boundary.service.position = 0 ∧ s.boundary.service.list = s.service.list)
    ∧ (s.service.list.courses.length ≤ s.service.position + 1 → s.service.list.cycle = false →
      s.boundary.service.state = .ended ∧ s.boundary.conditions.ended = true ∧ s.boundary.courses = s.courses) := by
  refine ⟨fun more => ?_, fun last cycle => ?_, fun last once => ?_⟩
  · rw [State.boundary_next none' more]
    obtain ⟨position, list, -⟩ := (s.updService (fun v => { v with position := v.position + 1 })).callCurrent_service
    exact ⟨position, list⟩
  · rw [State.boundary_again none' last cycle]
    obtain ⟨position, list, -⟩ := (s.updService (fun v => { v with position := 0 })).callCurrent_service
    exact ⟨position, list⟩
  · rw [State.boundary_ends none' last once]
    exact ⟨rfl, rfl, rfl⟩

-- ## The clearing of a course

theorem State.clear_outcome (c : CourseId) (s : State) : ((s.clear c).courses[c]).state = .cleared
    ∧ (s.clear c).service = s.service ∧ (s.clear c).conditions.cleared = true := by
  refine ⟨?_, rfl, rfl⟩
  have cleared : (s.clear c).courses[c] = Course.setState .cleared s.courses[c] := State.updCourse_course_self s c _
  rw [cleared]
  rfl

theorem State.stalledAt_not (h : s.service.state ≠ .stalled ∨ s.service.calling? ≠ some c) : ¬s.StalledAt c :=
  fun ⟨state, calling⟩ => h.elim (· state) (· calling)

/-- The clearing tells CLEARED and no other condition. -/
theorem State.clearIfDone_notify (c : CourseId) (s : State) :
    (s.clearIfDone c).conditions.notify = s.conditions.notify := by
  by_cases done : (s.courses[c]).state = .passed ∧ (s.courses[c]).openCount = 0
  · by_cases stalled : s.StalledAt c
    · rw [State.clearIfDone_resumes done.1 done.2 stalled]
      exact (congrArg Conditions.notify (((s.clear c).resume c).autoFire_work c).conditions).trans rfl
    · rw [State.clearIfDone_clears done.1 done.2 stalled]
      rfl
  · rw [State.clearIfDone_open (not_and_or.1 done)]

theorem State.resume_mirrored (c : CourseId) (s : State) : (((s.clear c).resume c).autoFire c).marks.service = true :=
  (((s.clear c).resume c).autoFire_stirs c).marks.service rfl

/-- The end of the last batch of a PASSED course (R58, R65, R66). -/
theorem Settles.clears (h : Settles c s u) (passed : (s.courses[c]).state = .passed)
    (one : (s.courses[c]).openCount = 1) : (u.clearIfDone c).conditions.cleared = true
      ∧ (s.service.state ≠ .stalled ∨ s.service.calling? ≠ some c →
          ((u.clearIfDone c).courses[c]).state = .cleared ∧ (u.clearIfDone c).service = s.service)
      ∧ (s.service.state = .stalled → s.service.calling? = some c →
          (u.clearIfDone c).service = { s.service with state := .running } ∧ (u.clearIfDone c).marks.service = true
            ∧ ((s.courses[c]).plan.autoFire = false → ((u.clearIfDone c).courses[c]).state = .staged)
            ∧ ((s.courses[c]).plan.autoFire = true → s.liveCount < 4 → ((u.clearIfDone c).courses[c]).state = .fired
                ∧ ((u.clearIfDone c).courses[c]).countdown = (s.courses[c]).plan.countdown)
            ∧ ((s.courses[c]).plan.autoFire = true → 4 ≤ s.liveCount → ((u.clearIfDone c).courses[c]).state = .staged
                ∧ Logs s (u.clearIfDone c) { reason := .liveLimit, source := 63, course := c.val })) := by
  have passed' : (u.courses[c]).state = .passed := by rw [h.course]; exact passed
  have none' : (u.courses[c]).openCount = 0 := by
    rw [h.course]
    change (s.courses[c]).openCount - 1 = 0
    rw [one]
  by_cases stalled : u.StalledAt c
  · have resumes := State.clearIfDone_resumes passed' none' stalled
    obtain ⟨service, cleared, off, fired, limit⟩ := State.resume_outcome passed'
    rw [resumes]
    rw [h.course] at off fired limit
    rw [h.liveCount] at fired limit
    obtain ⟨state, calling⟩ := stalled
    have marked := u.resume_mirrored c
    rw [h.service] at service state calling
    refine ⟨cleared, fun free => (free.elim (· state) (· calling)).elim,
      fun _ _ => ⟨service, marked, off, fired, fun on full => ?_⟩⟩
    obtain ⟨staged, logs⟩ := limit on full
    exact ⟨staged, logs.congr h.faults.symm h.overflow.symm rfl rfl⟩
  · have clears := State.clearIfDone_clears passed' none' stalled
    obtain ⟨state, service, cleared⟩ := u.clear_outcome c
    rw [clears]
    refine ⟨cleared, fun _ => ⟨state, service.trans h.service⟩, fun stall calling => (stalled ⟨?_, ?_⟩).elim⟩
    · rw [h.service, stall]
    · rw [h.service, calling]

/-- VOID of the one batch of a ticket, which stands in no slot, when its course has PASSED. -/
theorem exec_voidsOne {n : Bool} {line : BitVec 16} (ready : s.part = .ready)
    (returns : s.EntryReturns n (.void line.toNat)) (inside : line.toNat < s.lineCount)
    (entry : s.entryOfLine? line.toNat = some (e, k)) (fresh : k.voided = false) (hk : Table.get? e s.tickets = some k)
    (one : k.batches = [r]) (hb : s.batch? r = some b) (owner : b.owner = e)
    (waits : b.state = .due ∨ b.state = .stranded) : ∃ id f t, exec (.void n line) s = .next t
      ∧ Finishes s (((((s.fetched id).updTicket e Ticket.void).updStation b.target f).settled r .void e k.void).clearIfDone
          k.course) t n .done 0 := by
  obtain ⟨id, voids⟩ := exec_voids ready returns inside entry fresh
  have ticket : ((s.fetched id).updTicket e Ticket.void).ticketOf? b = some k.void :=
    State.voided_ticket (s := s.fetched id) hk owner
  have finish (f : Station → Station) := State.finishBatch_eq (x := .void)
    (s := ((s.fetched id).updTicket e Ticket.void).updStation b.target f) hb ticket
  rw [owner] at finish
  have notify (f : Station → Station) : (((((s.fetched id).updTicket e Ticket.void).updStation b.target f).settled r .void e
      k.void).clearIfDone k.course).conditions.notify = s.conditions.notify := by
    rw [State.clearIfDone_notify, (State.settled_settles ..).conditions]
    rfl
  have first (w : State) (step : ((s.fetched id).updTicket e Ticket.void).voidBatch r = w) :
      ((s.fetched id).updTicket e Ticket.void).voidAll k.batches = w := by
    rw [one]
    exact step
  rcases waits with due | stranded
  · refine ⟨id, Station.unqueue r, voids _ (first _ ?_) (notify _)⟩
    exact (State.voidBatch_due (s := (s.fetched id).updTicket e Ticket.void) hb due).trans (finish _)
  · refine ⟨id, Station.unstrand r, voids _ (first _ ?_) (notify _)⟩
    exact (State.voidBatch_stranded (s := (s.fetched id).updTicket e Ticket.void) hb stranded).trans (finish _)

/-- SERVICE with auto-fire at its first course (R61, R64, R66). -/
theorem exec_servicesFires {n : Bool} {count cycle : Byte} {courses : Vector Byte 8} {l : List CourseId}
    (ready : s.part = .ready)
    (returns : s.EntryReturns n (.service count.toNat cycle.toNat (courses.toList.map (fun c => c.toNat))))
    (lists : ListsCourses s count cycle courses l) (free : s.service.state = .none ∨ s.service.state = .ended)
    (head : l.head? = some c) (stages : (s.courses[c]).state.Stages) (on : (s.courses[c]).plan.autoFire = true) :
    ∃ t, exec (.service n count cycle courses) s = .next t ∧ Completes s t n .done 0
      ∧ t.service.state = .running ∧ t.service.position = 0 ∧ t.service.list.courses = l
      ∧ (s.liveCount < 4 → (t.courses[c]).state = .fired
          ∧ (t.courses[c]).countdown = (s.courses[c]).plan.countdown)
      ∧ (4 ≤ s.liveCount → (t.courses[c]).state = .staged
          ∧ Logs s t { reason := .liveLimit, source := 63, course := c.val }) := by
  obtain ⟨id, t, runs, finishes⟩ := exec_servicesApplies ready returns lists free
  obtain ⟨sets, courses'⟩ := (s.fetched id).listed_lists { courses := l, cycle := cycle.toNat == 1 }
  have staged := State.listed_first (s := s.fetched id) (l := { courses := l, cycle := cycle.toNat == 1 })
    (List.mem_of_mem_head? head) stages
  rw [State.applyList_stages (s := s.fetched id) (l := { courses := l, cycle := cycle.toNat == 1 }) head stages] at finishes
  have only := sets.only
  generalize (s.fetched id).listed { courses := l, cycle := cycle.toNat == 1 } = u at *
  have live : u.liveCount = s.liveCount := by
    refine State.liveCount_congr fun d => ?_
    rw [courses']
    split
    · next was =>
      have was' : (s.courses[d]).state = .idle ∨ (s.courses[d]).state = .cleared := was.2
      unfold Course.live
      rcases was' with idle | cleared
      · rw [idle]
        rfl
      · rw [cleared]
        rfl
    · rfl
  have on' : (u.courses[c]).plan.autoFire = true := by rw [staged]; exact on
  have leaves := finishes.leaves
  have service : t.service = { s.service with
      state := .running, list := { courses := l, cycle := cycle.toNat == 1 }, position := 0 } := by
    rw [leaves.service, (u.autoFire_work c).service, only]
    rfl
  refine ⟨t, runs, finishes.completes, ?_, ?_, ?_, fun room => ?_, fun full => ?_⟩
  · rw [service]
  · rw [service]
  · rw [service]
  · obtain ⟨state, countdown⟩ := State.autoFire_fired on' (by rw [live]; exact room)
    rw [leaves.courses]
    rw [staged] at countdown
    exact ⟨state, countdown⟩
  · obtain ⟨same, logs⟩ := State.autoFire_limit on' (by rw [live]; exact full)
    rw [leaves.courses, same, staged]
    exact ⟨rfl, logs.congr ((congrArg State.faults only).trans rfl).symm ((congrArg State.overflow only).trans rfl).symm
      leaves.faults leaves.overflow⟩

/-- Settles O39, part by part. -/
theorem callingBoundaryAndClearing : Obligations.CallingBoundaryAndClearing := by
  refine ⟨fun s c => ⟨State.call_outcome, fun stalls => ?stalls⟩,
    ⟨fun s none' => State.boundary_moves none', fun s l some' => ?pending, fun s c => ⟨fun passed none' free => ?clears,
      fun passed none' stalled calling => ?resumes, State.clearIfDone_open⟩⟩,
    fun s n count cycle courses l c ready returns some' fits once same planned head free stages on =>
      exec_servicesFires ready returns ⟨by omega, fits, once, same, planned⟩ free head stages on,
    fun s n line e r k b c ready returns inside entry fresh hk one none' hb owner waits course passed open' => ?void⟩
  case stalls =>
    rw [State.call_stalls stalls]
    exact ⟨rfl, rfl, rfl⟩
  case pending =>
    rw [State.boundary_pending some']
    exact (s.updService (fun v => { v with pending := none })).applyList_service l
  case clears =>
    rw [State.clearIfDone_clears passed none' (State.stalledAt_not free.symm)]
    obtain ⟨state, -, cleared⟩ := s.clear_outcome c
    exact ⟨state, cleared⟩
  case resumes =>
    rw [State.clearIfDone_resumes passed none' ⟨stalled, calling⟩]
    obtain ⟨service, cleared, off, -⟩ := State.resume_outcome passed
    exact ⟨congrArg Service.state service, cleared, off⟩
  case void =>
    subst course
    obtain ⟨id, f, t, runs, finishes⟩ := exec_voidsOne ready returns inside entry fresh hk one hb owner waits
    have leaves := finishes.leaves
    have settles := (((s.fetched id).updTicket e Ticket.void).updStation b.target f).settled_settles r .void e k.void
    obtain ⟨cleared, clears, resumes⟩ := settles.clears passed open'
    have mem : r ∈ k.void.batches := by
      change r ∈ k.batches
      rw [one]
      exact List.mem_cons_self
    have tickets := (State.settled_freed (s := ((s.fetched id).updTicket e Ticket.void).updStation b.target f)
      (x := .void) (e := e) (Ticket.void_last one none') mem).1
    refine ⟨t, runs, finishes.completes, leaves.cleared.trans cleared, ?_, fun free => ?_, fun stalled calling => ?_⟩
    · refine leaves.tickets.trans ((State.clearIfDone_stirs ..).tickets.trans (tickets.trans ?_))
      exact Table.erase_update s.tickets
    · obtain ⟨state, service⟩ := clears free
      rw [leaves.courses, leaves.service]
      exact ⟨state, service⟩
    · obtain ⟨service, marked, off, fired, limit⟩ := resumes stalled calling
      rw [leaves.courses, leaves.service]
      refine ⟨service, finishes.service marked, off, fired, fun on full => ?_⟩
      obtain ⟨state, logs⟩ := limit on full
      exact ⟨state, logs.congr rfl rfl leaves.faults leaves.overflow⟩

end Sys2Proof.Machine

/-! SUPPORT. O17: a DONE bump (R27, R28, R58, R84). What the finish of a batch that has left its slot leaves once its
station has been checked, said once for DONE and for REJECT. -/

namespace Sys2Proof.Machine

variable {s t u v w : State} {st : StationId} {j : SlotId} {r : Nat} {b : Batch} {k : Ticket} {y : BatchState}

-- ## A finish, and the check of the station

/-- What `w` holds of the batch `r`, of its ticket `k` and of its course once the batch, which was `b` in `v` and stands in
no queue, has finished in state `y` and the station `st` has been checked. -/
structure Ends (v w : State) (st : StationId) (r : Nat) (b : Batch) (k : Ticket) (y : BatchState) : Prop where
  empty : ∀ j : SlotId, (v.stations[st]).slots[j] = none → (w.stations[st]).slots[j] ≠ some r
  rests : (v.stations[st]).queue = [] → (v.courses[k.course]).state ≠ .passed → w.stations = v.stations
  station : (v.stations[st]).SameState w.stations[st]
  final : ∀ b', w.batch? r = some b' → b'.state = y
  openCount : (w.courses[k.course]).openCount = (v.courses[k.course]).openCount - 1
  more : k.finished + 1 ≠ k.batches.length → Table.get? b.owner w.tickets = some k.oneMore
    ∧ w.batch? r = some { b with state := y } ∧ w.locks = v.locks ∧ w.logIndex = v.logIndex
  freed : k.finished + 1 = k.batches.length → Table.get? b.owner w.tickets = none
  last : k.finished + 1 = k.batches.length → r ∈ k.batches → (∀ q ∈ k.batches, w.batch? q = none)
    ∧ w.locks = v.locks.filter (fun l => l != k.line) ∧ w.logIndex = (v.logIndex + 1) % 128
  logs : k.finished + 1 = k.batches.length → Issues v w (anchorWrite v.straps .finishedLog (offFinished v.logIndex)
    (finishedBytes k ((v.counted r y b.owner k.course).outcome k)))
  clears : (v.courses[k.course]).state = .passed → (v.courses[k.course]).openCount = 1 → w.conditions.cleared = true
    ∧ (v.service.state ≠ .stalled ∨ v.service.calling? ≠ some k.course →
        (w.courses[k.course]).state = .cleared ∧ w.service = v.service)
    ∧ (v.service.state = .stalled → v.service.calling? = some k.course → (v.courses[k.course]).plan.autoFire = false →
        (w.courses[k.course]).state = .staged ∧ w.service = { v.service with state := .running })
  stays : (v.courses[k.course]).state ≠ .passed ∨ (v.courses[k.course]).openCount ≠ 1 →
    (v.courses[k.course]).openCount ≠ 0 →
    (w.courses[k.course]).state = (v.courses[k.course]).state ∧ w.service = v.service
  port : PortGrows v.port w.port

theorem State.finish_ends (hb : v.batch? r = some b) (hk : v.ticketOf? b = some k) (free : v.NotQueued r)
    (hy : y ≠ .planned) (st : StationId) : Ends v ((v.finishBatch r y).checkShow st) st r b k y := by
  have finish : v.finishBatch r y = (v.settled r y b.owner k).clearIfDone k.course := State.finishBatch_eq hb hk
  have settles := v.settled_settles r y b.owner k
  have grows := (v.finishBatch_work r y).port.trans (State.checkShow_work st _).port
  have known := fun b' => State.settled_state (s := v) (r := r) (x := y) (e := b.owner) (k := k) (b' := b')
  have more := fun more => (State.settled_batch_more (e := b.owner) (x := y) (k := k) more hb)
  have ticket := fun more => (State.settled_ticket_more (r := r) (e := b.owner) (x := y) (k := k) more hk)
  have freed := fun last mem => (State.settled_freed (s := v) (r := r) (e := b.owner) (x := y) (k := k) last mem)
  have unknown := fun last mem q => (State.settled_unknown (s := v) (r := r) (e := b.owner) (x := y)
    (k := k) last mem (q := q))
  have logs := fun last => (State.settled_issues (s := v) (r := r) (e := b.owner) (x := y) (k := k) last)
  have erased : k.finished + 1 = k.batches.length → Table.get? b.owner (v.settled r y b.owner k).tickets = none :=
    fun last => by
      rw [State.settled_last last]
      exact Table.get?_erase_same _ _
  generalize v.settled r y b.owner k = u at *
  have clears := settles.clears
  have stirs := u.clearIfDone_stirs k.course
  have stands := fun h => finish.trans (State.clearIfDone_open (s := u) (c := k.course) h)
  rw [← finish] at clears stirs
  generalize v.finishBatch r y = f at *
  have checks := f.checkShow_places (P := fun _ => False) st
  have waits : ¬u.Waits r := fun ⟨b', hb', planned⟩ => hy ((known b' hb').symm.trans planned)
  have free' : u.NotQueued r := fun x => by
    rw [settles.stations]
    exact free x
  obtain ⟨batch, free''⟩ := stirs.apart r waits free'
  have record : (f.checkShow st).batch? r = u.batch? r := (checks.apart r id free'').1.trans batch
  obtain ⟨-, state, -, openCount⟩ := checks.courses k.course
  have course := settles.course
  refine {
    empty := fun j none' filled => ?empty, rests := fun empty going => ?rests, station := ?station
    final := fun b' h => known b' (record.symm.trans h)
    openCount := openCount.trans ((stirs.courses k.course).2.trans (congrArg Course.openCount course))
    more := fun h => ?more, freed := fun h => ?freed, last := fun h mem => ?last
    logs := fun h => ((logs h).mono stirs.port).mono checks.port, clears := fun passed one => ?clears
    stays := fun h some' => ?stays, port := grows }
  case empty =>
    have before := stirs.fills st j r waits free' (checks.fills st j r id free'' filled)
    rw [settles.stations, none'] at before
    exact nomatch before
  case rests =>
    have same : f = u := stands (.inl (by rw [course]; exact going))
    rw [State.checkShow_idle (State.showing_quiet (.inr (.inl ?_))), same, settles.stations]
    rw [same, settles.stations]
    exact empty
  case station =>
    have first := stirs.stations st
    rw [settles.stations] at first
    exact first.trans (checks.stations st)
  case more =>
    obtain ⟨entry, locks, logIndex⟩ := ticket h
    rw [record, checks.tickets, checks.locks, checks.logIndex, stirs.tickets, stirs.locks, stirs.logIndex]
    exact ⟨entry, more h, locks, logIndex⟩
  case freed =>
    rw [checks.tickets, stirs.tickets]
    exact erased h
  case last =>
    obtain ⟨-, -, locks, logIndex⟩ := freed h mem
    rw [checks.locks, checks.logIndex, stirs.locks, stirs.logIndex]
    exact ⟨fun q hq => checks.unknown q (stirs.unknown q (unknown h mem q hq)), locks, logIndex⟩
  case clears =>
    obtain ⟨cleared, clear, resume⟩ := clears passed one
    rw [checks.conditions, checks.service, state]
    refine ⟨cleared, clear, fun stalled calling off => ?_⟩
    obtain ⟨service, -, staged, -⟩ := resume stalled calling
    exact ⟨staged off, service⟩
  case stays =>
    have same : f = u := stands (h.imp (by rw [course]; exact id) fun more => by
      rw [course]
      change (v.courses[k.course]).openCount - 1 ≠ 0
      omega)
    rw [checks.service, state, same, settles.service, course]
    exact ⟨rfl, rfl⟩

-- ## A batch leaves its slot

/-- The acknowledgement resets the retry count of an OPEN or PAUSED station (R101). -/
def Station.acked (x : Station) : Station := if x.state = .opened ∨ x.state = .paused then { x with retry := 0 } else x

/-- The timer of a station after an acknowledgement (R104, R114). -/
def Station.reloaded (unread produced : Bool) (x : Station) : Station :=
  if unread then { x with timer := some x.plan.timeout, tick := x.sparedMark produced } else { x with timer := none }

theorem Station.acked_retry {x : Station} (h : x.state = .opened ∨ x.state = .paused) : x.acked.retry = 0 := by
  unfold Station.acked
  rw [if_pos h]

theorem State.hasUnread_congr (slots : (t.stations[st]).slots = (s.stations[st]).slots) (pool : t.pool = s.pool) :
    t.hasUnread st = s.hasUnread st :=
  congrArg (List.finRange 16).any (funext fun i => State.slotUnread_congr slots pool i)

/-- What an acknowledgement does to the station (R101, R104). -/
theorem State.acknowledge_sets (st : StationId) (j : SlotId) (r : Nat) (s : State) :
    SetsStation (s.updBatch r (Batch.inState (.cooking j))) (s.acknowledge st j r) st
      ((s.stations[st]).acked.reloaded ((s.updBatch r (Batch.inState (.cooking j))).hasUnread st) s.tickProduced) := by
  have acks : SetsStation (s.updBatch r (Batch.inState (.cooking j)))
      ((s.updBatch r (Batch.inState (.cooking j))).updStation st Station.acked) st (s.stations[st]).acked :=
    State.updStation_sets st Station.acked _
  have slots : ((s.stations[st]).acked).slots = (s.stations[st]).slots := by
    unfold Station.acked
    split <;> rfl
  have unread : ((s.updBatch r (Batch.inState (.cooking j))).updStation st Station.acked).hasUnread st
      = (s.updBatch r (Batch.inState (.cooking j))).hasUnread st :=
    State.hasUnread_congr (by rw [State.updStation_station_self]; exact slots) rfl
  rw [← unread]
  exact acks.updStation (Station.reloaded
    (((s.updBatch r (Batch.inState (.cooking j))).updStation st Station.acked).hasUnread st) s.tickProduced)

/-- `v` is `s` without the batch `r`, which was `b`, in slot `j` of station `st`; its record may say that it cooks. -/
structure Frees (s v : State) (st : StationId) (j : SlotId) (r : Nat) (b : Batch) : Prop where
  tickets : v.tickets = s.tickets
  courses : v.courses = s.courses
  service : v.service = s.service
  locks : v.locks = s.locks
  logIndex : v.logIndex = s.logIndex
  straps : v.straps = s.straps
  faults : v.faults = s.faults
  overflow : v.overflow = s.overflow
  own : ∃ y, v.batch? r = some { b with state := y }
  others : ∀ q, q ≠ r → v.batch? q = s.batch? q
  slots : (v.stations[st]).slots = (s.stations[st]).slots.set j none
  tokens : (v.stations[st]).tokens = (s.stations[st]).tokens - 1
  queue : (v.stations[st]).queue = (s.stations[st]).queue
  stranded : (v.stations[st]).stranded = (s.stations[st]).stranded
  plan : (v.stations[st]).plan = (s.stations[st]).plan
  elsewhere : ∀ x, x ≠ st → v.stations[x] = s.stations[x]
  port : v.port = s.port

theorem Frees.free (h : Frees s v st j r b) (free : s.NotQueued r) : v.NotQueued r := fun x => by
  by_cases same : x = st
  · subst same
    rw [h.queue]
    exact free x
  · rw [h.elsewhere x same]
    exact free x

theorem Frees.ticket {y : BatchState} (h : Frees s v st j r b) (hk : s.ticketOf? b = some k) :
    v.ticketOf? { b with state := y } = some k := (State.ticketOf_congr h.tickets rfl).trans hk

theorem Frees.emptied (h : Frees s v st j r b) : (v.stations[st]).slots[j] = none := by
  rw [h.slots]
  exact getElem_set_fin_self _ _ _

/-- A station that has lost what its slot held, seen through a change of its timer and its retry count. -/
structure Station.SameWork (x y : Station) : Prop where
  slots : y.slots = x.slots
  tokens : y.tokens = x.tokens
  queue : y.queue = x.queue
  stranded : y.stranded = x.stranded
  plan : y.plan = x.plan

theorem Station.acked_sameWork (x : Station) : x.SameWork x.acked := by
  unfold Station.acked
  split <;> exact ⟨rfl, rfl, rfl, rfl, rfl⟩

theorem Station.reloaded_sameWork (unread produced : Bool) (x : Station) : x.SameWork (x.reloaded unread produced) := by
  unfold Station.reloaded
  split <;> exact ⟨rfl, rfl, rfl, rfl, rfl⟩

theorem Station.SameWork.trans {x y z : Station} (h : x.SameWork y) (g : y.SameWork z) : x.SameWork z :=
  ⟨g.slots.trans h.slots, g.tokens.trans h.tokens, g.queue.trans h.queue, g.stranded.trans h.stranded, g.plan.trans h.plan⟩

theorem SetsStation.frees {y : Station} {s' : State} (h : SetsStation s' v st y) (same : SetsPool s s')
    (own : ∃ z, s'.batch? r = some { b with state := z }) (others : ∀ q, q ≠ r → s'.batch? q = s.batch? q)
    (work : ((s.stations[st]).vacate j).SameWork y) (filled : (s.stations[st]).slots[j] = some r) :
    Frees s v st j r b := by
  have vacate : (s.stations[st]).vacate j
      = { (s.stations[st]) with slots := (s.stations[st]).slots.set j none, tokens := (s.stations[st]).tokens - 1 } := by
    unfold Station.vacate
    rw [filled]
    rfl
  rw [vacate] at work
  have station := h.station
  have elsewhere := fun x => h.station_ne (x := x)
  have pool := h.pool
  unfold SetsStation at h
  unfold SetsPool at same
  generalize v.marks = marks at h
  generalize s'.pool = pool' at same
  subst same
  have batch := State.batch_congr pool
  have stations : v.stations[st] = y := station
  subst h
  refine ⟨rfl, rfl, rfl, rfl, rfl, rfl, rfl, rfl, ?_, ?_, ?_, ?_, ?_, ?_, ?_, ?_, rfl⟩
  · rw [batch]; exact own
  · intro q hq; rw [batch]; exact others q hq
  · rw [stations]; exact work.slots
  · rw [stations]; exact work.tokens
  · rw [stations]; exact work.queue
  · rw [stations]; exact work.stranded
  · rw [stations]; exact work.plan
  · exact fun x other => elsewhere x other

-- ## DONE

/-- The state of a DONE bump when the batch has left its slot and has yet to finish (R84). -/
def State.bumped (st : StationId) (j : SlotId) (r : Nat) (s : State) : State :=
  (if s.slotUnread st j then s.acknowledge st j r else s).updStation st (Station.vacate j)

theorem State.doneBump_eq (st : StationId) (j : SlotId) (r : Nat) (b : Batch) (s : State) : s.doneBump st j r b
    = ((s.bumped st j r).finishBatch r (if b.voided then .void else .done)).checkShow st := (rfl)

theorem Station.SameWork.vacate {x y : Station} (h : x.SameWork y) (j : SlotId) : (x.vacate j).SameWork (y.vacate j) := by
  unfold Station.vacate
  rw [h.slots]
  split
  · exact ⟨rfl, congrArg (· - 1) h.tokens, h.queue, h.stranded, h.plan⟩
  · exact h

theorem State.bumped_frees (slot : s.slotBatch st j = some (r, b)) : Frees s (s.bumped st j r) st j r b := by
  obtain ⟨filled, hb⟩ := State.slotBatch_iff.1 slot
  unfold State.bumped
  split
  · refine ((s.acknowledge_sets st j r).updStation (Station.vacate j)).frees (s.updBatch_setsPool r _) ?_ ?_ ?_ filled
    · exact ⟨.cooking j, by rw [State.updBatch_batch_self, hb]; rfl⟩
    · exact fun q hq => s.updBatch_batch_ne hq _
    · exact ((Station.acked_sameWork _).trans (Station.reloaded_sameWork _ _ _)).vacate j
  · exact (s.updStation_sets st (Station.vacate j)).frees (.refl s) ⟨b.state, hb⟩ (fun _ _ => rfl)
      ⟨rfl, rfl, rfl, rfl, rfl⟩ filled

theorem State.bumped_retry (slot : s.slotBatch st j = some (r, b)) (shown : b.state = .shown j)
    (going : (s.stations[st]).state = .opened ∨ (s.stations[st]).state = .paused) :
    ((s.bumped st j r).stations[st]).retry = 0 := by
  have unread : s.slotUnread st j = true := by
    unfold State.slotUnread
    rw [slot]
    simp only [shown]
  unfold State.bumped
  rw [if_pos unread, ((s.acknowledge_sets st j r).updStation (Station.vacate j)).station]
  obtain ⟨-, -, retry, -⟩ := (Station.vacate_keeps j ((s.stations[st]).acked.reloaded
    ((s.updBatch r (Batch.inState (.cooking j))).hasUnread st) s.tickProduced)).1
  rw [retry]
  refine Eq.trans ?_ (Station.acked_retry going)
  unfold Station.reloaded
  split <;> rfl

theorem BatchState.final_ne (voided : Bool) : (if voided then BatchState.void else .done) ≠ .planned := by
  cases voided <;> exact nofun

/-- The event of a taken bump, with what its redirection leaves (R149). -/
theorem exec_bumpTaken {tag : Tag} {addr : Address} {len : Nat} {en : List Bool} {data : List Byte} {p : WindowPlace}
    (high : s.rstLow = false) (room : s.hasRoom tag = true)
    (translated : s.classify (writeRequest tag addr len en data) = .translated p) (first : p.first = 0) (short : len ≤ 8)
    (slot : s.slotBatch p.station p.slot = some (r, b)) (code : byteAt data 0 ≤ 2) :
    exec (.bumpWrite tag addr len en data) s = .next (((s.joined (writeRequest tag addr len en data)).issue
      (s.redirected s.arrivals (writeRequest tag addr len en data) p)).bumpEffect p (byteAt data 0) r b).closeEvent := by
  rw [exec_bumpWrite high room translated]
  unfold State.translateBump
  have form : ¬(p.first ≠ 0 ∨ 8 < (writeRequest tag addr len en data).len) :=
    fun h => h.elim (fun other => other first) fun long => absurd short (not_le.2 long)
  have slot' : (s.joined (writeRequest tag addr len en data)).slotBatch p.station p.slot = some (r, b) :=
    (State.slotBatch_congr rfl rfl _ _).trans slot
  rw [if_neg form, slot']
  exact congrArg (fun u => Host.Outcome.next (State.closeEvent u)) (if_neg (not_lt.2 code))

/-- `u` is `s` when a bump has arrived and its write has been redirected: no table has changed. -/
structure Redirects (s u : State) (m : MemRequest) : Prop where
  pool : u.pool = s.pool
  stations : u.stations = s.stations
  tickets : u.tickets = s.tickets
  courses : u.courses = s.courses
  service : u.service = s.service
  locks : u.locks = s.locks
  logIndex : u.logIndex = s.logIndex
  straps : u.straps = s.straps
  faults : u.faults = s.faults
  overflow : u.overflow = s.overflow
  nextId : s.port.nextId ≤ u.port.nextId
  issues : Issues s u m

theorem State.joined_redirects (q : Request) (m : MemRequest) (s : State) : Redirects s ((s.joined q).issue m) m :=
  ⟨(rfl), (rfl), (rfl), (rfl), (rfl), (rfl), (rfl), (rfl), (rfl), (rfl),
    (Nat.le_succ _).trans_eq (MemPort.enqueue_nextId s.port m).symm, ⟨_, Entered.issue (t := s.joined q) le_rfl m⟩⟩

theorem Redirects.batch {m : MemRequest} (h : Redirects s u m) (q : Nat) : u.batch? q = s.batch? q :=
  State.batch_congr h.pool q

theorem Redirects.slotBatch {m : MemRequest} (h : Redirects s u m) (st : StationId) (j : SlotId) :
    u.slotBatch st j = s.slotBatch st j := State.slotBatch_congr h.stations h.pool st j

theorem Redirects.free {m : MemRequest} (h : Redirects s u m) (free : s.NotQueued r) : u.NotQueued r := fun x => by
  rw [h.stations]
  exact free x

/-- The finished-log entry that the last finish of a ticket writes (R29), by how its other batches have finished. -/
theorem Ends.outcome (h : Ends v w st r b k y) (hb : v.batch? r = some b) (final : y = .done ∨ y = .void)
    (last : k.finished + 1 = k.batches.length) (mem : r ∈ k.batches) (o : TicketOutcome)
    (rest : (o = .allDone ∧ y = .done ∧ ∀ q ∈ k.batches, q ≠ r → ∀ d, v.batch? q = some d → d.state = .done)
      ∨ (o = .allVoid ∧ y = .void ∧ ∀ q ∈ k.batches, q ≠ r → ∀ d, v.batch? q = some d → d.state = .void)
      ∨ (o = .partVoid ∧ ∃ q ∈ k.batches, q ≠ r ∧ ∃ d, v.batch? q = some d ∧ d.state ≠ y)) :
    Issues v w (anchorWrite v.straps .finishedLog (offFinished v.logIndex) (finishedBytes k o)) := by
  have logs := h.logs last
  obtain ⟨done, void, mixed⟩ := State.counted_outcome (x := y) (e := b.owner) (c := k.course) hb mem
  have outcome : (v.counted r y b.owner k.course).outcome k = o := by
    rcases rest with ⟨rfl, own, others⟩ | ⟨rfl, own, others⟩ | ⟨rfl, other⟩
    · exact done own others
    · exact void own others
    · exact mixed final other
  rwa [outcome] at logs

theorem State.doneBump_ends (slot : s.slotBatch st j = some (r, b)) (hk : s.ticketOf? b = some k) (free : s.NotQueued r) :
    ∃ x, (s.bumped st j r).batch? r = some { b with state := x }
      ∧ Ends (s.bumped st j r) (s.doneBump st j r b) st r { b with state := x } k (if b.voided then .void else .done) := by
  have frees := State.bumped_frees slot
  obtain ⟨x, own⟩ := frees.own
  rw [State.doneBump_eq]
  exact ⟨x, own, State.finish_ends own (frees.ticket hk) (frees.free free) (BatchState.final_ne _) st⟩

/-- Settles O17: the batch leaves its slot, its finish may free the entry and clear the course, and the station is
checked. -/
theorem doneBumpFinishes : Obligations.DoneBumpFinishes := by
  intro s tag addr len en data p r b high room translated first short slot
  have taken := exec_bumpTaken high room translated first short slot
  have redirects := s.joined_redirects (writeRequest tag addr len en data)
    (s.redirected s.arrivals (writeRequest tag addr len en data) p)
  generalize (s.joined (writeRequest tag addr len en data)).issue
    (s.redirected s.arrivals (writeRequest tag addr len en data) p) = u at taken redirects
  refine ⟨fun code => ⟨u.closeEvent, ?_, redirects.issues.mono u.closeEvent_port, ?_, ?_, ?_, ?_⟩,
    fun k x c code hk free hx hc _ => ?done⟩
  · rw [taken (by omega), code]
    rfl
  · rw [State.closeEvent_pool, redirects.pool]
  · rw [State.closeEvent_stations, redirects.stations]
  · rw [State.closeEvent_tickets, redirects.tickets]
  · rw [State.closeEvent_courses, redirects.courses]
  case done =>
    have slot' := (redirects.slotBatch p.station p.slot).trans slot
    have hk' : u.ticketOf? b = some k := (State.ticketOf_congr redirects.tickets rfl).trans hk
    have runs := taken (by omega)
    rw [code] at runs
    have frees := State.bumped_frees slot'
    have retry := State.bumped_retry slot'
    obtain ⟨y, own, ends⟩ := State.doneBump_ends slot' hk' (redirects.free free)
    change exec _ s = .next (u.doneBump p.station p.slot r b).closeEvent at runs
    generalize u.doneBump p.station p.slot r b = w at runs ends
    generalize u.bumped p.station p.slot r = v at frees retry ends own
    have course : v.courses[k.course] = c := by rw [frees.courses, redirects.courses, hc]
    have station : u.stations[p.station] = x := by rw [redirects.stations, hx]
    have service : v.service = s.service := frees.service.trans redirects.service
    have grows : PortGrows u.port w.port := by
      have port := ends.port
      rwa [frees.port] at port
    have others (q : Nat) (hq : q ≠ r) : v.batch? q = s.batch? q := (frees.others q hq).trans (redirects.batch q)
    have sub : ∀ {m : MemRequest}, Issues v w m → Issues s w.closeEvent m := fun {m} logs => by
      refine (logs.mono w.closeEvent_port).before ?_
      rw [frees.port]
      exact redirects.nextId
    have batch (q : Nat) : w.closeEvent.batch? q = w.batch? q := State.batch_congr w.closeEvent_pool q
    have freed := frees.emptied
    obtain ⟨slots, tokens, queue⟩ := And.intro frees.slots (And.intro frees.tokens frees.queue)
    rw [station] at slots tokens queue retry
    have finishes (last : k.finished + 1 = k.batches.length) (mem : r ∈ k.batches) (o : TicketOutcome) :=
      ends.outcome own (by cases b.voided <;> simp) last mem o
    rw [frees.straps, frees.logIndex, redirects.straps, redirects.logIndex] at finishes
    refine ⟨_, runs, (redirects.issues.mono grows).mono w.closeEvent_port, ?slot, fun empty going => ?rests,
      fun b' h => ends.final b' ((batch r).symm.trans h), fun shown going => ?retry, ?openCount, fun more => ?more,
      fun last mem => ⟨?entry, fun q hq => ?unknown, ?locks, ?logIndex, fun fresh done => ?allDone,
        fun voided void => ?allVoid, fun mixed => ?partVoid⟩, fun passed one => ?clears, fun stays some' => ?stays⟩
    case slot =>
      rw [State.closeEvent_stations]
      exact ends.empty p.slot freed
    case rests =>
      rw [State.closeEvent_stations, ends.rests (queue.trans empty) (by rw [course]; exact going)]
      exact ⟨slots, tokens⟩
    case retry =>
      obtain ⟨-, -, same, -⟩ := ends.station
      rw [State.closeEvent_stations]
      exact same.trans (retry shown going)
    case openCount => rw [State.closeEvent_courses, ends.openCount, course]
    case more =>
      obtain ⟨entry, record, locks, logIndex⟩ := ends.more more
      rw [State.closeEvent_tickets, batch, State.closeEvent_locks, State.closeEvent_logIndex, locks, logIndex, frees.locks,
        frees.logIndex, redirects.locks, redirects.logIndex]
      exact ⟨entry, record, rfl, rfl⟩
    case entry =>
      rw [State.closeEvent_tickets]
      exact ends.freed last
    case unknown => exact (batch q).trans ((ends.last last mem).1 q hq)
    case locks => rw [State.closeEvent_locks, (ends.last last mem).2.1, frees.locks, redirects.locks]
    case logIndex => rw [State.closeEvent_logIndex, (ends.last last mem).2.2, frees.logIndex, redirects.logIndex]
    case clears =>
      obtain ⟨cleared, clear, resume⟩ := ends.clears (by rw [course]; exact passed) (by rw [course]; exact one)
      rw [service, course] at resume
      rw [service] at clear
      rw [State.closeEvent_conditions, State.closeEvent_courses, State.closeEvent_service]
      exact ⟨cleared, clear, resume⟩
    case stays =>
      have same := ends.stays (by rw [course]; exact stays) (by rw [course]; exact some')
      rw [course, service] at same
      rw [State.closeEvent_courses, State.closeEvent_service]
      exact same
    case allDone =>
      refine sub (finishes last mem .allDone (.inl ⟨rfl, by rw [fresh]; rfl, fun q hq ne d hd => ?_⟩))
      obtain ⟨o, ho, state⟩ := done q hq ne
      rw [others q ne, ho] at hd
      exact Option.some.inj hd ▸ state
    case allVoid =>
      refine sub (finishes last mem .allVoid (.inr (.inl ⟨rfl, by rw [voided]; rfl, fun q hq ne d hd => ?_⟩)))
      obtain ⟨o, ho, state⟩ := void q hq ne
      rw [others q ne, ho] at hd
      exact Option.some.inj hd ▸ state
    case partVoid =>
      obtain ⟨q, hq, ne, o, ho, differs⟩ := mixed
      exact sub (finishes last mem .partVoid (.inr (.inr ⟨rfl, q, hq, ne, o, (others q ne).trans ho, differs⟩)))

end Sys2Proof.Machine

/-! SUPPORT. O18: a REJECT bump (R27, R85, R87, R166). -/

namespace Sys2Proof.Machine

variable {s t u v w : State} {st x : StationId} {j : SlotId} {r q : Nat} {b : Batch} {k : Ticket} {y : BatchState}

-- ## A batch that stands in no queue of the station that is checked

theorem State.showLoop_outside {n : Nat} (out : r ∉ (s.stations[st]).queue) : (s.showLoop st n).batch? r = s.batch? r
    ∧ ∀ i : SlotId, ((s.showLoop st n).stations[st]).slots[i] = some r → (s.stations[st]).slots[i] = some r := by
  induction n generalizing s with
  | zero => exact ⟨rfl, fun _ => id⟩
  | succ n ih =>
    by_cases shows : s.showing st = true
    · obtain ⟨q, i, head, slot⟩ := State.showing_head shows
      have other : r ≠ q := fun same => out (same ▸ List.mem_of_mem_head? head)
      have step : s.showLoop st (n + 1) = (s.showAt st q i).showLoop st n :=
        (if_pos shows).trans (congrArg (State.showLoop st n) (State.showHead_eq head slot))
      rw [step]
      obtain ⟨batch, slots⟩ := ih (s := s.showAt st q i) (by
        rw [State.showAt_station, Station.shown_queue]
        exact fun mem => out mem.1)
      refine ⟨batch.trans (State.showAt_batch_ne other), fun i' filled => ?_⟩
      have before := slots i' filled
      rw [State.showAt_station] at before
      have unqueued := Station.fill_slots_of other before
      rwa [← Station.timed_slots (s.hasUnread st)]
    · have rests : s.showLoop st (n + 1) = s := if_neg shows
      rw [rests]
      exact ⟨rfl, fun _ => id⟩

/-- A batch outside a station's queue is not shown by the check of that station. -/
theorem State.checkShow_outside (out : r ∉ (s.stations[st]).queue) : (s.checkShow st).batch? r = s.batch? r
    ∧ ∀ i : SlotId, ((s.checkShow st).stations[st]).slots[i] = some r → (s.stations[st]).slots[i] = some r :=
  State.showLoop_outside out

/-- The check of another station leaves a batch that a station has received. -/
theorem State.checkShow_received_ne (h : Received s x r b) (other : x ≠ st) (out : r ∉ (s.stations[st]).queue) :
    Received (s.checkShow st) x r b := by
  have places := s.checkShow_places (P := fun _ => False) st
  have station := places.elsewhere x other
  refine h.keep (State.checkShow_outside out).1 ?_ fun i => ?_ <;> rw [station] <;> exact id

-- ## REJECT

/-- The state of a REJECT bump when the batch has left its slot and is yet to be placed (R85, R104). -/
def State.returned (st : StationId) (j : SlotId) (s : State) : State :=
  if s.slotUnread st j then (s.updStation st (Station.vacate j)).departTimer st else s.updStation st (Station.vacate j)

theorem State.rejectBump_eq (st : StationId) (j : SlotId) (r : Nat) (b : Batch) (s : State) : s.rejectBump st j r b
    = ((s.returned st j).placeRejected st r b).checkShow st := (rfl)

def Station.untimed (x : Station) : Station := { x with timer := none }

theorem State.returned_sets (st : StationId) (j : SlotId) (s : State) : ∃ y, SetsStation s (s.returned st j) st y
    ∧ ((s.stations[st]).vacate j).SameWork y ∧ (s.stations[st]).SameState y := by
  have vacates := s.updStation_sets st (Station.vacate j)
  have same := (Station.vacate_keeps j s.stations[st]).1
  unfold State.returned State.departTimer
  split
  · split
    · exact ⟨_, vacates, ⟨rfl, rfl, rfl, rfl, rfl⟩, same⟩
    · exact ⟨_, vacates.updStation Station.untimed, ⟨rfl, rfl, rfl, rfl, rfl⟩, same.trans ⟨rfl, rfl, rfl, rfl⟩⟩
  · exact ⟨_, vacates, ⟨rfl, rfl, rfl, rfl, rfl⟩, same⟩

theorem State.returned_frees (slot : s.slotBatch st j = some (r, b)) : Frees s (s.returned st j) st j r b
    ∧ (s.stations[st]).SameState (s.returned st j).stations[st] ∧ (s.returned st j).batch? r = some b := by
  obtain ⟨filled, hb⟩ := State.slotBatch_iff.1 slot
  obtain ⟨y, sets, work, same⟩ := s.returned_sets st j
  refine ⟨sets.frees (.refl s) ⟨b.state, hb⟩ (fun _ _ => rfl) work filled, ?_, (State.batch_congr sets.pool r).trans hb⟩
  rw [sets.station]
  exact same

theorem Frees.usableBackup (h : Frees s v st j r b) : v.usableBackup st = s.usableBackup st :=
  State.usableBackup_of h.plan h.elsewhere

/-- The station of a rejected batch that leaves nothing behind to show. -/
structure Rejects (v w : State) (st : StationId) (r : Nat) : Prop where
  station : (v.stations[st]).SameState w.stations[st]
  empty : ∀ i : SlotId, (v.stations[st]).slots[i] = none → (w.stations[st]).slots[i] ≠ some r
  rests : (v.stations[st]).queue = [] → (w.stations[st]).slots = (v.stations[st]).slots
    ∧ (w.stations[st]).tokens = (v.stations[st]).tokens
  port : PortGrows v.port w.port

theorem State.placeRejected_backup (fresh : b.voided = false) (usable : s.usableBackup st = some x) :
    s.placeRejected st r b = s.moveTo r x := by
  unfold State.placeRejected
  rw [fresh, usable]
  rfl

theorem State.placeRejected_none (fresh : b.voided = false) (unusable : s.usableBackup st = none) :
    s.placeRejected st r b = s.strand r st 2 := by
  unfold State.placeRejected
  rw [fresh, unusable]
  rfl

theorem State.placeRejected_voided (voided : b.voided = true) : s.placeRejected st r b = s.finishBatch r .void :=
  if_pos voided

theorem State.finishBatch_unowned (hb : s.batch? r = some b) (hk : s.ticketOf? b = none) : s.finishBatch r y = s := by
  unfold State.finishBatch
  rw [hb]
  simp only [hk]

theorem State.checkShow_rests (empty : (s.stations[st]).queue = []) : s.checkShow st = s :=
  State.checkShow_idle (State.showing_quiet (.inr (.inl empty)))

/-- A rejected batch that moves to the backup (R85, R76). -/
theorem State.rejected_moves (hb : v.batch? r = some b) (free : v.NotQueued r) (usable : v.usableBackup st = some x) :
    Rejects v ((v.moveTo r x).checkShow st) st r ∧ Received ((v.moveTo r x).checkShow st) x r b := by
  obtain ⟨other, -⟩ := State.usableBackup_some usable
  have moves := State.moveTo_places (s := v) r x
  have checks := (v.moveTo r x).checkShow_places (P := fun _ => False) st
  have own : (v.moveTo r x).stations[st] = v.stations[st] := moves.elsewhere st (Ne.symm other)
  have out : r ∉ ((v.moveTo r x).stations[st]).queue := by
    rw [own]
    exact free st
  have station := checks.stations st
  rw [own] at station
  refine ⟨⟨station, fun i none' filled => ?_, fun empty => ?_, moves.port.trans checks.port⟩,
    State.checkShow_received_ne (State.moveTo_receives hb rfl rfl) other out⟩
  · have before := (State.checkShow_outside out).2 i filled
    rw [own, none'] at before
    exact nomatch before
  · rw [State.checkShow_rests (by rw [own]; exact empty), own]
    exact ⟨rfl, rfl⟩

/-- A rejected batch that is stranded (R85, R87). -/
theorem State.rejected_strands (hb : v.batch? r = some b) (free : v.NotQueued r) :
    Rejects v ((v.strand r st 2).checkShow st) st r
      ∧ ((v.strand r st 2).checkShow st).batch? r = some { b with state := .stranded, target := st }
      ∧ (((v.strand r st 2).checkShow st).stations[st]).stranded = (v.stations[st]).stranded ++ [r]
      ∧ ∀ k, v.ticketOf? b = some k → Logs v ((v.strand r st 2).checkShow st)
          { reason := .stranded, source := linkTag st, sub := 2, station := st.val, course := k.course.val
            line := k.line } := by
  obtain ⟨own, batch, logs⟩ := State.strand_strands hb st 2
  have strands := State.strand_moves (s := v) r st 2
  have checks := (v.strand r st 2).checkShow_places (P := fun _ => False) st
  have out : r ∉ ((v.strand r st 2).stations[st]).queue := by
    rw [own]
    exact free st
  obtain ⟨batch', slots⟩ := State.checkShow_outside out
  have station := (strands.stations st).trans (checks.stations st)
  refine ⟨⟨station, fun i none' filled => ?_, fun empty => ?_, strands.port.trans checks.port⟩, batch'.trans batch, ?_,
    fun k hk => (logs k hk).congr rfl rfl checks.faults checks.overflow⟩
  · have before := slots i filled
    rw [own] at before
    exact nomatch none'.symm.trans before
  · rw [State.checkShow_rests (by rw [own]; exact empty), own]
    exact ⟨rfl, rfl⟩
  · rw [checks.stranded st, own]

/-- Settles O18, by where the rejected batch goes. -/
theorem rejectBumpGivesBack : Obligations.RejectBumpGivesBack := by
  intro s tag addr len en data p r b x high room translated first short slot code free hx
  have taken := exec_bumpTaken high room translated first short slot
  have redirects := s.joined_redirects (writeRequest tag addr len en data)
    (s.redirected s.arrivals (writeRequest tag addr len en data) p)
  generalize (s.joined (writeRequest tag addr len en data)).issue
    (s.redirected s.arrivals (writeRequest tag addr len en data) p) = u at taken redirects
  have slot' := (redirects.slotBatch p.station p.slot).trans slot
  have runs := taken (by omega)
  rw [code] at runs
  change exec _ s = .next (u.rejectBump p.station p.slot r b).closeEvent at runs
  obtain ⟨frees, same, hb⟩ := State.returned_frees slot'
  rw [State.rejectBump_eq] at runs
  generalize u.returned p.station p.slot = v at runs frees same hb
  have station : u.stations[p.station] = x := by rw [redirects.stations, hx]
  obtain ⟨slots, tokens, queue⟩ := And.intro frees.slots (And.intro frees.tokens frees.queue)
  rw [station] at slots tokens queue same
  have free' := frees.free (redirects.free free)
  have usable : v.usableBackup p.station = s.usableBackup p.station :=
    frees.usableBackup.trans (State.usableBackup_congr redirects.stations _)
  have ticket (k : Ticket) (hk : s.ticketOf? b = some k) : v.ticketOf? b = some k :=
    (State.ticketOf_congr (frees.tickets.trans redirects.tickets) rfl).trans hk
  have common {w : State} (same' : (v.stations[p.station]).SameState w.stations[p.station])
      (empty : ∀ i : SlotId, (v.stations[p.station]).slots[i] = none → (w.stations[p.station]).slots[i] ≠ some r)
      (grows : PortGrows v.port w.port) :
      Issues s w.closeEvent (s.redirected s.arrivals (writeRequest tag addr len en data) p)
        ∧ (w.closeEvent.stations[p.station]).retry = x.retry
        ∧ (w.closeEvent.stations[p.station]).slots[p.slot] ≠ some r := by
    obtain ⟨-, -, retry, -⟩ := same.trans same'
    rw [State.closeEvent_stations]
    rw [frees.port] at grows
    exact ⟨(redirects.issues.mono grows).mono w.closeEvent_port, retry, empty p.slot frees.emptied⟩
  have rested {w : State} (h : (w.stations[p.station]).slots = (v.stations[p.station]).slots
      ∧ (w.stations[p.station]).tokens = (v.stations[p.station]).tokens) :
      (w.closeEvent.stations[p.station]).slots = x.slots.set p.slot none
        ∧ (w.closeEvent.stations[p.station]).tokens = x.tokens - 1 := by
    rw [State.closeEvent_stations]
    exact ⟨h.1.trans slots, h.2.trans tokens⟩
  rcases Bool.eq_false_or_eq_true b.voided with voided | voided
  · have carries : b.voided ≠ false := fun fresh => absurd (voided.symm.trans fresh) nofun
    rw [State.placeRejected_voided voided] at runs
    cases owner : s.ticketOf? b with
    | none =>
      rw [State.finishBatch_unowned hb ((State.ticketOf_congr
        (frees.tickets.trans redirects.tickets) rfl).trans owner)] at runs
      have checks := v.checkShow_places (P := fun _ => False) p.station
      obtain ⟨issues, retry, empty⟩ := common (checks.stations p.station)
        (fun i none' filled => nomatch none'.symm.trans
          ((State.checkShow_outside (free' p.station)).2 i filled)) checks.port
      exact ⟨_, runs, issues, retry, empty, fun fresh => absurd fresh carries, fun fresh => absurd fresh carries,
        fun fresh => absurd fresh carries, nofun⟩
    | some k =>
      have ends := State.finish_ends (y := .void) hb (ticket k owner) free' nofun p.station
      generalize (v.finishBatch r .void).checkShow p.station = w at runs ends
      obtain ⟨issues, retry, empty⟩ := common ends.station ends.empty ends.port
      have courses : v.courses = s.courses := frees.courses.trans redirects.courses
      refine ⟨_, runs, issues, retry, empty, fun fresh => absurd fresh carries, fun fresh => absurd fresh carries,
        fun fresh => absurd fresh carries, fun _ k' hk => ?_⟩
      obtain rfl := Option.some.inj hk
      refine ⟨fun b' h => ends.final b' ((State.batch_congr w.closeEvent_pool r).symm.trans h), ?_, fun more => ?_,
        fun last => ?_, fun idle going => ?_⟩
      · rw [State.closeEvent_courses, ends.openCount, courses]
      · obtain ⟨entry, record, -⟩ := ends.more more
        rw [State.closeEvent_tickets]
        exact ⟨(State.batch_congr w.closeEvent_pool r).trans record, entry⟩
      · rw [State.closeEvent_tickets]
        exact ends.freed last
      · refine rested ?_
        rw [ends.rests (queue.trans idle) (by rw [courses]; exact going)]
        exact ⟨rfl, rfl⟩
  · have fresh : b.voided ≠ true := fun carries => absurd (voided.symm.trans carries) nofun
    cases backup : s.usableBackup p.station with
    | some y =>
      rw [State.placeRejected_backup voided (usable.trans backup)] at runs
      obtain ⟨rejects, received⟩ := State.rejected_moves hb free' (usable.trans backup)
      generalize (v.moveTo r y).checkShow p.station = w at runs rejects received
      obtain ⟨issues, retry, empty⟩ := common rejects.station rejects.empty rejects.port
      refine ⟨_, runs, issues, retry, empty, fun _ idle => rested (rejects.rests (queue.trans idle)),
        fun _ z hz => ?_, nofun,
        fun carries => absurd carries fresh⟩
      obtain rfl := Option.some.inj hz
      exact received.congr w.closeEvent_pool w.closeEvent_stations
    | none =>
      rw [State.placeRejected_none voided (usable.trans backup)] at runs
      obtain ⟨rejects, batch, stranded, logs⟩ := State.rejected_strands (st := p.station) hb free'
      generalize (v.strand r p.station 2).checkShow p.station = w at runs rejects batch stranded logs
      obtain ⟨issues, retry, empty⟩ := common rejects.station rejects.empty rejects.port
      refine ⟨_, runs, issues, retry, empty, fun _ idle => rested (rejects.rests (queue.trans idle)), nofun,
        fun _ _ => ⟨(State.batch_congr w.closeEvent_pool r).trans batch, ?_, fun k hk => ?_⟩,
        fun carries => absurd carries fresh⟩
      · rw [State.closeEvent_stations, stranded, frees.stranded, station]
      · exact (logs k (ticket k hk)).congr (frees.faults.trans redirects.faults).symm
          (frees.overflow.trans redirects.overflow).symm w.closeEvent_faults w.closeEvent_overflow

end Sys2Proof.Machine

/-! SUPPORT. O15: window reads (R101, R102, R104, R112 to R114, R140, R144 to R146). -/

namespace Sys2Proof.Machine

variable {s t u v w : State} {st : StationId} {j : SlotId} {r : Nat} {b : Batch} {k : Ticket} {p : WindowPlace} {tag : Tag}

-- ## The answer of a read, before its effect at the station

/-- What a translated read does at the front port and at the memory port: it is answered at once, or its assembly opens
(R140, R145). -/
def State.viewed (id : Nat) (tag : Tag) (len : Nat) (p : WindowPlace) (s : State) : State :=
  match s.slotView? p with
  | none => s.respond tag id { status := .okay, data := slice p.first len emptyView }
  | some (k, b) => s.openAssembly (s.assemblyOf id tag p len k b)

theorem State.translateRead_eq (id len : Nat) (s : State) : s.translateRead id tag len p
    = (s.viewed id tag len p).readEffect tag p := by
  unfold State.translateRead State.viewed
  cases s.slotView? p <;> rfl

/-- `v` is `s` but for the front port and the memory port. -/
structure Views (s v : State) : Prop where
  pool : v.pool = s.pool
  stations : v.stations = s.stations
  tickets : v.tickets = s.tickets
  courses : v.courses = s.courses
  ticksDue : v.ticksDue = s.ticksDue
  dram : v.dram = s.dram
  straps : v.straps = s.straps
  setup : v.setup = s.setup
  plan : v.plan = s.plan
  nextId : s.port.nextId ≤ v.port.nextId

theorem Views.trans (h : Views s t) (g : Views t u) : Views s u :=
  ⟨g.pool.trans h.pool, g.stations.trans h.stations, g.tickets.trans h.tickets, g.courses.trans h.courses,
    g.ticksDue.trans h.ticksDue, g.dram.trans h.dram, g.straps.trans h.straps, g.setup.trans h.setup,
    g.plan.trans h.plan, h.nextId.trans g.nextId⟩

theorem State.joined_views (q : Request) (s : State) : Views s (s.joined q) :=
  ⟨(rfl), (rfl), (rfl), (rfl), (rfl), (rfl), (rfl), (rfl), (rfl), le_rfl⟩

theorem State.respond_views (tag : Tag) (id : Nat) (x : Response) (s : State) : Views s (s.respond tag id x) :=
  ⟨rfl, rfl, rfl, rfl, rfl, rfl, rfl, rfl, rfl, le_rfl⟩

theorem State.openAssembly_views (x : Assembly) (s : State) : Views s (s.openAssembly x) := by
  unfold State.openAssembly
  split
  · exact s.respond_views _ _ _
  · exact ⟨rfl, rfl, rfl, rfl, rfl, rfl, rfl, rfl, rfl, s.port.enqueueAll_nextId x.reads⟩

theorem State.viewed_views (id : Nat) (tag : Tag) (len : Nat) (p : WindowPlace) (s : State) :
    Views s (s.viewed id tag len p) := by
  unfold State.viewed
  split
  · exact s.respond_views _ _ _
  · exact s.openAssembly_views _

theorem Views.slotBatch (h : Views s v) (st : StationId) (j : SlotId) : v.slotBatch st j = s.slotBatch st j :=
  State.slotBatch_congr h.stations h.pool st j

theorem Views.slotUnread (h : Views s v) (st : StationId) (j : SlotId) : v.slotUnread st j = s.slotUnread st j :=
  State.slotUnread_congr (by rw [h.stations]) h.pool j

/-- The row of a translated read. -/
theorem exec_windowRead {addr : Address} {len : Nat} (high : s.rstLow = false) (room : s.hasRoom tag = true)
    (translated : s.classify (readRequest tag addr len) = .translated p) : exec (.windowRead tag addr len) s
      = .next ((((s.joined (readRequest tag addr len)).viewed s.arrivals tag len p).readEffect tag p).closeEvent) := by
  have runs : s.requestStep (readRequest tag addr len) = _ :=
    State.requestStep_room (r := readRequest tag addr len) high room
  rw [translated] at runs
  exact congrArg Host.Outcome.next (runs.trans (congrArg State.closeEvent (State.translateRead_eq s.arrivals len _)))

-- ## The effect at the station

theorem State.readEffect_link (own : tag = linkTag p.station) : s.readEffect tag p = s.linkRead p.station p.slot :=
  if_pos own

theorem State.readEffect_processor (zero : tag = 0) : s.readEffect tag p = s := by
  refine if_neg fun own => ?_
  have value := congrArg Fin.val (own.symm.trans zero)
  rw [linkTag_val] at value
  exact absurd value (Nat.succ_ne_zero _)

theorem State.linkRead_unread (slot : s.slotBatch st j = some (r, b)) (unread : s.slotUnread st j = true) :
    s.linkRead st j = (s.acknowledge st j r).countReturn st := by
  unfold State.linkRead
  rw [slot]
  simp only [unread, if_true]

theorem State.linkRead_other (h : s.slotUnread st j = false) : s.linkRead st j = s.countReturn st := by
  unfold State.linkRead
  split
  · rw [h]
    rfl
  · rfl

theorem State.countReturn_stands (h : (s.stations[st]).state ≠ .down) : s.countReturn st = s := if_neg h

theorem OnlyOwnIssued.grows (port : u.port = s.port) (g : PortGrows u.port t.port) : OnlyOwnIssued s t := by
  intro m hm
  rw [port] at g
  rcases g.fresh m hm with old | ⟨new, -, own, -⟩
  · exact .inl old
  · exact .inr ⟨new, own⟩

/-- A station that is DOWN counts one read more (R112). -/
def Station.counted (x : Station) : Station := { x with progress := x.progress + 1 }

/-- A station that returns (R113). -/
def Station.returned (x : Station) : Station := { x with state := .opened, retry := 0, progress := 0 }

/-- The return of a DOWN station keeps a batch that stands in no queue, and the other stations (R113). -/
theorem State.returnOpen_spares (st : StationId) (s : State) : (∀ x, x ≠ st → (s.returnOpen st).stations[x] = s.stations[x])
    ∧ ∀ r, r ∉ (s.stations[st]).queue → (s.returnOpen st).batch? r = s.batch? r := by
  have station := s.updStation_station_self st Station.returned
  refine ⟨fun x other => ?_, fun r out => ?_⟩
  · exact (((s.updStation st Station.returned).checkShow_places (P := fun _ => False) st).elsewhere x other).trans
      (s.updStation_station_ne (Ne.symm other) Station.returned)
  · refine (State.checkShow_outside (s := s.updStation st Station.returned) ?_).1
    rw [station]
    exact out

/-- What a read that counts leaves of the other stations. -/
theorem State.countReturn_elsewhere {x : StationId} (other : x ≠ st) (s : State) :
    (s.countReturn st).stations[x] = s.stations[x] := by
  by_cases down : (s.stations[st]).state = .down
  · by_cases reached : (s.stations[st]).plan.returnCount ≤ (s.stations[st]).progress + 1
    · rw [State.countReturn_returns down reached]
      exact (s.returnOpen_spares st).1 x other
    · rw [State.countReturn_counts down (not_le.1 reached)]
      exact s.updStation_station_ne (Ne.symm other) _
  · rw [State.countReturn_stands down]

-- ## The acknowledgement

/-- The mark of a tick that meets a read, by the timer that the read leaves (R114, R115; logs 16 and 26). -/
def Station.markAfter (ticksDue : Nat) (timer : Option Nat) (x : Station) : TickMark :=
  match timer, x.tick with
  | some _, .owed => .owedSpared
  | some _, .clear => if 0 < ticksDue ∧ (x.timer = some 0 ∨ x.timer = some 1) then .spared else .clear
  | _, m => m

theorem Station.reloaded_eq {x : Station} {ticksDue : Nat} {unread : Bool} {timer : Option Nat}
    (htimer : timer = if unread then some x.plan.timeout else none) :
    x.reloaded unread (decide (0 < ticksDue)) = { x with timer := timer, tick := x.markAfter ticksDue timer } := by
  have last : x.atLastTick = true ↔ x.timer = some 0 ∨ x.timer = some 1 := by
    unfold Station.atLastTick
    cases x.timer with
    | none => simp
    | some n =>
      simp only [decide_eq_true_eq, Option.some.injEq]
      omega
  subst htimer
  unfold Station.reloaded
  cases unread with
  | false => rfl
  | true =>
    have same : x.sparedMark (decide (0 < ticksDue)) = x.markAfter ticksDue (some x.plan.timeout) := by
      unfold Station.sparedMark Station.markAfter
      cases x.tick with
      | clear => simp [last]
      | owed => rfl
      | early => rfl
      | spared => rfl
      | owedSpared => rfl
    exact congrArg (fun m => ({ x with timer := some x.plan.timeout, tick := m } : Station)) same

/-- The unread batches of a station once one of them is COOKING. -/
theorem State.cooked_unread (slot : s.slotBatch st j = some (r, b))
    (once : ∀ i : SlotId, i ≠ j → (s.stations[st]).slots[i] ≠ some r) :
    (s.updBatch r (Batch.inState (.cooking j))).hasUnread st
      = (List.finRange 16).any fun i => decide (i ≠ j) && s.slotUnread st i := by
  obtain ⟨filled, hb⟩ := State.slotBatch_iff.1 slot
  refine congrArg (List.finRange 16).any (funext fun i => ?_)
  by_cases same : i = j
  · have cooks : (s.updBatch r (Batch.inState (.cooking j))).slotBatch st i = some (r, b.inState (.cooking j)) :=
      State.slotBatch_iff.2 ⟨same ▸ filled, by rw [State.updBatch_batch_self, hb]; rfl⟩
    unfold State.slotUnread
    rw [cooks]
    simp [same, Batch.inState]
  · have slots : (s.updBatch r (Batch.inState (.cooking j))).slotBatch st i = s.slotBatch st i := by
      refine Option.ext fun ⟨q, d⟩ => ?_
      rw [State.slotBatch_iff, State.slotBatch_iff]
      refine and_congr_right fun holds => ?_
      rw [State.updBatch_batch_ne s (r := r) (q := q) fun own => once i same (own ▸ holds)]
    unfold State.slotUnread
    rw [slots]
    simp [same]

/-- What a translated read of a SHOWN batch by its own link leaves (R101, R104, R112 to R114). -/
theorem State.linkRead_acknowledges {x : Station} {timer : Option Nat}
    (slot : s.slotBatch st j = some (r, b)) (shown : b.state = .shown j) (hx : x = s.stations[st])
    (once : ∀ i : SlotId, i ≠ j → x.slots[i] ≠ some r)
    (htimer : timer = if (List.finRange 16).any (fun i => decide (i ≠ j) && s.slotUnread st i)
      then some x.plan.timeout else none) :
    ((x.state = .opened ∨ x.state = .paused) → (s.linkRead st j).batch? r = some { b with state := .cooking j }
        ∧ (s.linkRead st j).stations[st] = { x with retry := 0, timer := timer, tick := x.markAfter s.ticksDue timer }
        ∧ (s.linkRead st j).courses = s.courses)
      ∧ (x.state = .down → x.progress + 1 < x.plan.returnCount →
          (s.linkRead st j).batch? r = some { b with state := .cooking j }
            ∧ (s.linkRead st j).stations[st]
              = { x with progress := x.progress + 1, timer := timer, tick := x.markAfter s.ticksDue timer }
            ∧ (s.linkRead st j).courses = s.courses)
      ∧ (x.state = .down → x.plan.returnCount ≤ x.progress + 1 →
          ((s.linkRead st j).stations[st]).state = .opened ∧ ((s.linkRead st j).stations[st]).retry = 0
            ∧ ((s.linkRead st j).stations[st]).progress = 0 ∧ (s.linkRead st j).showing st = false
            ∧ (s.NotQueued r → (s.linkRead st j).batch? r = some { b with state := .cooking j }))
      ∧ (∀ y : StationId, y ≠ st → (s.linkRead st j).stations[y] = s.stations[y]) := by
  obtain ⟨-, hb⟩ := State.slotBatch_iff.1 slot
  have unread : s.slotUnread st j = true := by
    unfold State.slotUnread
    rw [slot]
    simp only [shown]
  rw [hx] at once
  have sets := s.acknowledge_sets st j r
  rw [State.cooked_unread slot once, ← hx] at sets
  rw [State.linkRead_unread slot unread]
  have batch : (s.acknowledge st j r).batch? r = some { b with state := .cooking j } := by
    rw [State.batch_congr sets.pool, State.updBatch_batch_self, hb]
    rfl
  have courses : (s.acknowledge st j r).courses = s.courses := (congrArg State.courses sets).trans rfl
  have station := sets.station
  have elsewhere := fun y other => sets.station_ne (x := y) other
  generalize s.acknowledge st j r = a at *
  have fallen (down : x.state = .down) :
      a.stations[st] = { x with timer := timer, tick := x.markAfter s.ticksDue timer } := by
    have acked : x.acked = x := if_neg (by rw [down]; exact (Or.elim · nofun nofun))
    rw [station, acked]
    exact Station.reloaded_eq htimer
  refine ⟨fun going => ?going, fun down below => ?counts, fun down reached => ?returns, fun y other => ?others⟩
  case others => exact (State.countReturn_elsewhere other a).trans (elsewhere y other)
  case going =>
    have acked : x.acked = { x with retry := 0 } := if_pos going
    have record : a.stations[st] = { x with retry := 0, timer := timer, tick := x.markAfter s.ticksDue timer } := by
      rw [station, acked]
      exact Station.reloaded_eq (x := { x with retry := 0 }) htimer
    have stands := State.countReturn_stands (s := a) (st := st) (by
      rw [record]
      exact fun down => absurd (down : x.state = .down) (going.elim (fun h => h ▸ nofun) fun h => h ▸ nofun))
    rw [stands]
    exact ⟨batch, record, courses⟩
  case counts =>
    have record := fallen down
    rw [State.countReturn_counts (by rw [record]; exact down) (by rw [record]; exact below)]
    refine ⟨batch, ?_, courses⟩
    rw [State.updStation_station_self, record]
  case returns =>
    have record := fallen down
    rw [State.countReturn_returns (by rw [record]; exact down) (by rw [record]; exact reached)]
    obtain ⟨opened, retry, progress, showing⟩ := a.returnOpen_opens st
    refine ⟨opened, retry, progress, showing, fun free => ?_⟩
    refine ((a.returnOpen_spares st).2 r ?_).trans batch
    rw [record]
    have out := free st
    rw [← hx] at out
    exact out

-- ## Assemblies

theorem State.slotView_some (slot : s.slotBatch p.station p.slot = some (r, b)) (hk : s.ticketOf? b = some k) :
    s.slotView? p = some (k, b) := by
  unfold State.slotView?
  rw [slot]
  simp only [hk]

theorem State.slotView_none (slot : s.slotBatch p.station p.slot = none) : s.slotView? p = none := by
  unfold State.slotView?
  rw [slot]

theorem State.viewed_some {id len : Nat} (view : s.slotView? p = some (k, b)) :
    s.viewed id tag len p = s.openAssembly (s.assemblyOf id tag p len k b) := by
  unfold State.viewed
  rw [view]

theorem State.viewed_none {id len : Nat} (view : s.slotView? p = none) :
    s.viewed id tag len p = s.respond tag id { status := .okay, data := slice p.first len emptyView } := by
  unfold State.viewed
  rw [view]

/-- An assembly that has reads to make enters them all (R140, R144). -/
theorem State.openAssembly_enters {x : Assembly} {m : MemRequest} (waits : x.outstanding ≠ 0) (mem : m ∈ x.reads) :
    Issues s (s.openAssembly x) m := by
  unfold State.openAssembly
  rw [if_neg waits]
  exact s.port.enqueueAll_enters x.reads mem

theorem State.viewed_issues {id len : Nat} (view : s.slotView? p = some (k, b)) :
    (∀ a, s.bumpReadAddr p len = some a →
        Issues s (s.viewed id tag len p) (assemblyRead tag (.assemblyBump id) a (touchedPart p.first len 0 8).2))
      ∧ (∀ a, s.lineReadAddr p k.line len = some a →
        Issues s (s.viewed id tag len p) (assemblyRead tag (.assemblyLine id) a (touchedPart p.first len 8 56).2)) := by
  rw [State.viewed_some view]
  refine ⟨fun a ha => State.openAssembly_enters ?_ ?_, fun a ha => State.openAssembly_enters ?_ ?_⟩
  · simp [State.assemblyOf, ha]
  · simp [Assembly.reads, State.assemblyOf, ha]
  · simp [State.assemblyOf, ha]
  · simp [Assembly.reads, State.assemblyOf, ha]

-- ## The form of a translated read

theorem State.judgeWindow_place {z : Setup} {kind : Kind} {a : Nat} (h : s.judgeWindow z tag kind a = .translated p) :
    p = z.windowPlace a := by
  unfold State.judgeWindow at h
  split_ifs at h
  exact (Verdict.translated.inj h).symm

theorem orderProcessorOnly_translated {c : AccessCode} {v : Verdict} (h : orderProcessorOnly tag c v = .translated p) :
    v = .translated p := by
  unfold orderProcessorOnly at h
  split at h
  · exact h
  · exact nomatch h

theorem State.judgeWrite_ne (a : Nat) (g : Region) : s.judgeWrite tag a g ≠ .translated p := by
  intro h
  cases g with
  | pool =>
    have inner := orderProcessorOnly_translated (c := .pool) h
    split at inner <;> exact nomatch inner
  | partOwned => exact nomatch h
  | window => exact nomatch h
  | plain => exact nomatch h
  | setupArea => exact nomatch orderProcessorOnly_translated (c := .setupArea) h
  | watchedWords => exact nomatch orderProcessorOnly_translated (c := .watchedWord) h
  | finishedLog => exact nomatch orderProcessorOnly_translated (c := .partOwned) h
  | ring => exact nomatch orderProcessorOnly_translated (c := .intakeRing) h
  | guard0 => exact nomatch orderProcessorOnly_translated (c := .guard0) h
  | guard1 => exact nomatch orderProcessorOnly_translated (c := .guard1) h

theorem State.judgeRegion_place {kind : Kind} {a : Nat} {g : Region} (h : s.judgeRegion tag kind a g = .translated p) :
    ∃ z, s.setup = some z ∧ p = z.windowPlace a := by
  unfold State.judgeRegion at h
  split at h
  · next z setup => exact ⟨z, setup, State.judgeWindow_place h⟩
  · split at h
    · exact nomatch h
    · split at h
      · exact nomatch h
      · exact (State.judgeWrite_ne _ _ h).elim

/-- A translated request lies in one 64-byte line, and names the place of its address (R118, R122, R139). -/
theorem State.translated_form {q : Request} (h : s.classify q = .translated p) :
    q.inOneLine = true ∧ ∃ z, s.setup = some z ∧ p = z.windowPlace q.addr.toNat := by
  have line : q.inOneLine = true := by
    refine Bool.of_not_eq_false fun malformed => ?_
    exact nomatch (State.classify_malformed malformed).symm.trans h
  have tagged : q.tag ≠ 63 := fun own => nomatch (State.classify_ownTag line own).symm.trans h
  have region : s.regionOf q.addr.toNat = s.regionOf (q.addr.toNat + q.len - 1) := by
    by_contra two
    exact nomatch (State.classify_twoRegions line tagged two).symm.trans h
  rw [State.classify_judged line tagged region] at h
  exact ⟨line, State.judgeRegion_place h⟩

theorem inOneLine_iff (q : Request) : q.inOneLine = true ↔ 1 ≤ q.len ∧ q.len ≤ 64
    ∧ q.addr.toNat / 64 = (q.addr.toNat + q.len - 1) / 64 := by
  unfold Request.inOneLine
  simp [and_assoc]

/-- The bytes that a translated read touches end with the view (R140). -/
theorem State.translated_fits {q : Request} (h : s.classify q = .translated p) (sound : s.SetupSound) :
    p.first + q.len ≤ 64 := by
  obtain ⟨line, z, setup, rfl⟩ := State.translated_form h
  obtain ⟨-, fits, same⟩ := (inOneLine_iff q).1 line
  obtain ⟨-, -, sound⟩ := sound
  obtain ⟨-, -, -, -, -, -, -, fields, aligned, -⟩ := sound z setup
  obtain ⟨ps, -⟩ := z.fields_apart fields
  have multiple : 64 ∣ z.windowBase :=
    (pow_dvd_pow 2 (by omega : 6 ≤ max (z.ps + 4) (z.pt + 5))).trans (Nat.dvd_of_mod_eq_zero aligned)
  change (q.addr.toNat - z.windowBase) % 64 + q.len ≤ 64
  omega

-- ## The view of an empty slot

theorem emptyView_getElem (i : Nat) (h : i < emptyView.length) : emptyView[i] = if i = 59 then 0x20#8 else 0#8 := by
  have all : ∀ i : Fin 64, emptyView[i] = if i.val = 59 then 0x20#8 else 0#8 := by decide
  exact all ⟨i, h⟩

theorem slice_emptyView {first len : Nat} (fits : first + len ≤ 64) : slice first len emptyView
    = (List.range len).map (fun i => if first + i = 59 then 0x20#8 else 0#8) := by
  have size : emptyView.length = 64 := rfl
  refine List.ext_getElem ?_ fun i h h' => ?_
  · simp only [slice, List.length_take, List.length_drop, List.length_map, List.length_range, size]
    omega
  · simp only [slice, List.getElem_take, List.getElem_drop, List.getElem_map, List.getElem_range, emptyView_getElem]

-- ## The assembly of a read

theorem State.readEffect_work (tag : Tag) (p : WindowPlace) (s : State) : StationWork s (s.readEffect tag p) := by
  unfold State.readEffect
  split
  · exact s.linkRead_work _ _
  · exact .refl s

theorem State.bumpReadAddr_eq {len : Nat} (some' : 1 ≤ len) : s.bumpReadAddr p len = if p.first < 8 then
    some (s.anchor + (0x1000 + p.station.val * 128 + p.slot.val * 8) + p.first) else none := by
  unfold State.bumpReadAddr touchedPart offBump
  refine if_congr ?_ (by rw [Nat.max_eq_left (Nat.zero_le _)]) rfl
  change 0 < min (p.first + len) 8 - max p.first 0 ↔ p.first < 8
  omega

theorem State.lineReadAddr_eq {len line : Nat} {z : Setup} (setup : s.setup = some z) (low : p.first < 56)
    (some' : 1 ≤ len) : s.lineReadAddr p line len = if 8 < p.first + len then
      some (z.poolBase + line * 64 + max p.first 8) else none := by
  have base : s.lineAddr line = z.poolBase + line * 64 := by
    unfold State.lineAddr State.poolBase
    rw [setup]
  unfold State.lineReadAddr touchedPart
  rw [base]
  refine if_congr ?_ rfl rfl
  change 0 < min (p.first + len) 56 - max p.first 8 ↔ 8 < p.first + len
  omega

theorem State.readAddrs_none {len line : Nat} (high : 56 ≤ p.first) :
    s.bumpReadAddr p len = none ∧ s.lineReadAddr p line len = none := by
  refine ⟨if_neg ?_, if_neg ?_⟩
  · change ¬0 < min (p.first + len) 8 - max p.first 0
    omega
  · change ¬0 < min (p.first + len) 56 - max p.first 8
    omega

theorem State.openAssembly_waits {x : Assembly} (waits : x.outstanding ≠ 0) :
    (s.openAssembly x).assemblies = s.assemblies ++ [x] := by
  unfold State.openAssembly
  rw [if_neg waits]

theorem State.assemblyOf_eq {id len : Nat} {z : Setup} (setup : s.setup = some z) (some' : 1 ≤ len) (low : p.first < 56) :
    s.assemblyOf id tag p len k b = { flight := id, tag := tag, first := p.first, len := len, synth := s.synthBytes k b
                                      bumpAddr := if p.first < 8
                                        then some (s.anchor + (0x1000 + p.station.val * 128 + p.slot.val * 8) + p.first)
                                        else none
                                      lineAddr := if 8 < p.first + len
                                        then some (z.poolBase + k.line * 64 + max p.first 8) else none
                                      outstanding := (if p.first < 8 then 1 else 0)
                                        + (if 8 < p.first + len then 1 else 0)
                                      error := false, bumpBytes := [], lineBytes := [] } := by
  have count (c : Prop) [Decidable c] (a : Nat) : (if c then some a else none).toList.length = if c then 1 else 0 := by
    split <;> rfl
  unfold State.assemblyOf
  rw [State.bumpReadAddr_eq some', State.lineReadAddr_eq setup low some', count, count]

/-- The assembly that a read of a batch opens, when it touches more than the synthesized bytes (R140, R141). -/
theorem State.viewed_assembles {id len : Nat} {z : Setup} (view : s.slotView? p = some (k, b)) (setup : s.setup = some z)
    (some' : 1 ≤ len) (low : p.first < 56) : (s.viewed id tag len p).assemblies = s.assemblies
      ++ [{ flight := id, tag := tag, first := p.first, len := len, synth := s.synthBytes k b
            bumpAddr := if p.first < 8
              then some (s.anchor + (0x1000 + p.station.val * 128 + p.slot.val * 8) + p.first) else none
            lineAddr := if 8 < p.first + len
              then some (z.poolBase + k.line * 64 + max p.first 8) else none
            outstanding := (if p.first < 8 then 1 else 0) + (if 8 < p.first + len then 1 else 0)
            error := false, bumpBytes := [], lineBytes := [] }] := by
  have opens := State.assemblyOf_eq (tag := tag) (id := id) (b := b) (k := k) setup some' low
  have waits : (s.assemblyOf id tag p len k b).outstanding ≠ 0 := by
    rw [opens]
    change (if p.first < 8 then 1 else 0) + (if 8 < p.first + len then 1 else 0) ≠ 0
    split_ifs <;> omega
  rw [State.viewed_some view, State.openAssembly_waits waits, opens]

/-- A read of the synthesized bytes alone is answered at once (R140). -/
theorem State.viewed_synth {id len : Nat} (view : s.slotView? p = some (k, b)) (high : 56 ≤ p.first) :
    s.viewed id tag len p = s.respond tag id
      { status := .okay, data := ((s.synthBytes k b).drop (p.first - 56)).take len } := by
  obtain ⟨bump, line⟩ := State.readAddrs_none (s := s) (p := p) (len := len) (line := k.line) high
  have none' : (s.assemblyOf id tag p len k b).outstanding = 0 := by
    simp [State.assemblyOf, bump, line]
  have size : ((s.synthBytes k b).drop (p.first - 56)).length = 64 - p.first := by
    simp [State.synthBytes]
    omega
  have data : (s.assemblyOf id tag p len k b).response
      = { status := .okay, data := ((s.synthBytes k b).drop (p.first - 56)).take len } := by
    have touched : slice ((touchedPart p.first len 56 64).1 - 56) (touchedPart p.first len 56 64).2 (s.synthBytes k b)
        = ((s.synthBytes k b).drop (p.first - 56)).take len := by
      unfold slice touchedPart
      rw [Nat.max_eq_left high]
      refine List.take_eq_take_iff.2 ?_
      rw [size]
      omega
    exact congrArg (fun d => ({ status := .okay, data := d } : Response)) touched
  rw [State.viewed_some view, ← data]
  exact if_pos none'

/-- Settles O15: the answer or the assembly at the front port, then the effect at the station. -/
theorem windowReadsAcknowledge : Obligations.WindowReadsAcknowledge := by
  refine ⟨fun s tag addr len p r b k x timer mark high room translated own slot shown hk hx once htimer hmark => ?ack,
    fun s tag addr len p x high room translated hx => ?other,
    fun s tag addr len p z r b k high room translated setup slot hk => ?assembly⟩
  case ack =>
    have runs := exec_windowRead high room translated
    have view := State.slotView_some slot hk
    have joined := s.joined_views (readRequest tag addr len)
    have view' : (s.joined (readRequest tag addr len)).slotView? p = some (k, b) := view
    obtain ⟨bump, line⟩ := State.viewed_issues (id := s.arrivals) (tag := tag) (len := len) view'
    have views := joined.trans (State.viewed_views s.arrivals tag len p (s.joined (readRequest tag addr len)))
    generalize (s.joined (readRequest tag addr len)).viewed s.arrivals tag len p = v at runs views bump line
    have work := v.readEffect_work tag p
    rw [State.readEffect_link own] at work runs
    have acks := State.linkRead_acknowledges (s := v) (timer := timer) ((views.slotBatch _ _).trans slot) shown
      (by rw [views.stations, hx]) once (by simp only [views.slotUnread]; exact htimer)
    obtain ⟨going, counts, returns, others⟩ := acks
    have mark' : x.markAfter v.ticksDue timer = mark := by
      rw [views.ticksDue]
      exact hmark.symm
    rw [mark', views.courses] at going counts
    generalize v.linkRead p.station p.slot = w at runs work going counts returns others
    have batch := State.batch_congr w.closeEvent_pool r
    refine ⟨_, runs, fun h => ?_, fun down below => ?_, fun down reached => ?_, fun y other => ?_, fun a ha => ?_,
      fun a ha => ?_, ?_, ?_⟩
    · rw [batch, State.closeEvent_stations, State.closeEvent_courses]
      exact going h
    · rw [batch, State.closeEvent_stations, State.closeEvent_courses]
      exact counts down below
    · rw [batch, State.closeEvent_stations, State.showing_congr w.closeEvent_part w.closeEvent_stations]
      obtain ⟨state, retry, progress, showing, kept⟩ := returns down reached
      exact ⟨state, retry, progress, showing, fun free => kept fun y => by rw [views.stations]; exact free y⟩
    · rw [State.closeEvent_stations, others y other, views.stations]
    · exact (((bump a ha).mono work.port).mono w.closeEvent_port).before le_rfl
    · exact (((line a ha).mono work.port).mono w.closeEvent_port).before le_rfl
    · rw [State.closeEvent_tickets, work.tickets, views.tickets]
    · rw [State.closeEvent_dram, work.dram, views.dram]
  case other =>
    have runs := exec_windowRead high room translated
    have joined := s.joined_views (readRequest tag addr len)
    have views := joined.trans (State.viewed_views s.arrivals tag len p (s.joined (readRequest tag addr len)))
    refine ⟨_, runs, fun sound empty alone => ?empty, fun read own => ?counts, fun zero => ?processor⟩
    case empty =>
      have none' : (s.joined (readRequest tag addr len)).slotView? p = none := State.slotView_none empty
      rw [State.viewed_none none']
      have answered := (State.respond_joined_alone (s := s) (r := readRequest tag addr len)
        { status := .okay, data := slice p.first len emptyView } alone).1
      have port : ((s.joined (readRequest tag addr len)).respond tag s.arrivals
        { status := .okay, data := slice p.first len emptyView }).port = s.port := rfl
      have assemblies : ((s.joined (readRequest tag addr len)).respond tag s.arrivals
        { status := .okay, data := slice p.first len emptyView }).assemblies = s.assemblies := rfl
      change ((s.joined (readRequest tag addr len)).respond tag s.arrivals _).responses = _ at answered
      generalize (s.joined (readRequest tag addr len)).respond tag s.arrivals
        { status := .okay, data := slice p.first len emptyView } = v at answered port assemblies
      have work := v.readEffect_work tag p
      have fits : p.first + len ≤ 64 := State.translated_fits translated sound
      refine ⟨?_, OnlyOwnIssued.grows port (work.port.trans (State.closeEvent_port _)), ?_⟩
      · rw [State.closeEvent_responses, work.responses, answered, slice_emptyView fits]
        rfl
      · rw [State.closeEvent_assemblies, work.assemblies, assemblies]
    case counts =>
      generalize (s.joined (readRequest tag addr len)).viewed s.arrivals tag len p = v at views
      have effect : v.readEffect tag p = v.countReturn p.station :=
        (State.readEffect_link own).trans (State.linkRead_other ((views.slotUnread _ _).trans read))
      have station : v.stations[p.station] = x := by rw [views.stations, hx]
      rw [effect, State.closeEvent_stations, State.closeEvent_pool,
        State.showing_congr (State.closeEvent_part _) (State.closeEvent_stations _)]
      refine ⟨fun going => ?_, fun down below => ?_, fun down reached => ?_⟩
      · rw [State.countReturn_stands (by rw [station]; exact going)]
        exact ⟨views.stations, views.pool⟩
      · rw [State.countReturn_counts (by rw [station]; exact down) (by rw [station]; exact below)]
        refine ⟨?_, views.pool⟩
        change v.stations.set p.station (Station.counted v.stations[p.station]) = _
        rw [station, views.stations]
        rfl
      · rw [State.countReturn_returns (by rw [station]; exact down) (by rw [station]; exact reached)]
        exact v.returnOpen_opens p.station
    case processor =>
      rw [State.readEffect_processor zero, State.closeEvent_stations, State.closeEvent_pool, State.closeEvent_courses,
        State.closeEvent_tickets]
      exact ⟨views.stations, views.pool, views.courses, views.tickets⟩
  case assembly =>
    have runs := exec_windowRead high room translated
    have view : (s.joined (readRequest tag addr len)).slotView? p = some (k, b) := State.slotView_some slot hk
    obtain ⟨line, -⟩ := State.translated_form translated
    obtain ⟨some', -, -⟩ := (inOneLine_iff _).1 line
    refine ⟨_, runs, fun low => ?_, fun high' => ?_⟩
    · have assembles := State.viewed_assembles (id := s.arrivals) (tag := tag)
        (s := s.joined (readRequest tag addr len)) view
        setup some' low
      rw [State.closeEvent_assemblies, (State.readEffect_work tag p _).assemblies]
      exact assembles
    · rw [State.viewed_synth view high']
      have port : ((s.joined (readRequest tag addr len)).respond tag s.arrivals
        { status := .okay, data := (((s.joined (readRequest tag addr len)).synthBytes k b).drop (p.first - 56)).take len
          }).port = s.port := rfl
      refine ⟨?_, OnlyOwnIssued.grows port
        ((State.readEffect_work tag p _).port.trans (State.closeEvent_port _)), fun alone => ?_⟩
      · rw [State.closeEvent_assemblies, (State.readEffect_work tag p _).assemblies]
        rfl
      · rw [State.closeEvent_responses, (State.readEffect_work tag p _).responses]
        exact (State.respond_joined_alone (s := s) (r := readRequest tag addr len) _ alone).1

end Sys2Proof.Machine

/-! SUPPORT. The commits of POST and AMEND, of which O25, O26 and O29 tell: the records that a split takes, the batches
that are released at once, and the checks before them (R6, R15, R16, R21, R22). -/

namespace Sys2Proof.Machine

variable {s t u v w : State} {n : Bool} {e r : Nat} {b : Batch} {k : Ticket} {c : CourseId}

-- ## The lowest free numbers

theorem Table.length_freeFrom {α : Type} (i m : Nat) (p : Table α) : (Table.freeFrom i m p).length = m := by
  induction p generalizing i m with
  | nil => exact List.length_range' ..
  | cons x p ih =>
    rw [Table.freeFrom]
    split
    · rw [List.length_append, List.length_range', ih]
      omega
    · exact ih _ _

/-- The free numbers of a canonical table rise. -/
theorem Table.freeFrom_rises {α : Type} {i : Nat} (m : Nat) {p : Table α} (rising : Table.wfFrom i p = true) :
    (Table.freeFrom i m p).Pairwise (· < ·) ∧ ∀ x ∈ Table.freeFrom i m p, i ≤ x := by
  induction p generalizing i m with
  | nil => exact ⟨List.pairwise_lt_range', fun x hx => (List.mem_range'_1.1 hx).1⟩
  | cons y p ih =>
    obtain ⟨low, later⟩ := Bool.and_eq_true_iff.1 rising
    have low' : i ≤ y.1 := of_decide_eq_true low
    rw [Table.freeFrom]
    split
    · obtain ⟨rises, past⟩ := ih (m - (y.1 - i)) later
      have before {x : Nat} (hx : x ∈ List.range' i (min m (y.1 - i))) : i ≤ x ∧ x < y.1 := by
        obtain ⟨lo, hi⟩ := List.mem_range'_1.1 hx
        omega
      refine ⟨List.pairwise_append.2 ⟨List.pairwise_lt_range', rises, fun a ha c hc => ?_⟩, fun x hx => ?_⟩
      · have inside := (before ha).2
        have outside := past c hc
        omega
      · rcases List.mem_append.1 hx with first | second
        · exact (before first).1
        · exact low'.trans ((Nat.le_succ _).trans (past x second))
    · obtain ⟨rises, past⟩ := ih m later
      exact ⟨rises, fun x hx => low'.trans ((Nat.le_succ _).trans (past x hx))⟩

theorem Table.lowestFree_nodup {α : Type} (m : Nat) {p : Table α} (rising : Table.wfFrom 0 p = true) :
    (Table.lowestFree m p).Nodup :=
  (Table.freeFrom_rises m rising).1.imp fun less => less.ne

-- ## The records that a split takes

theorem putBatches_other {es : List (Nat × Batch)} (out : ∀ x ∈ es, x.1 ≠ r) (p : Table Batch) :
    Table.get? r (putBatches p es) = Table.get? r p := by
  induction es generalizing p with
  | nil => rfl
  | cons x es ih =>
    refine (ih (fun y hy => out y (List.mem_cons_of_mem _ hy)) (Table.put x.1 x.2 p)).trans ?_
    exact Table.get?_put_other (Ne.symm (out x List.mem_cons_self)) x.2 p

/-- A record that batches were put into holds one of them. -/
theorem putBatches_mem {es : List (Nat × Batch)} (mem : ∃ x ∈ es, x.1 = r) (p : Table Batch) :
    ∃ x ∈ es, x.1 = r ∧ Table.get? r (putBatches p es) = some x.2 := by
  induction es generalizing p with
  | nil =>
    obtain ⟨x, hx, -⟩ := mem
    exact absurd hx List.not_mem_nil
  | cons x es ih =>
    by_cases later : ∃ y ∈ es, y.1 = r
    · obtain ⟨y, hy, holds⟩ := ih later (Table.put x.1 x.2 p)
      exact ⟨y, List.mem_cons_of_mem _ hy, holds⟩
    · obtain ⟨y, hy, own⟩ := mem
      have first : y = x := (List.mem_cons.1 hy).resolve_right fun hy => later ⟨y, hy, own⟩
      refine ⟨x, List.mem_cons_self, first ▸ own, (putBatches_other (fun z hz same => later ⟨z, hz, same⟩) _).trans ?_⟩
      rw [← own, first]
      exact Table.get?_put_same x.1 x.2 p

/-- Each record that is taken gets one of the batches. -/
theorem putBatches_taken {rs : List Nat} {bs : List Batch} (size : rs.length = bs.length) (mem : r ∈ rs) (p : Table Batch) :
    ∃ b ∈ bs, Table.get? r (putBatches p (rs.zip bs)) = some b := by
  have first : r ∈ (rs.zip bs).map Prod.fst := by rwa [List.map_fst_zip size.le]
  obtain ⟨x, hx, own⟩ := List.mem_map.1 first
  obtain ⟨⟨q, d⟩, hx, -, holds⟩ := putBatches_mem ⟨x, hx, own⟩ p
  exact ⟨d, (List.of_mem_zip hx).2, holds⟩

/-- With distinct records each holds its own batch. -/
theorem putBatches_at {rs : List Nat} {bs : List Batch} (distinct : rs.Nodup) {i : Nat} (hr : rs[i]? = some r)
    (hb : bs[i]? = some b) (p : Table Batch) : Table.get? r (putBatches p (rs.zip bs)) = some b := by
  have zipped : (rs.zip bs)[i]? = some (r, b) := List.getElem?_zip_eq_some.2 ⟨hr, hb⟩
  obtain ⟨⟨q, d⟩, hx, rfl, holds⟩ := putBatches_mem ⟨(r, b), List.mem_of_getElem? zipped, rfl⟩ p
  obtain ⟨j, hj⟩ := List.mem_iff_getElem?.1 hx
  obtain ⟨hq, hd⟩ := List.getElem?_zip_eq_some.1 hj
  have inside : i < rs.length := (List.getElem?_eq_some_iff.1 hr).1
  have same : i = j := (List.getElem?_inj inside distinct).1 (hr.trans hq.symm)
  subst same
  rw [holds]
  exact hd.symm.trans hb

-- ## The release of new batches

theorem State.releaseNew_rests {rs : List Nat} (h : (s.courses[c]).state = .idle ∨ (s.courses[c]).state = .staged
    ∨ (s.courses[c]).state = .cleared) : s.releaseNew c rs = s := by
  unfold State.releaseNew
  rcases h with h | h | h <;> rw [h]

/-- The new batches that are due at the commit (R16). -/
def State.newlyDue (s : State) (c : CourseId) (rs : List Nat) : List Nat :=
  rs.filter fun r => match s.batch? r with
    | some b => dueAt (s.courses[c]).countdown b
    | none => false

theorem State.releaseNew_releases {rs : List Nat} (h : (s.courses[c]).state = .fired ∨ (s.courses[c]).state = .held
    ∨ (s.courses[c]).state = .passed) : s.releaseNew c rs = s.release (s.newlyDue c rs) := by
  unfold State.releaseNew
  rcases h with h | h | h <;> rw [h] <;> rfl

theorem State.mem_newlyDue {rs : List Nat} (hb : s.batch? r = some b) :
    r ∈ s.newlyDue c rs ↔ r ∈ rs ∧ b.state = .planned ∧ (s.courses[c]).countdown ≤ b.threshold := by
  unfold State.newlyDue
  rw [List.mem_filter, hb]
  simp [dueAt]

theorem State.releaseNew_none {rs : List Nat} (h : s.newlyDue c rs = []) : s.releaseNew c rs = s := by
  have released : s.release (s.newlyDue c rs) = s := by rw [h, State.release_nil]
  unfold State.releaseNew
  split
  · exact released
  · exact released
  · exact released
  all_goals rfl

theorem State.newlyDue_nil {rs : List Nat} (h : ∀ r ∈ rs, ∀ b, s.batch? r = some b →
    b.threshold < (s.courses[c]).countdown) : s.newlyDue c rs = [] := by
  refine List.filter_eq_nil_iff.2 fun r hr => ?_
  cases hb : s.batch? r with
  | none => exact Bool.false_ne_true
  | some b =>
    have later := h r hr b hb
    simp only [dueAt, Bool.and_eq_true, decide_eq_true_eq, not_and]
    omega

-- ## The commit of a split

/-- `t` is what the event of `s` leaves when a command has come to this end. -/
def EndsIn (s t : State) (n : Bool) (c : CommandEnd × State) : Prop :=
  ∀ status result v, c = (.ended status result, v) → v.intake = s.intake → v.part = s.part →
    v.conditions.notify = s.conditions.notify → Finishes s v t n status result

def State.setCache (l : List CacheEntry) (s : State) : State := { s with cache := l }

/-- A command that ends in the tables of `u`, but for what a completion and the marks change. -/
theorem EndsIn.ends {status : Status} {result : Nat} {z : CommandEnd × State} (h : EndsIn s t n z)
    (done : z = (.ended status result, v)) (same : SameTables u v) (intake : u.intake = s.intake)
    (part : u.part = s.part) (notify : u.conditions.notify = s.conditions.notify) : EndsWith s u t n status result := by
  have intake' : v.intake = u.intake := (congrArg State.intake same).trans rfl
  have part' : v.part = u.part := (congrArg State.part same).trans rfl
  have notify' : v.conditions.notify = u.conditions.notify := (congrArg (fun z => z.conditions.notify) same).trans rfl
  have finishes := h status result v done (intake'.trans intake) (part'.trans part) (notify'.trans notify)
  exact ⟨finishes.completes, finishes.leaves.rebase same⟩

/-- The commit of a split whose batches have been placed in `v` (R15, R16, R21, R22). -/
theorem commits_batches {old : List Nat} {bs : List Batch} {l : List CacheEntry}
    (same : SameTables ((s.setCache l).withBatches e k old bs) v) (own : ∀ b ∈ bs, b.owner = e ∧ b.state = .planned)
    (ends : EndsIn s t n (.ended .done 0,
      v.releaseNew k.course (Table.lowestFree bs.length (eraseBatches old s.pool)))) :
    CommitsBatches s (s.setCache l) t n e k old bs := by
  have tickets : v.tickets = Table.put e _ s.tickets := (congrArg State.tickets same).trans rfl
  have pool : v.pool = putBatches (eraseBatches old s.pool)
    ((Table.lowestFree bs.length (eraseBatches old s.pool)).zip bs) :=
    (congrArg State.pool same).trans rfl
  have courses : v.courses = ((s.setCache l).withBatches e k old bs).courses := (congrArg State.courses same).trans rfl
  have stations : v.stations = s.stations := (congrArg State.stations same).trans rfl
  have course : v.courses[k.course] = { (s.courses[k.course]) with
      openCount := (s.courses[k.course]).openCount + bs.length - old.length } := by
    rw [courses]
    exact getElem_set_fin_self _ _ _
  have size : (Table.lowestFree bs.length (eraseBatches old s.pool)).length = bs.length := Table.length_freeFrom ..
  refine ⟨fun waits => ?waits, fun live rising => ?live⟩
  case waits =>
    have stands : v.releaseNew k.course (Table.lowestFree bs.length (eraseBatches old s.pool)) = v := by
      rcases waits with idle | staged | cleared | later
      · exact State.releaseNew_rests (.inl (by rw [course]; exact idle))
      · exact State.releaseNew_rests (.inr (.inl (by rw [course]; exact staged)))
      · exact State.releaseNew_rests (.inr (.inr (by rw [course]; exact cleared)))
      · refine State.releaseNew_none (State.newlyDue_nil fun r hr b hb => ?_)
        obtain ⟨d, hd, holds⟩ := putBatches_taken size hr (eraseBatches old s.pool)
        rw [← pool] at holds
        rw [course, Option.some.inj (hb.symm.trans holds)]
        exact later d hd
    rw [stands] at ends
    exact ends.ends rfl same rfl rfl rfl
  case live =>
    rw [State.releaseNew_releases (by rw [course]; exact live)] at ends
    have distinct := Table.lowestFree_nodup bs.length (eraseBatches_wf old rising.2)
    have service : v.service = s.service := (congrArg State.service same).trans rfl
    have conditions : v.conditions = s.conditions := (congrArg State.conditions same).trans rfl
    have part : v.part = s.part := (congrArg State.part same).trans rfl
    have intake : v.intake = s.intake := (congrArg State.intake same).trans rfl
    have cache : v.cache = l := (congrArg State.cache same).trans rfl
    have locks : v.locks = s.locks := (congrArg State.locks same).trans rfl
    generalize Table.lowestFree bs.length (eraseBatches old s.pool) = rs at *
    have moves := v.release_moves (v.newlyDue k.course rs)
    have judged := fun r b q => State.release_judged (s := v) (rs := v.newlyDue k.course rs) (r := r) (b := b) (k := q)
    have due := fun r b => State.mem_newlyDue (s := v) (c := k.course) (rs := rs) (r := r) (b := b)
    generalize v.release (v.newlyDue k.course rs) = w at ends moves judged
    have finishes := ends .done 0 w rfl (moves.intake.trans intake) (moves.part.trans part)
      (congrArg Conditions.notify (moves.conditions.trans conditions))
    have leaves := finishes.leaves
    obtain ⟨plan, state, countdown, openCount⟩ := moves.courses k.course
    rw [course] at plan state countdown openCount
    refine ⟨finishes.completes, leaves.cache.trans (moves.cache.trans cache), leaves.locks.trans (moves.locks.trans locks),
      leaves.service.trans (moves.service.trans service), leaves.tickets.trans (moves.tickets.trans ?_), ?_, ?_, ?_,
      fun i r b hr hb => ⟨fun isDue => ?due, fun later free => ?later⟩⟩
    · exact (congrArg State.tickets same).trans rfl
    · rw [leaves.courses, openCount]
      exact (congrArg Course.openCount (getElem_set_fin_self ..)).symm
    · rw [leaves.courses, state]
    · rw [leaves.courses, countdown]
    all_goals
      have record : v.batch? r = some b := by
        unfold State.batch?
        rw [pool]
        exact putBatches_at distinct hr hb _
      obtain ⟨owner, planned⟩ := own b (List.mem_of_getElem? hb)
      have kept := State.batch_congr leaves.pool r
    case due =>
      have entry : v.ticketOf? b = some { k with
          batches := Table.lowestFree bs.length (eraseBatches old (s.setCache l).pool), finished := 0 } := by
        unfold State.ticketOf?
        rw [owner, congrArg State.tickets same]
        exact Table.get?_put_same ..
      obtain ⟨b', hb', goes, state', late⟩ := judged r b _
        ((due r b record).2 ⟨List.mem_of_getElem? hr, planned, by rw [course]; exact isDue⟩) record entry
      rw [course] at late
      exact ⟨b', kept.trans hb', state', goes.threshold, late⟩
    case later =>
      have apart := (moves.apart r (fun mem => ?_) fun st => by rw [stations]; exact free st).1
      · exact kept.trans (apart.trans record)
      · obtain ⟨-, -, isDue⟩ := (due r b record).1 mem
        rw [course] at isDue
        exact absurd (isDue : (s.courses[k.course]).countdown ≤ b.threshold) (not_le.2 later)

/-- The batches of a split are PLANNED, and their owner is the entry (R7, R9). -/
theorem splitTicket_own {d : DishRecord} {mark : Nat} {bs : List Batch} (h : splitTicket k d mark e = some bs) :
    ∀ b ∈ bs, b.owner = e ∧ b.state = .planned := by
  unfold splitTicket at h
  split at h
  · exact nomatch h
  · intro b hb
    rw [← Option.some.inj h] at hb
    obtain ⟨i, -, rfl⟩ := List.mem_map.1 hb
    exact ⟨rfl, rfl⟩

-- ## The commit of a POST

theorem State.admitTicket_places {id : Nat} {l : List CacheEntry} (fresh : k.finished = 0) (bs : List Batch) :
    SameTables ((s.setCache l).withBatches e k [] bs) (((s.fetched id).setCache l).admitTicket k e bs) := by
  obtain ⟨line, hostId, course, wave, dish, rush, portions, special, tags, lead, station, batches, finished, voided⟩ := k
  subst fresh
  rfl

theorem postCommit_commits {id : Nat} {l : List CacheEntry} {d : DishRecord} (fresh : k.finished = 0)
    (ends : EndsIn s t n (((s.fetched id).setCache l).postCommit k d)) : CommitsPost s (s.setCache l) t n k d := by
  unfold State.postCommit at ends
  have sameSplit : splitTicket k d (((s.fetched id).setCache l).passMark k) ((s.fetched id).setCache l).freeEntryNumber
      = splitTicket k d (s.passMark k) s.freeEntryNumber := rfl
  rw [sameSplit] at ends
  refine ⟨fun failed => ?_, fun bs split => ⟨fun full => ?_, fun room closed => ?_, fun room idle cleared => ?_⟩⟩
  · rw [failed] at ends
    exact ends.ends rfl rfl rfl rfl rfl
  all_goals rw [split] at ends
  · have done := ends.ends (if_pos full) (u := { s.setCache l with locks := s.locks.filter (fun x => x != k.line) })
    exact done rfl rfl rfl rfl
  · have done := ends.ends ((if_neg (not_lt.2 room)).trans (if_pos closed))
      (u := { s.setCache l with locks := s.locks.filter (fun x => x != k.line) })
    exact done rfl rfl rfl rfl
  · refine commits_batches (State.admitTicket_places (id := id) fresh bs) (splitTicket_own split) ?_
    intro status result v done
    refine ends status result v (Eq.trans ?_ done)
    exact (if_neg (not_lt.2 room)).trans (if_neg (not_or.2 ⟨idle, cleared⟩))

-- ## The commit of an AMEND

theorem Ticket.amended_keeps (f : AmendField) (a : Nat) (k : Ticket) : (k.amended f a).batches = k.batches
    ∧ (k.amended f a).course = k.course ∧ (k.amended f a).dish = k.dish ∧ (k.amended f a).line = k.line := by
  cases f <;> exact ⟨rfl, rfl, rfl, rfl⟩

theorem State.replaceBatches_places {id : Nat} {l : List CacheEntry} (bs : List Batch) :
    SameTables ((s.setCache l).withBatches e k k.batches bs) (((s.fetched id).setCache l).replaceBatches k e bs) := (rfl)

theorem State.allPlanned_iff (k : Ticket) (s : State) : s.allPlanned k = true
    ↔ ∀ r ∈ k.batches, ∃ b, s.batch? r = some b ∧ b.state = .planned := by
  unfold State.allPlanned
  rw [List.all_eq_true]
  refine forall₂_congr fun r _ => ?_
  cases s.batch? r with
  | none => simp
  | some b => simp

theorem State.amendCommit_none {line : Nat} {f : AmendField} {a : Nat} {d : DishRecord}
    (freed : s.entryOfLine? line = none) :
    s.amendCommit line f a d = (.ended .tooLate 0, s) := by
  unfold State.amendCommit
  rw [freed]

theorem amendCommit_commits {id line a : Nat} {l : List CacheEntry} {f : AmendField} {d : DishRecord}
    (entry : s.entryOfLine? line = some (e, k))
    (ends : EndsIn s t n (((s.fetched id).setCache l).amendCommit line f a d)) :
    CommitsAmend s (s.setCache l) t n e k (k.amended f a) d := by
  unfold State.amendCommit at ends
  have entry' : ((s.fetched id).setCache l).entryOfLine? line = some (e, k) := entry
  have planned' : ((s.fetched id).setCache l).allPlanned k = s.allPlanned k := rfl
  rw [entry'] at ends
  simp only [planned'] at ends
  refine ⟨fun started => ?_, fun planned => ?_⟩
  · obtain ⟨r, hr, b, hb, other⟩ := started
    have isNot : (!s.allPlanned k) = true := by
      rw [Bool.not_eq_true', Bool.eq_false_iff]
      intro all
      obtain ⟨b', hb', state⟩ := (s.allPlanned_iff k).1 all r hr
      exact other (Option.some.inj (hb.symm.trans hb') ▸ state)
    exact ends.ends (if_pos isNot) rfl rfl rfl rfl
  · have all : ¬(!s.allPlanned k) = true := by
      rw [(s.allPlanned_iff k).2 planned]
      decide
    rw [if_neg all] at ends
    have sameSplit : splitTicket (k.amended f a) d (((s.fetched id).setCache l).passMark (k.amended f a)) e
        = splitTicket (k.amended f a) d (s.passMark (k.amended f a)) e := rfl
    rw [sameSplit] at ends
    refine ⟨fun failed => ?_, fun bs split => ⟨fun full => ?_, fun room => ?_⟩⟩
    · rw [failed] at ends
      exact ends.ends rfl rfl rfl rfl rfl
    all_goals rw [split] at ends
    · exact ends.ends (if_pos full) rfl rfl rfl rfl
    · obtain ⟨batches, course, -⟩ := k.amended_keeps f a
      have places := State.replaceBatches_places (s := s) (id := id) (l := l) (e := e) (k := k.amended f a) bs
      rw [batches] at places
      refine commits_batches places (splitTicket_own split) ?_
      intro status result v done
      refine ends status result v (Eq.trans ?_ done)
      rw [course]
      exact if_neg (not_lt.2 room)

end Sys2Proof.Machine

/-! SUPPORT. O25, O26 and O29: the answers to the reads of POST and AMEND (R2, R14 to R16, R20 to R22, R32, R36 to R39). -/

namespace Sys2Proof.Machine

variable {s t u v w : State} {n : Bool} {e r : Nat} {b : Batch} {k : Ticket} {c : CourseId}

-- ## Numbered checks

/-- The number of the first check that fails, of checks that are numbered in order. -/
theorem firstFailing_numbered {fails : Nat → Bool} {lo m check : Nat} :
    firstFailing ((List.range' lo m).map fun i => (i, fails i)) = some check
      ↔ lo ≤ check ∧ check < lo + m ∧ fails check = true ∧ ∀ i, lo ≤ i → i < check → fails i = false := by
  induction m generalizing lo with
  | zero =>
    refine ⟨nofun, fun ⟨_, _, _⟩ => ?_⟩
    omega
  | succ m ih =>
    rw [List.range'_succ, List.map_cons, firstFailing]
    by_cases first : fails lo = true
    · rw [if_pos first]
      refine ⟨fun h => ?_, fun ⟨low, _, _, none'⟩ => ?_⟩
      · obtain rfl := Option.some.inj h
        exact ⟨le_rfl, by omega, first, fun i lo hi => by omega⟩
      · refine congrArg some (Nat.le_antisymm low (not_lt.1 fun later => ?_))
        exact absurd (first.symm.trans (none' lo le_rfl later)) nofun
    · rw [if_neg first, ih]
      constructor
      · rintro ⟨low, high, holds, none'⟩
        refine ⟨by omega, by omega, holds, fun i lo' hi => ?_⟩
        by_cases same : i = lo
        · rw [same]
          exact Bool.eq_false_iff.2 first
        · exact none' i (by omega) hi
      · rintro ⟨low, high, holds, none'⟩
        have other : check ≠ lo := fun same => first (same ▸ holds)
        exact ⟨by omega, by omega, holds, fun i lo' hi => none' i (by omega) hi⟩

/-- The same, for checks that are spelled out one by one. -/
theorem firstFailing_checks {fails : Nat → Bool} {spelled : Nat → Prop} {lo m check : Nat}
    (same : ∀ i, lo ≤ i → i < lo + m → (spelled i ↔ fails i = true)) :
    firstFailing ((List.range' lo m).map fun i => (i, fails i)) = some check
      ↔ lo ≤ check ∧ check < lo + m ∧ spelled check ∧ ∀ i, lo ≤ i → i < check → ¬spelled i := by
  rw [firstFailing_numbered]
  constructor
  · rintro ⟨low, high, holds, none'⟩
    refine ⟨low, high, (same check low high).2 holds, fun i lo' hi holds' => ?_⟩
    exact absurd ((none' i lo' hi).symm.trans ((same i lo' (by omega)).1 holds')) nofun
  · rintro ⟨low, high, holds, none'⟩
    refine ⟨low, high, (same check low high).1 holds, fun i lo' hi => ?_⟩
    exact Bool.eq_false_iff.2 (mt (same i lo' (by omega)).2 (none' i lo' hi))

-- ## The check of a dish record

/-- The nine checks of a dish record, by their numbers (R32). -/
def DishRecord.fails (d : DishRecord) : Nat → Bool
  | 1 => decide (31 < d.home)
  | 2 => d.batchSize == 0 || decide (255 < d.batchSize)
  | 3 => d.lead == 0 || decide (4095 < d.lead)
  | 4 => decide (1 < d.unitCode)
  | 5 => decide (4095 < d.gap)
  | 6 => decide (31 < d.specialPosition)
  | 7 => d.divertB.bad
  | 8 => d.divertC.bad
  | 9 => d.divertD.bad
  | _ => false

theorem DishRecord.check_eq (d : DishRecord) :
    d.check = firstFailing ((List.range' 1 9).map fun i => (i, d.fails i)) := (rfl)

theorem byteAt_lt (bs : List Byte) (i : Nat) : byteAt bs i < 256 := (bs.getD i 0).isLt

theorem leNat_lt (bs : List Byte) (k m : Nat) : leNat bs k m < 256 ^ m := by
  induction m generalizing k with
  | zero => exact Nat.zero_lt_one
  | succ m ih =>
    have low := byteAt_lt bs k
    have high := ih (k + 1)
    change byteAt bs k + 256 * leNat bs (k + 1) m < 256 ^ (m + 1)
    rw [pow_succ]
    omega

theorem ofNat_leNat_eq_zero (bs : List Byte) (k : Nat) : BitVec.ofNat 16 (leNat bs k 2) = 0#16 ↔ leNat bs k 2 = 0 := by
  have fits := leNat_lt bs k 2
  rw [BitVec.toNat_inj.symm, BitVec.toNat_ofNat, Nat.mod_eq_of_lt (by omega)]
  rfl

theorem parseDivert_bad (bs : List Byte) (i j : Nat) :
    (parseDivert bs i j).bad = true ↔ leNat bs j 2 ≠ 0 ∧ 31 < byteAt bs i := by
  have zero := ofNat_leNat_eq_zero bs j
  unfold Divert.bad parseDivert
  rw [Bool.and_eq_true, bne_iff_ne, decide_eq_true_eq]
  exact and_congr_left fun _ => not_congr zero

/-- The nine checks of a dish record, by its bytes (R31, R32). -/
theorem parseDish_checks {bs : List Byte} {fails : Nat → Prop} (home : fails 1 ↔ 31 < byteAt bs 0)
    (size : fails 2 ↔ byteAt bs 1 = 0) (lead : fails 3 ↔ leNat bs 2 2 = 0 ∨ 4095 < leNat bs 2 2)
    (unit : fails 4 ↔ byteAt bs 4 ≠ 0 ∧ byteAt bs 4 ≠ 1) (gap : fails 5 ↔ 4095 < leNat bs 6 2)
    (position : fails 6 ↔ 31 < byteAt bs 5) (divertB : fails 7 ↔ leNat bs 10 2 ≠ 0 ∧ 31 < byteAt bs 8)
    (divertC : fails 8 ↔ leNat bs 14 2 ≠ 0 ∧ 31 < byteAt bs 12)
    (divertD : fails 9 ↔ leNat bs 18 2 ≠ 0 ∧ 31 < byteAt bs 16) :
    ∀ i, 1 ≤ i → i < 1 + 9 → (fails i ↔ (parseDish bs).fails i = true) := by
  have small := byteAt_lt bs 1
  intro i lo hi
  have cases' : i = 1 ∨ i = 2 ∨ i = 3 ∨ i = 4 ∨ i = 5 ∨ i = 6 ∨ i = 7 ∨ i = 8 ∨ i = 9 := by omega
  rcases cases' with rfl | rfl | rfl | rfl | rfl | rfl | rfl | rfl | rfl
  · exact home.trans decide_eq_true_iff.symm
  · rw [size]
    change _ ↔ (byteAt bs 1 == 0 || decide (255 < byteAt bs 1)) = true
    simp only [Bool.or_eq_true, beq_iff_eq, decide_eq_true_eq]
    omega
  · rw [lead]
    change _ ↔ (leNat bs 2 2 == 0 || decide (4095 < leNat bs 2 2)) = true
    simp only [Bool.or_eq_true, beq_iff_eq, decide_eq_true_eq]
  · rw [unit]
    change _ ↔ decide (1 < byteAt bs 4) = true
    rw [decide_eq_true_eq]
    omega
  · exact gap.trans decide_eq_true_iff.symm
  · exact position.trans decide_eq_true_iff.symm
  · exact divertB.trans (parseDivert_bad bs 8 10).symm
  · exact divertC.trans (parseDivert_bad bs 12 14).symm
  · exact divertD.trans (parseDivert_bad bs 16 18).symm

-- ## The end of a command whose read has been answered

theorem fetched_endsIn {id : Nat} {z : CommandEnd × State} (ready : s.part = .ready)
    (work : CommandWork (s.fetched id) z.2) : EndsIn s (State.finishCommand n z).closeEvent n z := by
  rintro status result v rfl intake part notify
  exact State.fetched_finishes (s.takesEntries_of_ready ready) work intake part notify n status result

theorem takeAs_endsIn {z : Command} (ready : s.part = .ready) (returns : s.EntryReturns n z) (known : z ≠ .unknown) :
    ∃ id, EndsIn s (s.takeAs n z) n ((s.fetched id).perform z) := by
  obtain ⟨id, finishes⟩ := State.takeAs_finishes returns (s.takesEntries_of_ready ready)
  exact ⟨id, fun status result v done => finishes status result v
    ((State.judge_ready (s := s.fetched id) ready known).trans done)⟩

theorem State.setCache_work (l : List CacheEntry) (s : State) : CommandWork s (s.setCache l) := by
  constructor <;> rfl

-- ## The dish fill

/-- What a command that ends without its commit does beside: it releases a lock, or nothing. -/
structure Lets (fail : State → State) : Prop where
  work : ∀ t, CommandWork t (fail t)
  rest : ∀ t, (fail t).intake = t.intake ∧ (fail t).part = t.part ∧ (fail t).conditions = t.conditions

theorem lets_unlock (line : Nat) : Lets (State.unlock line) :=
  ⟨fun t => (t.unlock_work line).toCommandWork, fun _ => ⟨rfl, rfl, rfl⟩⟩

theorem lets_id : Lets id := ⟨fun t => .refl t, fun _ => ⟨rfl, rfl, rfl⟩⟩

/-- A fetch or a fill that failed, of a command in progress (R14, R39). -/
theorem Lets.failed {fail : State → State} (h : Lets fail) (ready : s.part = .ready) (goes : s.GoesOn) (id : Nat)
    (f : FaultReport) : Finishes s (fail ((s.fetched id).recordFault f))
      (State.finishCommand n (.ended .memoryError 0, fail ((s.fetched id).recordFault f))).closeEvent n .memoryError 0 := by
  obtain ⟨intake, part, conditions⟩ := h.rest ((s.fetched id).recordFault f)
  refine State.fetched_finishes (s.takesEntries_of_ready ready) (((s.fetched id).recordFault_work f).trans (h.work _))
    (intake.trans (State.recordFault_intake f _)) (part.trans (State.recordFault_goes (s := s.fetched id) goes f))
    (congrArg Conditions.notify (conditions.trans (State.recordFault_conditions f _))) n _ _

theorem State.fillFailed_eq {fail : State → State} {f : FaultReport} (goes : (s.recordFault f).part ≠ .stopped) :
    s.fillFailed n f fail = State.finishCommand n (.ended .memoryError 0, fail (s.recordFault f)) := if_neg goes

theorem State.fillReturned_bad {dish check : Nat} {bs : List Byte} {fail : State → State}
    {commit : DishRecord → State → CommandEnd × State} (goes : s.part ≠ .stopped)
    (bad : (parseDish bs).check = some check) :
    s.fillReturned n dish bs fail commit = State.finishCommand n (.ended .badDish check, fail s) := by
  unfold State.fillReturned
  rw [bad]
  exact if_neg goes

theorem State.fillReturned_good {dish : Nat} {bs : List Byte} {fail : State → State}
    {commit : DishRecord → State → CommandEnd × State} (goes : s.part ≠ .stopped) (good : (parseDish bs).check = none) :
    s.fillReturned n dish bs fail commit
      = State.finishCommand n (commit (parseDish bs) (s.setCache (insertDish dish (parseDish bs) s.cache))) := by
  unfold State.fillReturned
  rw [good]
  exact if_neg goes

theorem State.recordFault_notStopped (ready : s.part = .ready) (goes : s.GoesOn) (id : Nat) (f : FaultReport) :
    ((s.fetched id).recordFault f).part ≠ .stopped := by
  rw [State.recordFault_goes (s := s.fetched id) goes f, State.fetched_part, ready]
  nofun

/-- What a fault leaves beside the tables of `recordFault_tables`. -/
theorem State.recordFault_rest (f : FaultReport) (s : State) : (s.recordFault f).locks = s.locks
    ∧ (s.recordFault f).cache = s.cache ∧ (s.recordFault f).plan = s.plan ∧ (s.recordFault f).loader = s.loader
    ∧ (s.recordFault f).service = s.service := by
  have work := s.logFault_work f
  unfold State.recordFault State.stopIfFatal
  split <;> exact ⟨work.locks, work.cache, work.plan, work.loader, work.service⟩

/-- The row of a dish fill that is answered. -/
theorem exec_dishFillDone {id : Nat} {m : MemRequest} (reads : s.ReadInFlight id Owner.isDishFill m) (a : Answer) :
    exec (.dishFillDone id a) s = .next ((s.fetched id).dishFilled a m (s.bytesAt m)).closeEvent :=
  congrArg Host.Outcome.next (State.run_ownRead reads a (State.dishFilled a))

theorem State.dishFilled_post {line : Nat} {l : TicketLine}
    (running : s.intake.progress = some (.running n (.postDish line l)))
    (a : Answer) (m : MemRequest) (bs : List Byte) : s.dishFilled a m bs = if a.isOkay then
      s.fillReturned n l.dish bs (State.unlock line) (fun d t => t.postCommit (l.toTicket line) d)
    else s.fillFailed n (s.fillFault l.dish line l.course) (State.unlock line) := by
  unfold State.dishFilled
  rw [running]

theorem State.dishFilled_amend {line dish course a : Nat} {f : AmendField}
    (running : s.intake.progress = some (.running n (.amendDish line dish course f a)))
    (x : Answer) (m : MemRequest) (bs : List Byte) : s.dishFilled x m bs = if x.isOkay then
      s.fillReturned n dish bs id (fun d t => t.amendCommit line f a d)
    else s.fillFailed n (s.fillFault dish line course) id := by
  unfold State.dishFilled
  rw [running]

/-- Settles O26: a failed fill, the nine checks, and the commit of a valid record. -/
theorem dishFillCommitsThePost : Obligations.DishFillCommitsThePost := by
  refine ⟨fun s n line id l m k d ready progress reads hk hd =>
    ⟨fun a bad goes => ?failed, fun check bad => ?bad, fun good => ?good⟩,
    fun bs fails h1 h2 h3 h4 h5 h6 h7 h8 h9 check => ?checks⟩
  case checks =>
    rw [DishRecord.check_eq, firstFailing_checks (parseDish_checks h1 h2 h3 h4 h5 h6 h7 h8 h9)]
    exact and_congr_right fun _ => and_congr_left' Nat.lt_succ_iff
  all_goals
    have running : (s.fetched id).intake.progress = some (.running n (.postDish line l)) := progress
    have going : (s.fetched id).part ≠ .stopped := by
      rw [State.fetched_part, ready]
      nofun
  case failed =>
    have runs := exec_dishFillDone reads a
    rw [State.dishFilled_post running, Answer.isOkay_of_ne bad, if_neg Bool.false_ne_true,
      State.fillFailed_eq (State.recordFault_notStopped ready goes id _)] at runs
    have finishes := (lets_unlock line).failed (n := n) ready goes id ((s.fetched id).fillFault l.dish line l.course)
    have leaves := finishes.leaves
    generalize hf : (s.fetched id).fillFault l.dish line l.course = f at runs finishes leaves
    obtain ⟨tickets, -, -, pool, -⟩ := (s.fetched id).recordFault_tables f
    obtain ⟨locks, cache, -⟩ := (s.fetched id).recordFault_rest f
    refine ⟨_, runs, finishes.completes, ?_, leaves.locks.trans (congrArg (List.filter _) locks),
      leaves.tickets.trans tickets, leaves.pool.trans pool, leaves.cache.trans cache⟩
    have logs := ((s.fetched id).recordFault_logs f).congr rfl rfl leaves.faults leaves.overflow
    rw [← hf] at logs ⊢
    exact logs
  case bad =>
    have runs := exec_dishFillDone reads .okay
    rw [State.dishFilled_post running, Answer.isOkay, if_pos rfl, State.fillReturned_bad going (hd ▸ bad)] at runs
    refine ⟨_, runs, (fetched_endsIn (id := id) ready ?_).ends
      (u := { s with locks := s.locks.filter (fun x => x != line) }) rfl rfl rfl
      rfl rfl⟩
    exact (lets_unlock line).work _
  case good =>
    have runs := exec_dishFillDone reads .okay
    rw [State.dishFilled_post running, Answer.isOkay, if_pos rfl, State.fillReturned_good going (hd ▸ good)] at runs
    subst hk hd
    refine ⟨_, runs, postCommit_commits (id := id) rfl (fetched_endsIn (id := id) ready ?_)⟩
    exact ((s.fetched id).setCache_work _).trans (State.postCommit_work _ _ _).toCommandWork

end Sys2Proof.Machine

/-! SUPPORT. O25 and O29: the line of a POST, and an AMEND that splits again (R2, R14, R19 to R22, R36, R37). -/

namespace Sys2Proof.Machine

variable {s t u v w : State} {n : Bool} {e r : Nat} {b : Batch} {k : Ticket} {c : CourseId}

-- ## The dish lookup

theorem cached?_none {dish : Nat} {l : List CacheEntry} (h : ∀ e ∈ l, e.dish ≠ dish) : cached? dish l = none := by
  unfold cached?
  rw [List.find?_eq_none.2 fun e he => beq_eq_false_iff_ne.2 (h e he) ▸ Bool.false_ne_true]

/-- A hit moves its entry to the most-recent end (R36). -/
def movedFirst (dish : Nat) (d : DishRecord) (l : List CacheEntry) : List CacheEntry :=
  { dish := dish, record := d } :: withoutDish dish l

/-- A command that goes on with another work when its read has been answered. -/
theorem finishCommand_runs {work : Running} (intake : v.intake = s.intake) :
    Runs s (State.finishCommand n (.runs work, v)).closeEvent n work
      ∧ PortGrows v.port (State.finishCommand n (.runs work, v)).closeEvent.port
      ∧ (State.finishCommand n (.runs work, v)).closeEvent = { v with
          port := (State.finishCommand n (.runs work, v)).closeEvent.port
          noticeShown := (State.finishCommand n (.runs work, v)).closeEvent.noticeShown, marks := Marks.empty
          intake := (State.finishCommand n (.runs work, v)).closeEvent.intake } := by
  have only := State.closeEvent_only (State.finishCommand n (.runs work, v))
  have grows := State.closeEvent_port (State.finishCommand n (.runs work, v))
  refine ⟨?_, grows, ?_⟩
  · unfold Runs
    rw [only]
    change Intake.mk v.intake.head v.intake.tail _ = _
    rw [intake]
  · rw [only]
    rfl

theorem issueFill_issues {dish id : Nat} (grows : PortGrows ((s.fetched id).issueFill dish).port t.port) :
    Issues s t (ownRequest .dishFill .read (s.plan.dishBase + dish * 32) 32 []) :=
  Issues.mono ⟨_, Entered.issue (t := s.fetched id) (s.fetched_nextId id) _⟩ grows

-- ## The line check

/-- The checks of a ticket line that end with BAD LINE (R2). -/
def State.lineBad (s : State) (l : TicketLine) : Prop :=
  15 < l.course ∨ (s.courses[toCourse l.course]).plan.waves ≤ l.wave.val ∨ (l.portions = 0 ∨ 4000 < l.portions)
    ∨ l.portions < l.special ∨ (0 < l.special ∧ l.tags = 0) ∨ 4095 < l.lead

theorem State.lineCheck_bad {l : TicketLine} (bad : s.lineBad l) : s.lineCheck l = some .badLine := by
  unfold State.lineBad at bad
  unfold State.lineCheck
  generalize (s.courses[toCourse l.course]).plan.waves = waves at bad ⊢
  rcases bad with h | h | h | h | h | h <;> simp [firstFailing, h]

theorem State.lineCheck_good {l : TicketLine} (good : ¬s.lineBad l) : s.lineCheck l
    = if 1023 < l.dish ∨ s.plan.dishCount ≤ l.dish then some .badDish else none := by
  unfold State.lineBad at good
  unfold State.lineCheck
  generalize (s.courses[toCourse l.course]).plan.waves = waves at good ⊢
  simp only [not_or] at good
  obtain ⟨course, wave, ⟨none', many⟩, special, tags, lead⟩ := good
  have tags' : (decide (0 < l.special) && l.tags == 0) = false := by simpa using tags
  simp only [firstFailing, course, wave, none', many, special, tags', lead, decide_false, Bool.false_eq_true, if_false,
    beq_iff_eq, Bool.or_eq_true, decide_eq_true_eq, or_self]

theorem lineBad_iff {bs : List Byte} : s.lineBad (parseTicketLine bs) ↔
    15 < byteAt bs 2 ∨ (s.courses[Fin.ofNat 16 (byteAt bs 2)]).plan.waves ≤ byteAt bs 3 % 4
      ∨ leNat bs 6 2 = 0 ∨ 4000 < leNat bs 6 2 ∨ leNat bs 6 2 < leNat bs 8 2
      ∨ (0 < leNat bs 8 2 ∧ leNat bs 10 2 = 0) ∨ 4095 < leNat bs 12 2 := by
  rw [← ofNat_leNat_eq_zero bs 10]
  unfold State.lineBad
  rw [or_assoc]
  rfl

theorem State.lineFetched_okay {line : Nat} (running : s.intake.progress = some (.running n (.postLine line)))
    (goes : s.part ≠ .stopped) (m : MemRequest) (bs : List Byte) :
    s.lineFetched .okay m bs = State.finishCommand n (s.lineReturned line bs) := by
  unfold State.lineFetched
  rw [running]
  exact if_neg goes

theorem State.lineFetched_failed {line : Nat} {a : Answer}
    (running : s.intake.progress = some (.running n (.postLine line)))
    (bad : a ≠ .okay) (goes : (s.recordFault (lineFault line)).part ≠ .stopped) (m : MemRequest) (bs : List Byte) :
    s.lineFetched a m bs = State.finishCommand n (.ended .memoryError 0, (s.recordFault (lineFault line)).unlock line) := by
  unfold State.lineFetched
  rw [running, Answer.isOkay_of_ne bad]
  exact if_neg goes

theorem State.lineReturned_fails {line : Nat} {bs : List Byte} {status : Status}
    (fails : s.lineCheck (parseTicketLine bs) = some status) :
    s.lineReturned line bs = (.ended status 0, s.unlock line) := by
  unfold State.lineReturned
  rw [fails]

theorem State.lineReturned_passes {line : Nat} {bs : List Byte} (passes : s.lineCheck (parseTicketLine bs) = none) :
    s.lineReturned line bs = s.postLookup line (parseTicketLine bs) := by
  unfold State.lineReturned
  rw [passes]

theorem State.postLookup_miss {line : Nat} {l : TicketLine} (miss : cached? l.dish s.cache = none) :
    s.postLookup line l = (.runs (.postDish line l), s.issueFill l.dish) := by
  unfold State.postLookup
  rw [miss]

theorem State.postLookup_hit {line : Nat} {l : TicketLine} {d : DishRecord} (hit : cached? l.dish s.cache = some d) :
    s.postLookup line l = (s.setCache (movedFirst l.dish d s.cache)).postCommit (l.toTicket line) d := by
  unfold State.postLookup
  rw [hit]
  rfl

/-- The row of a line fetch that is answered. -/
theorem exec_lineFetchDone {id : Nat} {m : MemRequest} (reads : s.ReadInFlight id Owner.isLineFetch m) (a : Answer) :
    exec (.lineFetchDone id a) s = .next ((s.fetched id).lineFetched a m (s.bytesAt m)).closeEvent :=
  congrArg Host.Outcome.next (State.run_ownRead reads a (State.lineFetched a))

/-- Settles O25, by the failed fetch, the checks of the line, and the lookup of its dish. -/
theorem postLineIsChecked : Obligations.PostLineIsChecked := by
  intro s n line id m bs bad dish ready progress reads hbs hdish hbad
  change dish = (parseTicketLine bs).dish at hdish
  have running : (s.fetched id).intake.progress = some (.running n (.postLine line)) := progress
  have going : (s.fetched id).part ≠ .stopped := by
    rw [State.fetched_part, ready]
    nofun
  have runs := exec_lineFetchDone reads .okay
  rw [State.lineFetched_okay running going, ← hbs] at runs
  rw [← lineBad_iff (s := s)] at hbad
  have checks : ∀ l, (s.fetched id).lineCheck l = s.lineCheck l := fun _ => rfl
  have rejects : ∀ status, s.lineCheck (parseTicketLine bs) = some status → ∃ t, exec (.lineFetchDone id .okay) s = .next t
      ∧ EndsWith s { s with locks := s.locks.filter (fun l => l != line) } t n status 0 := by
    intro status fails
    rw [State.lineReturned_fails ((checks _).trans fails)] at runs
    refine ⟨_, runs, (fetched_endsIn (id := id) ready ?_).ends
      (u := { s with locks := s.locks.filter (fun x => x != line) }) rfl rfl rfl rfl rfl⟩
    exact (lets_unlock line).work _
  have passes : ¬bad → dish ≤ 1023 → dish < s.plan.dishCount → s.lineCheck (parseTicketLine bs) = none := by
    intro good small inside
    rw [State.lineCheck_good fun h => good (hbad.2 h)]
    exact if_neg (by rw [hdish] at small inside; exact not_or.2 ⟨not_lt.2 small, not_le.2 inside⟩)
  refine ⟨fun a failed goes => ?failed, fun isBad => rejects _ (State.lineCheck_bad (hbad.1 isBad)),
    fun good other => rejects _ ?dish, fun good small inside miss => ?miss, fun good small inside d hit => ?hit⟩
  case failed =>
    have runs := exec_lineFetchDone reads a
    rw [State.lineFetched_failed running failed (State.recordFault_notStopped ready goes id _)] at runs
    have finishes := (lets_unlock line).failed (n := n) ready goes id (lineFault line)
    have leaves := finishes.leaves
    have logs := (s.fetched id).recordFault_logs (lineFault line)
    have logs := logs.congr rfl rfl leaves.faults leaves.overflow
    obtain ⟨tickets, -, -, pool, -⟩ := (s.fetched id).recordFault_tables (lineFault line)
    obtain ⟨locks, -⟩ := (s.fetched id).recordFault_rest (lineFault line)
    exact ⟨_, runs, finishes.completes, logs, leaves.locks.trans (congrArg (List.filter _) locks),
      leaves.tickets.trans tickets, leaves.pool.trans pool⟩
  case dish =>
    rw [State.lineCheck_good fun h => good (hbad.2 h)]
    exact if_pos (hdish ▸ other)
  all_goals
    rw [State.lineReturned_passes ((checks _).trans (passes good small inside))] at runs
  case miss =>
    have none' : cached? (parseTicketLine bs).dish (s.fetched id).cache = none := cached?_none fun e he => hdish ▸ miss e he
    rw [State.postLookup_miss none'] at runs
    obtain ⟨running', grows, same⟩ := finishCommand_runs (s := s) (n := n) (work := .postDish line (parseTicketLine bs))
      (v := (s.fetched id).issueFill (parseTicketLine bs).dish) rfl
    refine ⟨_, runs, running', ?_, ?_, ?_, ?_, ?_⟩
    · rw [hdish]
      exact issueFill_issues grows
    all_goals
      rw [same]
      rfl
  case hit =>
    have hit' : cached? (parseTicketLine bs).dish (s.fetched id).cache = some d := hdish ▸ hit
    rw [State.postLookup_hit hit'] at runs
    refine ⟨_, runs, ?_⟩
    subst hdish
    refine postCommit_commits (id := id) (l := movedFirst (parseTicketLine bs).dish d s.cache) rfl
      (fetched_endsIn (id := id) ready ?_)
    exact ((s.fetched id).setCache_work _).trans (State.postCommit_work _ _ _).toCommandWork

-- ## The row of an AMEND that splits again

theorem Ticket.portionsOk_true (fits : k.special ≤ k.portions) (tagged : 0 < k.special → k.tags ≠ 0) :
    k.portionsOk = true := by
  unfold Ticket.portionsOk
  rw [Bool.and_eq_true, decide_eq_true_eq, Bool.not_eq_true', Bool.and_eq_false_imp, decide_eq_true_eq]
  exact ⟨fits, fun special => beq_eq_false_iff_ne.2 (tagged special)⟩

theorem Ticket.portionsOk_false (bad : k.portions < k.special ∨ (0 < k.special ∧ k.tags = 0)) : k.portionsOk = false := by
  unfold Ticket.portionsOk
  rcases bad with h | ⟨special, tags⟩
  · rw [decide_eq_false (not_le.2 h), Bool.false_and]
  · rw [decide_eq_true special, beq_iff_eq.2 tags, Bool.and_self, Bool.not_true, Bool.and_false]

theorem State.amendApply_resplits {f : AmendField} (splits : f.resplits = true) (line e a : Nat) (k : Ticket) (s : State) :
    s.amendApply line e k f a = s.amendResplit line k f a := by
  cases f with
  | rush | station => exact nomatch splits
  | _ => rfl

theorem State.amendResplit_bad {line a : Nat} {f : AmendField} (bad : (k.amended f a).portionsOk = false) :
    s.amendResplit line k f a = (.ended .badField 0, s) := if_pos (by rw [bad]; rfl)

theorem State.amendResplit_miss {line a : Nat} {f : AmendField} (good : (k.amended f a).portionsOk = true)
    (miss : cached? k.dish s.cache = none) :
    s.amendResplit line k f a = (.runs (.amendDish line k.dish k.course.val f a), s.issueFill k.dish) := by
  unfold State.amendResplit
  rw [if_neg (by rw [good]; nofun), miss]

theorem State.amendResplit_hit {line a : Nat} {f : AmendField} {d : DishRecord} (good : (k.amended f a).portionsOk = true)
    (hit : cached? k.dish s.cache = some d) :
    s.amendResplit line k f a = (s.setCache (movedFirst k.dish d s.cache)).amendCommit line f a d := by
  unfold State.amendResplit
  rw [if_neg (by rw [good]; nofun), hit]
  rfl

/-- An AMEND that passes the checks of R19 and splits again. -/
theorem State.amendCommand_resplits {f : AmendField} {line a : Nat} (inside : line < s.lineCount)
    (entry : s.entryOfLine? line = some (e, k)) (good : s.amendValueOk f k a = true) (fresh : k.voided = false)
    (splits : f.resplits = true) : s.amendCommand f line a = s.amendResplit line k f a := by
  rw [State.amendCommand_entry inside entry, good, fresh]
  exact State.amendApply_resplits splits line e a k s

/-- Settles O29: the checks and the lookup of an AMEND that splits again, and the return of its fill. -/
theorem amendSplitsAgain : Obligations.AmendSplitsAgain := by
  refine ⟨?taken, ?filled⟩
  case taken =>
    intro s n f line value a e k kk ha hkk splits ready returns inside entry good fresh
    subst ha hkk
    have known : Command.amend f line.toNat value.toNat ≠ .unknown := nofun
    have performs : ∀ id, (s.fetched id).perform (.amend f line.toNat value.toNat)
        = (s.fetched id).amendResplit line.toNat k f value.toNat := fun id =>
      State.amendCommand_resplits (s := s.fetched id) inside entry good fresh splits
    refine ⟨fun bad => ⟨_, exec_amendRow .., State.takeAs_stands returns ready known fun id =>
        (performs id).trans (State.amendResplit_bad (Ticket.portionsOk_false bad))⟩,
      fun fits tagged miss => ⟨_, exec_amendRow .., ?miss⟩, fun fits tagged d hit => ⟨_, exec_amendRow .., ?hit⟩⟩
    all_goals have portionsOk := Ticket.portionsOk_true fits tagged
    case miss =>
      obtain ⟨id, runs⟩ := State.takeAs_runs (work := .amendDish line.toNat k.dish k.course.val f value.toNat) returns
        (s.takesEntries_of_ready ready)
      have none' : cached? k.dish (s.fetched id).cache = none := cached?_none miss
      obtain ⟨running, grows, same⟩ := runs _ ((State.judge_ready (s := s.fetched id) ready known).trans
        ((performs id).trans (State.amendResplit_miss portionsOk none'))) rfl
      refine ⟨running, issueFill_issues grows, ?_, ?_, ?_⟩
      all_goals
        rw [same]
        rfl
    case hit =>
      obtain ⟨id, ends⟩ := takeAs_endsIn ready returns known
      have hit' : cached? k.dish (s.fetched id).cache = some d := hit
      rw [performs, State.amendResplit_hit portionsOk hit'] at ends
      exact amendCommit_commits (id := id) (l := movedFirst k.dish d s.cache) entry ends
  case filled =>
    intro s n f line dish course a id m d ready progress reads hd
    subst hd
    have running : (s.fetched id).intake.progress = some (.running n (.amendDish line dish course f a)) := progress
    have going : (s.fetched id).part ≠ .stopped := by
      rw [State.fetched_part, ready]
      nofun
    refine ⟨fun x failed goes => ?failed, fun check bad => ?bad, fun valid => ?good⟩
    case failed =>
      have runs := exec_dishFillDone reads x
      rw [State.dishFilled_amend running, Answer.isOkay_of_ne failed, if_neg Bool.false_ne_true,
        State.fillFailed_eq (State.recordFault_notStopped ready goes id _)] at runs
      have finishes := lets_id.failed (n := n) ready goes id ((s.fetched id).fillFault dish line course)
      have leaves := finishes.leaves
      generalize hf : (s.fetched id).fillFault dish line course = report at runs finishes leaves
      obtain ⟨tickets, -, -, pool, -⟩ := (s.fetched id).recordFault_tables report
      obtain ⟨-, cache, -⟩ := (s.fetched id).recordFault_rest report
      refine ⟨_, runs, finishes.completes, ?_, leaves.tickets.trans tickets, leaves.pool.trans pool,
        leaves.cache.trans cache⟩
      have logs := ((s.fetched id).recordFault_logs report).congr rfl rfl leaves.faults leaves.overflow
      rw [← hf] at logs ⊢
      exact logs
    case bad =>
      have runs := exec_dishFillDone reads .okay
      rw [State.dishFilled_amend running, Answer.isOkay, if_pos rfl, State.fillReturned_bad going bad] at runs
      exact ⟨_, runs, (fetched_endsIn (id := id) ready (.refl _)).ends (u := s) rfl rfl rfl rfl rfl⟩
    case good =>
      have runs := exec_dishFillDone reads .okay
      rw [State.dishFilled_amend running, Answer.isOkay, if_pos rfl, State.fillReturned_good going valid] at runs
      have ends := fetched_endsIn (s := s) (n := n) (id := id) ready
        (((s.fetched id).setCache_work (insertDish dish (parseDish (s.bytesAt m)) s.cache)).trans
        (State.amendCommit_work line f a (parseDish (s.bytesAt m)) _).toCommandWork)
      refine ⟨_, _, runs, rfl, fun freed => ?_, fun e k entry => amendCommit_commits (id := id) entry ends⟩
      have freed' : ((s.fetched id).setCache
        (insertDish dish (parseDish (s.bytesAt m)) s.cache)).entryOfLine? line = none := freed
      exact ends.ends (State.amendCommit_none freed') rfl rfl rfl rfl

end Sys2Proof.Machine

/-! SUPPORT. O27: the split of a ticket (R7, R9 to R12). -/

namespace Sys2Proof.Machine

variable {k : Ticket} {d : DishRecord} {mark entry i : Nat} {bs : List Batch} {b : Batch}

-- ## The list of batches

theorem splitTicket_some : splitTicket k d mark entry = some bs ↔ batchCount k d ≤ 32 ∧ k.special ≤ d.batchSize
    ∧ bs = (List.range (batchCount k d)).map (splitBatch k d mark entry) := by
  unfold splitTicket
  split
  next h =>
    refine iff_of_false nofun fun ⟨count, special, _⟩ => ?_
    exact h.elim (not_lt.2 count) (not_lt.2 special)
  next h =>
    rw [not_or, not_lt, not_lt] at h
    exact ⟨fun same => ⟨h.1, h.2, (Option.some.inj same).symm⟩, fun ⟨_, _, same⟩ => congrArg some same.symm⟩

theorem splitTicket_none : splitTicket k d mark entry = none ↔ 32 < batchCount k d ∨ d.batchSize < k.special := by
  unfold splitTicket
  split
  next h => exact iff_of_true rfl h
  next h => exact iff_of_false nofun h

/-- Batch `i` of a split. -/
theorem splitTicket_getElem? (split : splitTicket k d mark entry = some bs) :
    bs[i]? = some b ↔ i < batchCount k d ∧ b = splitBatch k d mark entry i := by
  obtain ⟨-, -, rfl⟩ := splitTicket_some.1 split
  rw [List.getElem?_map, Option.map_eq_some_iff]
  constructor
  · rintro ⟨j, at', rfl⟩
    obtain ⟨inside, rfl⟩ := List.getElem?_eq_some_iff.1 at'
    rw [List.length_range] at inside
    exact ⟨inside, by rw [List.getElem_range]⟩
  · rintro ⟨inside, rfl⟩
    exact ⟨i, List.getElem?_range inside, rfl⟩

theorem splitTicket_length (split : splitTicket k d mark entry = some bs) : bs.length = batchCount k d := by
  obtain ⟨-, -, rfl⟩ := splitTicket_some.1 split
  rw [List.length_map, List.length_range]

theorem mem_splitTicket (split : splitTicket k d mark entry = some bs) :
    b ∈ bs ↔ ∃ i, i < batchCount k d ∧ b = splitBatch k d mark entry i := by
  rw [List.mem_iff_getElem?]
  exact exists_congr fun i => splitTicket_getElem? split

-- ## The numbers of batches

theorem batchCount_eq (k : Ticket) (d : DishRecord) : batchCount k d
    = (k.portions - k.special + d.batchSize - 1) / d.batchSize + (if 0 < k.special then 1 else 0) := by
  unfold batchCount
  split <;> rfl

/-- The regular portions fill all regular batches but the last, and the last in part or in full (R10). -/
theorem regular_fills (size : 1 ≤ d.batchSize) (regular : 0 < k.regular) :
    (regularBatches k d - 1) * d.batchSize < k.regular ∧ k.regular ≤ regularBatches k d * d.batchSize := by
  unfold regularBatches
  have quotient := Nat.div_add_mod (k.regular + d.batchSize - 1) d.batchSize
  have rest := Nat.mod_lt (k.regular + d.batchSize - 1) size
  rw [Nat.mul_comm] at quotient
  rw [Nat.sub_mul]
  omega

theorem regularBatches_zero (size : 1 ≤ d.batchSize) : regularBatches k d = 0 ↔ k.regular = 0 := by
  unfold regularBatches
  rw [Nat.div_eq_zero_iff]
  omega

/-- The place of the special batch (R10). -/
theorem specialNumber_lt (special : 0 < k.special) : specialNumber k d < batchCount k d := by
  have count : batchCount k d = regularBatches k d + 1 := if_pos special
  unfold specialNumber
  omega

theorem isSpecial_iff : isSpecial k d i = true ↔ 0 < k.special ∧ i = specialNumber k d := by
  unfold isSpecial
  rw [Bool.and_eq_true, decide_eq_true_eq, beq_iff_eq]

/-- The kind of batch `i` (R10). -/
theorem splitBatch_special : (splitBatch k d mark entry i).kind = .special ↔ isSpecial k d i = true := by
  unfold splitBatch
  split
  next h => exact iff_of_true rfl h
  next h => exact iff_of_false nofun h

theorem splitBatch_regular : (splitBatch k d mark entry i).kind = .regular ↔ isSpecial k d i = false := by
  rw [← Bool.not_eq_true, ← splitBatch_special (mark := mark) (entry := entry)]
  cases (splitBatch k d mark entry i).kind <;> decide

/-- The regular batches keep their order, and each has a place among them (R10). -/
theorem regularIndex_lt (inside : i < batchCount k d) (regular : isSpecial k d i = false) :
    regularIndex k d i < regularBatches k d := by
  rw [← Bool.not_eq_true, isSpecial_iff] at regular
  unfold regularIndex
  unfold batchCount at inside
  by_cases special : 0 < k.special
  · have place : specialNumber k d ≤ regularBatches k d := Nat.lt_succ_iff.1
      ((specialNumber_lt special).trans_eq (if_pos special))
    rw [if_pos special] at inside
    split <;> omega
  · rw [if_neg special] at inside
    rw [if_neg fun ⟨some', _⟩ => special some']
    exact inside

theorem regularIndex_mono {j : Nat} (later : i < j) (first : isSpecial k d i = false) (second : isSpecial k d j = false) :
    regularIndex k d i < regularIndex k d j := by
  rw [← Bool.not_eq_true, isSpecial_iff] at first second
  unfold regularIndex
  split <;> split <;> omega

-- ## The portions

/-- The portions of the regular batch at a place (R10). -/
def regularPortions (k : Ticket) (d : DishRecord) (j : Nat) : Nat :=
  if j + 1 = regularBatches k d then k.regular - (regularBatches k d - 1) * d.batchSize else d.batchSize

theorem batchPortions_special (h : isSpecial k d i = true) : batchPortions k d i = k.special := if_pos h

theorem batchPortions_regular (h : isSpecial k d i = false) :
    batchPortions k d i = regularPortions k d (regularIndex k d i) := if_neg (ne_true_of_eq_false h)

/-- A regular batch holds 1 to B portions (R9, R10). -/
theorem regularPortions_range (size : 1 ≤ d.batchSize) (j : Nat) :
    1 ≤ regularPortions k d j ∧ regularPortions k d j ≤ d.batchSize := by
  unfold regularPortions
  split
  · have some' : 0 < k.regular := Nat.pos_of_ne_zero fun none' => by
      have := (regularBatches_zero (k := k) size).2 none'
      omega
    obtain ⟨low, high⟩ := regular_fills size some'
    have whole : regularBatches k d * d.batchSize = (regularBatches k d - 1) * d.batchSize + d.batchSize := by
      rw [← Nat.succ_mul]
      congr 1
      omega
    omega
  · exact ⟨size, le_rfl⟩

/-- The regular batches hold the regular portions (R10). -/
theorem sum_regularPortions (size : 1 ≤ d.batchSize) :
    ((List.range (regularBatches k d)).map (regularPortions k d)).sum = k.regular := by
  cases count : regularBatches k d with
  | zero => exact ((regularBatches_zero size).1 count).symm
  | succ m =>
    have some' : 0 < k.regular := Nat.pos_of_ne_zero fun none' => by
      have := (regularBatches_zero (k := k) size).2 none'
      omega
    obtain ⟨low, -⟩ := regular_fills size some'
    rw [count, Nat.add_sub_cancel] at low
    have full : (List.range m).map (regularPortions k d) = (List.range m).map fun _ => d.batchSize := by
      refine List.map_congr_left fun j hj => if_neg ?_
      have := List.mem_range.1 hj
      omega
    have last : regularPortions k d m = k.regular - m * d.batchSize := by
      rw [regularPortions, if_pos count.symm, count, Nat.add_sub_cancel]
    rw [List.range_succ, List.map_append, List.sum_append, full, List.map_const', List.sum_replicate, List.length_range,
      List.map_singleton, List.sum_singleton, last, smul_eq_mul]
    omega

/-- A value put among others at a place adds to their sum. -/
theorem sum_inserted {f g : Nat → Nat} {x p m : Nat} (inside : p ≤ m) (at' : g p = x) (before : ∀ i, i < p → g i = f i)
    (after : ∀ i, p < i → g i = f (i - 1)) :
    ((List.range (m + 1)).map g).sum = ((List.range m).map f).sum + x := by
  induction m with
  | zero =>
    obtain rfl : p = 0 := by omega
    rw [← at', List.range_one, List.map_singleton, List.sum_singleton, List.range_zero, List.map_nil,
      List.sum_nil, Nat.zero_add]
  | succ m ih =>
    rw [List.range_succ, List.map_append, List.sum_append, List.map_singleton, List.sum_singleton]
    by_cases last : p = m + 1
    · rw [List.map_congr_left fun i hi => before i (last ▸ List.mem_range.1 hi), ← at', last]
    · rw [ih (by omega), after (m + 1) (by omega), Nat.add_sub_cancel, List.range_succ, List.map_append, List.sum_append,
        List.map_singleton, List.sum_singleton, Nat.add_right_comm]

/-- The batches hold the portions of the ticket (R10). -/
theorem sum_batchPortions (size : 1 ≤ d.batchSize) (fits : k.special ≤ k.portions) :
    ((List.range (batchCount k d)).map (batchPortions k d)).sum = k.portions := by
  have regular := sum_regularPortions (k := k) size
  have split : k.regular = k.portions - k.special := rfl
  by_cases special : 0 < k.special
  · have count : batchCount k d = regularBatches k d + 1 := if_pos special
    have place := specialNumber_lt (d := d) special
    rw [count] at place ⊢
    have other : ∀ i, i ≠ specialNumber k d → isSpecial k d i = false := fun i h => by
      rw [← Bool.not_eq_true, isSpecial_iff]
      exact fun ⟨_, same⟩ => h same
    rw [sum_inserted (f := regularPortions k d) (Nat.lt_succ_iff.1 place)
      (batchPortions_special (isSpecial_iff.2 ⟨special, rfl⟩)) (fun i h => ?before) (fun i h => ?after)]
    · omega
    case before =>
      rw [batchPortions_regular (other i (Nat.ne_of_lt h)), regularIndex, if_neg fun ⟨_, later⟩ => absurd later (by omega)]
    case after =>
      rw [batchPortions_regular (other i (Nat.ne_of_gt h)), regularIndex, if_pos ⟨special, h⟩]
  · have count : batchCount k d = regularBatches k d := if_neg special
    have same : (List.range (regularBatches k d)).map (batchPortions k d)
        = (List.range (regularBatches k d)).map (regularPortions k d) := by
      refine List.map_congr_left fun i _ => ?_
      have plain : isSpecial k d i = false := by
        rw [← Bool.not_eq_true, isSpecial_iff]
        exact fun ⟨some', _⟩ => special some'
      rw [batchPortions_regular plain, regularIndex, if_neg fun ⟨some', _⟩ => special some']
    rw [count, same]
    omega

theorem batchPortions_range (size : 1 ≤ d.batchSize) (fits : k.special ≤ d.batchSize) (i : Nat) :
    1 ≤ batchPortions k d i ∧ batchPortions k d i ≤ d.batchSize := by
  rcases Bool.eq_false_or_eq_true (isSpecial k d i) with special | regular
  · rw [batchPortions_special special]
    exact ⟨(isSpecial_iff.1 special).1, fits⟩
  · rw [batchPortions_regular regular]
    exact regularPortions_range size _

theorem batchCount_pos (size : 1 ≤ d.batchSize) (some' : 1 ≤ k.portions) : 1 ≤ batchCount k d := by
  by_cases special : 0 < k.special
  · exact (Nat.zero_le _).trans_lt (specialNumber_lt special)
  · have zero := regularBatches_zero (k := k) size
    have regular : k.regular = k.portions - k.special := rfl
    have count : batchCount k d = regularBatches k d := if_neg special
    omega

-- ## The special batch

/-- One batch is special, and it stands at the special position, or last (R10). -/
theorem filter_special (special : 0 < k.special) :
    ((List.range (batchCount k d)).map (splitBatch k d mark entry)).filter (fun x => x.kind == .special)
      = [splitBatch k d mark entry (specialNumber k d)] := by
  have same : (fun x : Batch => x.kind == .special) ∘ splitBatch k d mark entry = (· == specialNumber k d) := by
    funext i
    rw [Function.comp_apply, Bool.eq_iff_iff, beq_iff_eq, beq_iff_eq, splitBatch_special, isSpecial_iff]
    exact and_iff_right special
  have mem : specialNumber k d ∈ List.range (batchCount k d) := List.mem_range.2 (specialNumber_lt special)
  rw [List.filter_map, same, List.filter_beq, List.count_eq_one_of_mem List.nodup_range mem]
  rfl

-- ## The targets

theorem find?_shares {x : Divert} {xs : List Divert} {tags : BitVec 16} (shares : x.mask &&& tags ≠ 0) :
    (x :: xs).find? (fun x => x.mask &&& tags != 0) = some x := List.find?_cons_of_pos (bne_iff_ne.2 shares)

theorem find?_skips {x : Divert} {xs : List Divert} {tags : BitVec 16} (skips : x.mask &&& tags = 0) :
    (x :: xs).find? (fun x => x.mask &&& tags != 0) = xs.find? (fun x => x.mask &&& tags != 0) :=
  List.find?_cons_of_neg fun h => bne_iff_ne.1 h skips

theorem specialTarget_B (shares : d.divertB.mask &&& k.tags ≠ 0) : specialTarget k d = Fin.ofNat 32 d.divertB.station := by
  unfold specialTarget
  rw [find?_shares shares]
  rfl

theorem specialTarget_C (skipB : d.divertB.mask &&& k.tags = 0) (shares : d.divertC.mask &&& k.tags ≠ 0) :
    specialTarget k d = Fin.ofNat 32 d.divertC.station := by
  unfold specialTarget
  rw [find?_skips skipB, find?_shares shares]
  rfl

theorem specialTarget_D (skipB : d.divertB.mask &&& k.tags = 0) (skipC : d.divertC.mask &&& k.tags = 0)
    (shares : d.divertD.mask &&& k.tags ≠ 0) : specialTarget k d = Fin.ofNat 32 d.divertD.station := by
  unfold specialTarget
  rw [find?_skips skipB, find?_skips skipC,
    find?_shares shares]
  rfl

theorem specialTarget_home (skipB : d.divertB.mask &&& k.tags = 0) (skipC : d.divertC.mask &&& k.tags = 0)
    (skipD : d.divertD.mask &&& k.tags = 0) : specialTarget k d = Fin.ofNat 32 d.home := by
  unfold specialTarget
  rw [find?_skips skipB, find?_skips skipC,
    find?_skips skipD]
  rfl

theorem splitBatch_specialTarget (special : (splitBatch k d mark entry i).kind = .special) :
    (splitBatch k d mark entry i).target = specialTarget k d := if_pos (splitBatch_special.1 special)

theorem splitBatch_regularTarget (regular : (splitBatch k d mark entry i).kind = .regular) :
    (splitBatch k d mark entry i).target = match k.station with
      | some st => st
      | none => toStation d.home := if_neg (ne_true_of_eq_false (splitBatch_regular.1 regular))

/-- Settles O27, by the list of batches, their portions and their targets. -/
theorem theSplitOfATicket : Obligations.TheSplitOfATicket := by
  refine ⟨fun k d mark entry size some' fits => ⟨fun bs split => ?list, splitTicket_none⟩,
    fun k d mark entry i bs b split at' => ?batch⟩
  case list =>
    have mem := fun b => mem_splitTicket (b := b) split
    have length := splitTicket_length split
    obtain ⟨few, small, rfl⟩ := splitTicket_some.1 split
    rw [length]
    refine ⟨?sum, batchCount_pos size some', few, batchCount_eq k d, fun b hb => ?fields, ?numbers,
      fun b hb regular later => ?full, fun special => ⟨_, filter_special special, ?special⟩, fun none' b hb => ?plain⟩
    case sum =>
      rw [List.map_map]
      exact sum_batchPortions size fits
    case fields =>
      obtain ⟨i, -, rfl⟩ := (mem b).1 hb
      obtain ⟨low, high⟩ := batchPortions_range size small i
      exact ⟨low, high, rfl, rfl, rfl, rfl, rfl, rfl⟩
    case numbers =>
      rw [List.map_map]
      exact List.map_id _
    case full =>
      obtain ⟨c, hc, regular', before⟩ := later
      obtain ⟨i, inside, rfl⟩ := (mem b).1 hb
      obtain ⟨j, inside', rfl⟩ := (mem c).1 hc
      have first := splitBatch_regular.1 regular
      have second := splitBatch_regular.1 regular'
      have place := regularIndex_lt inside' second
      have earlier := regularIndex_mono (i := i) (j := j) before first second
      exact (batchPortions_regular first).trans (if_neg (by omega))
    case special =>
      exact ⟨batchPortions_special (isSpecial_iff.2 ⟨special, rfl⟩), rfl⟩
    case plain =>
      obtain ⟨i, -, rfl⟩ := (mem b).1 hb
      rw [splitBatch_regular, ← Bool.not_eq_true, isSpecial_iff]
      exact fun ⟨some', _⟩ => absurd none' (Nat.pos_iff_ne_zero.1 some')
  case batch =>
    obtain ⟨-, rfl⟩ := (splitTicket_getElem? split).1 at'
    rw [splitTicket_length split]
    have special := splitBatch_specialTarget (k := k) (d := d) (mark := mark) (entry := entry) (i := i)
    have regular := splitBatch_regularTarget (k := k) (d := d) (mark := mark) (entry := entry) (i := i)
    refine ⟨rfl, fun kind none' => ?_, fun kind st override => ?_, fun kind shares => ?_, fun kind skipB shares => ?_,
      fun kind skipB skipC shares => ?_, fun kind skipB skipC skipD => ?_⟩
    · rw [regular kind, none']
      rfl
    · rw [regular kind, override]
    · exact (special kind).trans (specialTarget_B shares)
    · exact (special kind).trans (specialTarget_C skipB shares)
    · exact (special kind).trans (specialTarget_D skipB skipC shares)
    · exact (special kind).trans (specialTarget_home skipB skipC skipD)

end Sys2Proof.Machine

/-! SUPPORT. O50: the setup reads and the ten checks of the setup block (R138, R178 to R180). -/

namespace Sys2Proof.Machine

variable {s : State} {a : Answer} {bs low : List Byte} {m : MemRequest} {u : Setup}

-- ## The ten checks of the setup block

/-- The ten checks of a setup block, by their numbers (R179). -/
def Setup.fails (u : Setup) (straps : BitVec 8) (bs : List Byte) : Nat → Bool
  | 1 => bs.take 4 != setupMarker
  | 2 => decide (12 < u.divider)
  | 3 => u.poolBase % 4096 != 0 || decide (u.lineCount < 64) || decide (4096 < u.lineCount)
  | 4 => u.ringBase % 4096 != 0 || decide (6 < u.ringCode)
  | 5 => u.badFields
  | 6 => u.windowBase % u.windowSize != 0
  | 7 => u.guard0.enabled && decide (u.guard0.limit < u.guard0.base)
  | 8 => u.guard1.enabled && decide (u.guard1.limit < u.guard1.base)
  | 9 => u.spans.any (fun r => !r.inAddresses)
  | 10 => anyMeet (anchorSpan straps :: u.spans)
  | _ => false

theorem setupCheck_eq (straps : BitVec 8) (bs : List Byte) (u : Setup) :
    setupCheck straps bs u = firstFailing ((List.range' 1 10).map fun i => (i, u.fails straps bs i)) := (rfl)

theorem Setup.badFields_iff : u.badFields = true
    ↔ u.ps < 6 ∨ u.pt < 6 ∨ 19 < u.ps + 3 ∨ 19 < u.pt + 4 ∨ (u.ps ≤ u.pt + 4 ∧ u.pt ≤ u.ps + 3) := by
  simp only [Setup.badFields, Bool.or_eq_true, Bool.and_eq_true, decide_eq_true_eq, or_assoc]

theorem spans_outside {rs : List Span} :
    rs.any (fun r => !r.inAddresses) = true ↔ ∃ r ∈ rs, 2 ^ 40 < r.base + r.size := by
  rw [List.any_eq_true]
  refine exists_congr fun r => and_congr_right fun _ => ?_
  rw [Bool.not_eq_true', Span.inAddresses, decide_eq_false_iff_not, not_le]

theorem anyMeet_true (rs : List Span) : anyMeet rs = true ↔ ¬Disjoint rs := by
  rw [← anyMeet_iff, Bool.not_eq_false]

/-- The ten checks of a setup block, by its bytes (R179). -/
theorem parseSetup_checks {straps : BitVec 8} {fails : Nat → Prop} (hu : u = parseSetup bs)
    (marker : fails 1 ↔ bs.take 4 ≠ [0x53#8, 0x51#8, 0x50#8, 0x4C#8]) (divider : fails 2 ↔ 12 < byteAt bs 40)
    (pool : fails 3 ↔ leNat bs 24 5 % 4096 ≠ 0 ∨ leNat bs 30 2 < 64 ∨ 4096 < leNat bs 30 2)
    (ring : fails 4 ↔ leNat bs 16 5 % 4096 ≠ 0 ∨ 6 < byteAt bs 21)
    (fields : fails 5 ↔ u.ps < 6 ∨ u.pt < 6 ∨ 19 < u.ps + 3 ∨ 19 < u.pt + 4 ∨ (u.ps ≤ u.pt + 4 ∧ u.pt ≤ u.ps + 3))
    (window : fails 6 ↔ leNat bs 32 5 % 2 ^ max (byteAt bs 37 + 4) (byteAt bs 38 + 5) ≠ 0)
    (guard0 : fails 7 ↔ u.guard0.enabled = true ∧ u.guard0.limit < u.guard0.base)
    (guard1 : fails 8 ↔ u.guard1.enabled = true ∧ u.guard1.limit < u.guard1.base)
    (outside : fails 9 ↔ ∃ r ∈ u.spans, 2 ^ 40 < r.base + r.size)
    (overlap : fails 10 ↔ ¬Disjoint (anchorSpan straps :: u.spans)) :
    ∀ i, 1 ≤ i → i < 1 + 10 → (fails i ↔ u.fails straps bs i = true) := by
  intro i lo hi
  have numbers : i = 1 ∨ i = 2 ∨ i = 3 ∨ i = 4 ∨ i = 5 ∨ i = 6 ∨ i = 7 ∨ i = 8 ∨ i = 9 ∨ i = 10 := by omega
  have guard {x : Guard} : x.enabled = true ∧ x.limit < x.base ↔ (x.enabled && decide (x.limit < x.base)) = true := by
    rw [Bool.and_eq_true, decide_eq_true_eq]
  rcases numbers with rfl | rfl | rfl | rfl | rfl | rfl | rfl | rfl | rfl | rfl
  · exact marker.trans bne_iff_ne.symm
  · subst hu
    exact divider.trans decide_eq_true_iff.symm
  · subst hu
    rw [pool]
    simp only [Setup.fails, Bool.or_eq_true, bne_iff_ne, decide_eq_true_eq, or_assoc]
    rfl
  · subst hu
    rw [ring]
    simp only [Setup.fails, Bool.or_eq_true, bne_iff_ne, decide_eq_true_eq]
    rfl
  · exact fields.trans Setup.badFields_iff.symm
  · subst hu
    exact window.trans bne_iff_ne.symm
  · exact guard0.trans guard
  · exact guard1.trans guard
  · exact outside.trans spans_outside.symm
  · exact overlap.trans (anyMeet_true _).symm

-- ## The setup reads

/-- The row of a setup read that is answered. -/
theorem exec_setupReadDone {id : Nat} (reads : s.ReadInFlight id Owner.isSetupRead m) (a : Answer) :
    exec (.setupReadDone id a) s = .next ((s.fetched id).setupReturned a m (s.bytesAt m)).closeEvent :=
  congrArg Host.Outcome.next (State.run_ownRead reads a (State.setupReturned a))

theorem State.setupReturned_low (loader : s.loader = .setupLow) (m : MemRequest) (bs : List Byte) :
    s.setupReturned .okay m bs = ({ s with loader := .setupHigh bs } : State).readOwn .setupRead (s.anchor + 64) 64 := by
  unfold State.setupReturned
  rw [loader]
  rfl

theorem State.setupReturned_high (loader : s.loader = .setupHigh low) (m : MemRequest) (bs : List Byte) :
    s.setupReturned .okay m bs = s.setupRead (low ++ bs) := by
  unfold State.setupReturned
  rw [loader]
  rfl

theorem State.setupReturned_failed (loader : s.loader = .setupLow ∨ s.loader = .setupHigh low) (bad : a ≠ .okay)
    (m : MemRequest) (bs : List Byte) : s.setupReturned a m bs
      = (s.recordFault { reason := .ownReadFailed, source := 63, sub := 1, addr := m.addr }).enterTransparent := by
  unfold State.setupReturned
  rcases loader with loader | loader <;> rw [loader, Answer.isOkay_of_ne bad] <;> rfl

theorem State.setupRead_bad {check : Nat} (bad : setupCheck s.straps bs (parseSetup bs) = some check) : s.setupRead bs
      = (s.recordFault { reason := .setupInvalid, source := 63, sub := check, addr := s.anchor }).enterTransparent := by
  unfold State.setupRead
  rw [bad]

theorem State.setupRead_good (good : setupCheck s.straps bs (parseSetup bs) = none) :
    s.setupRead bs = s.putSetup (parseSetup bs) := by
  unfold State.setupRead
  rw [good]

/-- The setup put in force, before its plan is looked at. -/
def State.withSetup (u : Setup) (s : State) : State := { s with setup := some u, tickPhase := 0 }

theorem State.putSetup_bad (bad : badPlanAddr s.straps u u.planAddr = true) : s.putSetup u
      = (s.withSetup u).loadInvalid .startUp { check := 1, course := 0, station := 0 } u.planAddr := if_pos bad

theorem State.putSetup_good (good : badPlanAddr s.straps u u.planAddr = false) :
    s.putSetup u = (s.withSetup u).beginLoad .startUp u.planAddr := if_neg (ne_true_of_eq_false good)

theorem State.closeEvent_issues {t : State} {r : MemRequest} (numbers : s.port.nextId ≤ t.port.nextId) :
    Issues s (t.issue r).closeEvent r :=
  Issues.mono ⟨_, Entered.issue numbers r⟩ (State.closeEvent_port _)

/-- A fault of start-up that leads to TRANSPARENT (R178). -/
theorem State.closeEvent_transparent {t : State} (id : Nat) (f : FaultReport)
    (ht : t = ((s.fetched id).recordFault f).enterTransparent.closeEvent) :
    t.part = .transparent ∧ t.loader = .idle ∧ t.setup = s.setup ∧ Logs s t f := by
  have setup := ((s.fetched id).recordFault_work f).setup
  have logs := (s.fetched id).recordFault_logs f
  rw [ht, State.closeEvent_part, State.closeEvent_loader, State.closeEvent_setup]
  exact ⟨rfl, rfl, setup, logs.congr rfl rfl (State.closeEvent_faults _) (State.closeEvent_overflow _)⟩

/-- Settles O50: the answers to the two setup reads, and the ten checks in their order. -/
theorem setupIsReadAndChecked : Obligations.SetupIsReadAndChecked := by
  refine ⟨fun s id m low bs start reads hbs =>
    ⟨fun loader => ?low, fun a bad loader => ?failed, fun check loader bad => ?bad,
    fun u loader hu good => ?good⟩, fun straps bs u fails hu h1 h2 h3 h4 h5 h6 h7 h8 h9 h10 check => ?checks⟩
  case checks =>
    rw [setupCheck_eq, firstFailing_checks (parseSetup_checks hu h1 h2 h3 h4 h5 h6 h7 h8 h9 h10)]
    exact and_congr_right fun _ => and_congr_left' Nat.lt_succ_iff
  case failed =>
    have runs := exec_setupReadDone reads a
    rw [State.setupReturned_failed (s := s.fetched id) loader bad] at runs
    exact ⟨_, runs, State.closeEvent_transparent id _ rfl⟩
  all_goals have runs := exec_setupReadDone reads .okay
  case low =>
    rw [State.setupReturned_low (s := s.fetched id) loader] at runs
    refine ⟨_, runs, ?_, ?_, ?_, ?_⟩
    · rw [State.closeEvent_loader]
      rfl
    · rw [State.closeEvent_part]
      exact start
    · rw [State.closeEvent_setup]
      rfl
    · exact State.closeEvent_issues (t := { s.fetched id with loader := .setupHigh (s.bytesAt m) }) (s.fetched_nextId id)
  all_goals rw [State.setupReturned_high (s := s.fetched id) loader, ← hbs] at runs
  case bad =>
    rw [State.setupRead_bad (s := s.fetched id) bad] at runs
    exact ⟨_, runs, State.closeEvent_transparent id _ rfl⟩
  case good =>
    subst hu
    rw [State.setupRead_good (s := s.fetched id) good] at runs
    generalize parseSetup bs = u at *
    cases addr : badPlanAddr s.straps u u.planAddr with
    | false =>
      rw [State.putSetup_good (s := s.fetched id) addr] at runs
      refine ⟨_, runs, ?_, ?_, fun _ => ⟨?_, ?_, ?_⟩, nofun⟩
      · rw [State.closeEvent_setup]
        rfl
      · rw [State.closeEvent_tickPhase]
        rfl
      · rw [State.closeEvent_part]
        exact start
      · rw [State.closeEvent_loader]
        rfl
      · exact State.closeEvent_issues (t := { (s.fetched id).withSetup u with
          loader := .planning { origin := .startUp, addr := u.planAddr, pass := .check, line := 0, header := noPlan } })
          (s.fetched_nextId id)
    | true =>
      rw [State.putSetup_bad (s := s.fetched id) addr] at runs
      have work := ((s.fetched id).withSetup u).loadInvalid_work .startUp
        { check := 1, course := 0, station := 0 } u.planAddr
      refine ⟨_, runs, ?_, ?_, nofun, fun _ => ⟨?_, ?_, ?_⟩⟩
      · rw [State.closeEvent_setup, work.setup]
        rfl
      · rw [State.closeEvent_tickPhase, work.tickPhase]
        rfl
      · rw [State.closeEvent_part]
        rfl
      · rw [State.closeEvent_loader]
        rfl
      · exact (((s.fetched id).withSetup u).recordFault_logs _).congr rfl rfl (State.closeEvent_faults _)
          (State.closeEvent_overflow _)

end Sys2Proof.Machine

/-! SUPPORT. O52: the lines of a plan (R71, R175, R177, R180 to R182). -/

namespace Sys2Proof.Machine

variable {s v t : State} {n : Bool} {id : Nat} {l : PlanLoad} {u : Setup} {o : PlanOrigin}
  {status : Status} {m : MemRequest}
  {bs : List Byte}

-- ## The answer to a plan read

/-- The row of a plan read that is answered. -/
theorem exec_planLineReadDone (reads : s.ReadInFlight id Owner.isPlanRead m) (a : Answer) :
    exec (.planLineReadDone id a) s = .next ((s.fetched id).planLineReturned a m (s.bytesAt m)).closeEvent :=
  congrArg Host.Outcome.next (State.run_ownRead reads a (State.planLineReturned a))

/-- The load of a plan at start-up, or of a PLAN command in progress. -/
def State.Loads (s : State) (o : PlanOrigin) (n : Bool) : Prop :=
  (o = .startUp ∧ s.part = .start)
    ∨ (o = .command ∧ s.takesEntries = true ∧ s.intake.progress = some (.running n .plan))

theorem State.Loads.notStopped (loads : s.Loads o n) : s.part ≠ .stopped := by
  rcases loads with ⟨-, start⟩ | ⟨-, takes, -⟩
  · rw [start]
    nofun
  · exact State.goes_of_takesEntries takes

theorem State.planLineReturned_okay (loader : s.loader = .planning l) (setup : s.setup = some u) (goes : s.part ≠ .stopped)
    (m : MemRequest) (bs : List Byte) : s.planLineReturned .okay m bs = s.lineChecked u l bs := by
  unfold State.planLineReturned
  rw [loader, setup]
  exact if_neg goes

theorem State.planLineReturned_failed {a : Answer} (loader : s.loader = .planning l) (setup : s.setup = some u)
    (goes : s.part ≠ .stopped) (bad : a ≠ .okay) (m : MemRequest) (bs : List Byte) :
    s.planLineReturned a m bs = s.loadFailed l := by
  unfold State.planLineReturned
  rw [loader, setup, Answer.isOkay_of_ne bad]
  exact if_neg goes

theorem State.lineChecked_passes (passes : firstFailing (planLineChecks s.straps u (l.headerOf bs) l.line bs) = none) :
    s.lineChecked u l bs = s.lineLoaded l bs := by
  unfold State.lineChecked
  rw [passes]

theorem State.lineChecked_invalid {f : PlanFailure} (pass : l.pass = .check)
    (fails : firstFailing (planLineChecks s.straps u (l.headerOf bs) l.line bs) = some f) :
    s.lineChecked u l bs = s.loadInvalid l.origin f l.lineAddr := by
  unfold State.lineChecked
  rw [fails, pass]

theorem State.lineChecked_lost {f : PlanFailure} (pass : l.pass = .load)
    (fails : firstFailing (planLineChecks s.straps u (l.headerOf bs) l.line bs) = some f) :
    s.lineChecked u l bs = s.loadFailed l := by
  unfold State.lineChecked
  rw [fails, pass]

-- ## The passes

/-- The line of the check pass that follows (R181). -/
def PlanLoad.afterCheck (l : PlanLoad) (h : PlanHeader) : PlanLoad :=
  if l.line < 16 then { l with line := l.line + 1, header := h } else { l with pass := .load, line := 0 }

theorem State.lineLoaded_check (pass : l.pass = .check) (bs : List Byte) (s : State) :
    s.lineLoaded l bs = s.readPlanLine (l.afterCheck (l.headerOf bs)) := by
  unfold State.lineLoaded PlanLoad.afterCheck
  rw [pass]
  exact (apply_ite (fun x => s.readPlanLine x) _ _ _).symm

theorem State.lineLoaded_load (pass : l.pass = .load) (more : l.line < 16) (bs : List Byte) (s : State) :
    s.lineLoaded l bs = (s.putPlanLine l bs).readPlanLine { l with line := l.line + 1, header := l.headerOf bs } := by
  unfold State.lineLoaded
  rw [pass]
  exact if_pos more

theorem State.lineLoaded_last (pass : l.pass = .load) (last : l.line = 16) (bs : List Byte) (s : State) :
    s.lineLoaded l bs = (s.putPlanLine l bs).planInForce l.origin := by
  unfold State.lineLoaded
  rw [pass]
  exact if_neg (by omega)

-- ## The tables that a line of the load pass replaces

/-- A fold that puts a value at one of its steps, and leaves it at the others. -/
theorem foldl_puts {α : Type} {f : State → Nat → State} {get : State → α} {x : α} {i : Nat} {js : List Nat}
    (puts : ∀ t, get (f t i) = x) (keeps : ∀ j ∈ js, j ≠ i → ∀ t, get (f t j) = get t) (held : i ∈ js ∨ get s = x) :
    get (js.foldl f s) = x := by
  induction js generalizing s with
  | nil => exact held.resolve_left List.not_mem_nil
  | cons j js ih =>
    refine ih (fun q hq => keeps q (List.mem_cons_of_mem _ hq)) ?_
    by_cases same : j = i
    · exact .inr (same ▸ puts s)
    · rcases held with mem | held
      · exact .inl ((List.mem_cons.1 mem).resolve_left (Ne.symm same))
      · exact .inr ((keeps j List.mem_cons_self same s).trans held)

/-- The course record of a loaded line (R44, R45). -/
theorem putPlanLine_course {c : CourseId} (first : 1 ≤ l.line) (last : l.line ≤ 8) (place : c.val / 2 + 1 = l.line)
    (bs : List Byte) (s : State) : (s.putPlanLine l bs).courses[c]
      = Course.fresh (if c.val < l.header.courseCount then parseCourse bs (32 * (c.val % 2)) else unplannedCourse) := by
  have half : 2 * (l.line - 1) + c.val % 2 = c.val := by omega
  have toCourse_val {j : Nat} (small : j < 2) : (toCourse (2 * (l.line - 1) + j)).val = 2 * (l.line - 1) + j :=
    Nat.mod_eq_of_lt (by omega)
  unfold State.putPlanLine
  rw [if_neg (by omega), if_pos last]
  refine foldl_puts (get := fun t => t.courses[c]) (i := c.val % 2) (fun t => ?puts)
    (fun j hj other t => ?keeps) (.inl ?mem)
  case puts =>
    have own : toCourse (2 * (l.line - 1) + c.val % 2) = c := Fin.ext ((toCourse_val (Nat.mod_lt _ Nat.two_pos)).trans half)
    unfold loadCourse
    rw [own, State.updCourse_course_self, half]
  case keeps =>
    refine State.updCourse_course_ne t (fun same => other ?_) _
    have small : j < 2 := by
      simp only [List.mem_cons, List.not_mem_nil, or_false] at hj
      omega
    have same := (toCourse_val small).symm.trans (congrArg Fin.val same)
    omega
  case mem =>
    have parity := Nat.mod_two_eq_zero_or_one c.val
    simpa only [List.mem_cons, List.not_mem_nil, or_false] using parity

/-- The station record of a loaded line (R71, R72). -/
theorem putPlanLine_station {st : StationId} (first : 9 ≤ l.line) (place : st.val / 4 + 9 = l.line)
    (bs : List Byte) (s : State) :
    (s.putPlanLine l bs).stations[st] = Station.fresh (parseStation bs (16 * (st.val % 4))).toPlan := by
  have inside := st.isLt
  have quarter : 4 * (l.line - 9) + st.val % 4 = st.val := by omega
  have toStation_val {j : Nat} (small : j < 4) : (toStation (4 * (l.line - 9) + j)).val = 4 * (l.line - 9) + j :=
    Nat.mod_eq_of_lt (by omega)
  unfold State.putPlanLine
  rw [if_neg (by omega), if_neg (by omega)]
  refine foldl_puts (get := fun t => t.stations[st]) (i := st.val % 4) (fun t => ?puts)
    (fun j hj other t => ?keeps) (.inl ?mem)
  case puts =>
    have own : toStation (4 * (l.line - 9) + st.val % 4) = st :=
      Fin.ext ((toStation_val (Nat.mod_lt _ (by decide))).trans quarter)
    unfold loadStation
    rw [own, State.updStation_station_self]
  case keeps =>
    refine State.updStation_station_ne t (fun same => other ?_) _
    have small : j < 4 := by
      simp only [List.mem_cons, List.not_mem_nil, or_false] at hj
      omega
    have same := (toStation_val small).symm.trans (congrArg Fin.val same)
    omega
  case mem =>
    have rest := Nat.mod_lt st.val (show 0 < 4 by decide)
    simp only [List.mem_cons, List.not_mem_nil, or_false]
    omega

theorem State.putPlanLine_header (line : l.line = 0) (bs : List Byte) (s : State) :
    s.putPlanLine l bs = { s with plan := parseHeader bs, cache := [] } := if_pos line

-- ## The end of a load

/-- What the end of a plan load leaves: `t` is `v` but for what a completion and the end of an event change (R178,
R182). -/
structure LoadEnds (s v t : State) (o : PlanOrigin) (n : Bool) (status : Status) : Prop where
  courses : ∀ c ∈ v.marks.courses, WritesCourseMirror s t c
  stations : ∀ st ∈ v.marks.stations, WritesStationMirror s t st
  service : v.marks.service = true → WritesServiceMirror s t
  kept : t = { v with
    port := t.port, intake := t.intake, noticeShown := t.noticeShown, responses := t.responses, marks := t.marks
    conditions := t.conditions }
  finishes : o = .command → Finishes s v t n status 0

theorem State.planNotify_running (running : s.intake.progress = some (.running n .plan)) : s.planNotify = n := by
  unfold State.planNotify
  rw [running]

theorem State.endLoad_ends (loads : s.Loads o n) (work : CommandWork (s.fetched id) v) (intake : v.intake = s.intake)
    (takes : o = .command → v.takesEntries = true) (notify : v.conditions.notify = s.conditions.notify) (status : Status) :
    LoadEnds s v (v.endLoad o status).closeEvent o n status := by
  have numbers : s.port.nextId ≤ v.port.nextId := (s.fetched_nextId id).trans work.port.nextId
  rcases loads with ⟨rfl, -⟩ | ⟨rfl, -, running⟩
  · obtain ⟨courses, stations, service⟩ := State.closeEvent_writes (s0 := s) (s := v) numbers work.straps
    refine ⟨courses, stations, service, ?_, nofun⟩
    have only := v.closeEvent_only
    change v.closeEvent = _
    change _ = { v with
      port := v.closeEvent.port, intake := v.closeEvent.intake, noticeShown := v.closeEvent.noticeShown
      responses := v.closeEvent.responses, marks := v.closeEvent.marks, conditions := v.closeEvent.conditions }
    generalize v.closeEvent = t at only
    generalize t.port = port at only
    subst only
    rfl
  · have ends : v.endLoad .command status = v.complete n status 0 := by
      unfold State.endLoad
      rw [State.planNotify_running (intake ▸ running)]
    have finishes := (State.complete_finishes work intake (takes rfl) notify rfl n status 0).before (s := s)
      (s.fetched_nextId id) rfl rfl rfl rfl
    rw [ends]
    generalize (v.complete n status 0).closeEvent = t at finishes
    refine ⟨finishes.courses, finishes.stations, finishes.service, ?_, fun _ => finishes⟩
    rw [finishes.leaves]

namespace LoadEnds

theorem part (ends : LoadEnds s v t o n status) : t.part = v.part := by rw [ends.kept]
theorem loader (ends : LoadEnds s v t o n status) : t.loader = v.loader := by rw [ends.kept]
theorem plan (ends : LoadEnds s v t o n status) : t.plan = v.plan := by rw [ends.kept]
theorem cache (ends : LoadEnds s v t o n status) : t.cache = v.cache := by rw [ends.kept]
theorem faults (ends : LoadEnds s v t o n status) : t.faults = v.faults := by rw [ends.kept]
theorem overflow (ends : LoadEnds s v t o n status) : t.overflow = v.overflow := by rw [ends.kept]
theorem ofCourses (ends : LoadEnds s v t o n status) : t.courses = v.courses := by rw [ends.kept]
theorem ofStations (ends : LoadEnds s v t o n status) : t.stations = v.stations := by rw [ends.kept]
theorem ofService (ends : LoadEnds s v t o n status) : t.service = v.service := by rw [ends.kept]

end LoadEnds

end Sys2Proof.Machine

/-! SUPPORT. O52: the failures of a plan load, and the checks of its lines in table order (R174, R175, R180 to R182). -/

namespace Sys2Proof.Machine

variable {s v t : State} {n : Bool} {id : Nat} {l : PlanLoad}

-- ## A plan line that is lost

/-- The fault of a plan line that is lost (R166, R181). -/
def PlanLoad.lost (l : PlanLoad) : FaultReport := { reason := .ownReadFailed, source := 63, sub := 2, addr := l.lineAddr }

theorem PlanLoad.replaced_iff (l : PlanLoad) : l.replaced = true ↔ l.pass = .load ∧ l.line ≠ 0 := by
  unfold PlanLoad.replaced
  rw [Bool.and_eq_true, beq_iff_eq, bne_iff_ne]

/-- The fault of a lost line stops the part at a PLAN command, with stop-on-fatal (R174). -/
theorem State.lost_notStopped (loads : s.Loads l.origin n) (goes : l.origin = .startUp ∨ s.GoesOn) :
    ((s.fetched id).recordFault l.lost).part = s.part := by
  refine State.recordFault_stands (s := s.fetched id) fun ⟨_, stops, serving⟩ => ?_
  rcases goes with startUp | goes
  · rcases loads with ⟨-, start⟩ | ⟨command, -⟩
    · rcases serving with serving | serving <;> exact nomatch start.symm.trans serving
    · exact nomatch startUp.symm.trans command
  · exact nomatch goes.symm.trans stops

theorem State.loadFailed_stops (command : l.origin = .command) (loads : s.Loads l.origin n)
    (stops : s.stopsOnFatal = true) :
    ((s.fetched id).recordFault l.lost).part = .stopped
      ∧ (s.fetched id).loadFailed l = (s.fetched id).recordFault l.lost := by
  have serving : s.part = .idle ∨ s.part = .ready := by
    rcases loads with ⟨startUp, -⟩ | ⟨-, takes, -⟩
    · exact nomatch startUp.symm.trans command
    · simpa [State.takesEntries] using takes
  have stopped := State.recordFault_stops (s := s.fetched id) (f := l.lost) ⟨.inl rfl, stops, serving⟩
  exact ⟨stopped, if_pos stopped⟩

/-- A load that has replaced something, or that of start-up, ends in IDLE (R181). -/
theorem State.loadFailed_idles (loads : s.Loads l.origin n) (goes : l.origin = .startUp ∨ s.GoesOn)
    (idles : l.replaced = true ∨ l.origin = .startUp) : LoadEnds s ((s.fetched id).recordFault l.lost).enterIdle
      ((s.fetched id).loadFailed l).closeEvent l.origin n .memoryError := by
  have part := State.lost_notStopped (id := id) loads goes
  have eq : (s.fetched id).loadFailed l = ((s.fetched id).recordFault l.lost).enterIdle.endLoad l.origin .memoryError :=
    (if_neg (part ▸ loads.notStopped)).trans (if_pos (by rcases idles with h | h <;> rw [h] <;> simp))
  rw [eq]
  exact State.endLoad_ends (id := id) loads (((s.fetched id).recordFault_work l.lost).trans (State.enterIdle_work _))
    (State.recordFault_intake l.lost (s.fetched id)) (fun _ => rfl)
    (congrArg Conditions.notify (State.recordFault_conditions l.lost (s.fetched id))) .memoryError

/-- The plan load ends, and nothing else changes (R182). -/
def State.unloaded (s : State) : State := { s with loader := .idle }

theorem State.unloaded_work (s : State) : CommandWork s s.unloaded := by constructor <;> rfl

/-- With nothing replaced the plan in force stands (R181). -/
theorem State.loadFailed_stands (command : l.origin = .command) (loads : s.Loads l.origin n) (goes : s.GoesOn)
    (stands : l.replaced = false) : LoadEnds s ((s.fetched id).recordFault l.lost).unloaded
      ((s.fetched id).loadFailed l).closeEvent l.origin n .memoryError := by
  have part := State.lost_notStopped (id := id) loads (.inr goes)
  have eq : (s.fetched id).loadFailed l
      = ((s.fetched id).recordFault l.lost).unloaded.endLoad l.origin .memoryError :=
    (if_neg (part ▸ loads.notStopped)).trans (if_neg (by rw [stands, command]; decide))
  have takes : s.takesEntries = true := by
    rcases loads with ⟨startUp, -⟩ | ⟨-, takes, -⟩
    · exact nomatch startUp.symm.trans command
    · exact takes
  rw [eq]
  exact State.endLoad_ends (id := id) loads (((s.fetched id).recordFault_work l.lost).trans (State.unloaded_work _))
    (State.recordFault_intake l.lost (s.fetched id)) (fun _ => State.takesEntries_of_part part takes)
    (congrArg Conditions.notify (State.recordFault_conditions l.lost (s.fetched id))) .memoryError

-- ## IDLE

/-- No plan is in force and every table is empty (R177). -/
structure State.Empty (s t : State) : Prop where
  part : t.part = .idle
  plan : t.plan = { dishBase := 0, dishCount := 0, courseCount := 0 }
  cache : t.cache = []
  service : t.service.state = .none
  courses : ∀ c : CourseId, (t.courses[c]).state = .idle ∧ WritesCourseMirror s t c
  stations : ∀ st : StationId, (t.stations[st]).state = .closed ∧ (t.stations[st]).plan.capacity = 0
    ∧ WritesStationMirror s t st

theorem LoadEnds.empty {o : PlanOrigin} {status : Status} (ends : LoadEnds s v.enterIdle t o n status) : s.Empty t := by
  have courses := ends.ofCourses
  have stations := ends.ofStations
  refine ⟨ends.part, ends.plan, ends.cache, congrArg Service.state ends.ofService,
    fun c => ⟨?_, ends.courses c (List.mem_finRange c)⟩, fun st => ⟨?_, ?_, ends.stations st (List.mem_finRange st)⟩⟩
  · rw [courses]
    exact congrArg Course.state (Vector.getElem_replicate c.isLt)
  all_goals rw [stations]
  · exact congrArg Station.state (Vector.getElem_replicate st.isLt)
  · exact congrArg (fun x : Station => x.plan.capacity) (Vector.getElem_replicate st.isLt)

/-- What a lost line leaves (R174, R175, R181, R182). -/
structure State.Loses (s t : State) (l : PlanLoad) (n : Bool) : Prop where
  logs : Logs s t l.lost
  loader : l.origin = .startUp ∨ s.GoesOn → t.loader = .idle
  completes : l.origin = .command → s.GoesOn → Completes s t n .memoryError 0
  stands : l.origin = .command → s.GoesOn → l.pass = .check ∨ l.line = 0 → t.part = s.part ∧ t.plan = s.plan
    ∧ t.courses = s.courses ∧ t.stations = s.stations ∧ t.service = s.service ∧ t.cache = s.cache
  empty : l.origin = .startUp ∨ (s.GoesOn ∧ l.pass = .load ∧ l.line ≠ 0) → s.Empty t
  stops : l.origin = .command → s.stopsOnFatal = true → t.part = .stopped ∧ t.intake = s.intake ∧ t.plan = s.plan
    ∧ t.courses = s.courses ∧ t.stations = s.stations ∧ t.service = s.service

theorem PlanOrigin.startUp_or (o : PlanOrigin) : o = .startUp ∨ o = .command := by
  cases o with
  | startUp => exact .inl rfl
  | command => exact .inr rfl

theorem State.loadFailed_loses (loads : s.Loads l.origin n) (id : Nat) :
    s.Loses ((s.fetched id).loadFailed l).closeEvent l n := by
  have logs := (s.fetched id).recordFault_logs l.lost
  obtain ⟨-, courses, stations, -, -⟩ := (s.fetched id).recordFault_tables l.lost
  obtain ⟨-, cache, plan, -, service⟩ := (s.fetched id).recordFault_rest l.lost
  have notCommand : l.origin = .startUp → l.origin ≠ .command := fun h g => nomatch h.symm.trans g
  have notStops : s.GoesOn → s.stopsOnFatal ≠ true := fun goes stops => nomatch goes.symm.trans stops
  have notKept : l.replaced = true → ¬(l.pass = .check ∨ l.line = 0) := fun replaced kept => by
    obtain ⟨load, line⟩ := l.replaced_iff.1 replaced
    rcases kept with check | zero
    · exact nomatch load.symm.trans check
    · exact line zero
  by_cases idles : (l.origin = .startUp ∨ s.GoesOn) ∧ (l.replaced = true ∨ l.origin = .startUp)
  · obtain ⟨goes, idles⟩ := idles
    have ends := State.loadFailed_idles (id := id) loads goes idles
    refine ⟨logs.congr rfl rfl ends.faults ends.overflow, fun _ => ends.loader,
      fun command _ => (ends.finishes command).completes,
      fun command _ kept => ?_, fun _ => ends.empty, fun command stops => ?_⟩
    · exact idles.elim (fun replaced => absurd kept (notKept replaced)) fun startUp => absurd command (notCommand startUp)
    · exact goes.elim (fun startUp => absurd command (notCommand startUp)) fun goes => absurd stops (notStops goes)
  have command : l.origin = .command := l.origin.startUp_or.resolve_left fun startUp => idles ⟨.inl startUp, .inr startUp⟩
  have notStart : l.origin ≠ .startUp := fun startUp => notCommand startUp command
  by_cases goes : s.GoesOn
  · have stands : l.replaced = false := Bool.eq_false_iff.2 fun replaced => idles ⟨.inr goes, .inl replaced⟩
    have ends := State.loadFailed_stands (id := id) command loads goes stands
    refine ⟨logs.congr rfl rfl ends.faults ends.overflow, fun _ => ends.loader,
      fun _ _ => (ends.finishes command).completes,
      fun _ _ _ => ⟨ends.part.trans (State.lost_notStopped loads (.inr goes)), ends.plan.trans plan,
        ends.ofCourses.trans courses, ends.ofStations.trans stations, ends.ofService.trans service, ends.cache.trans cache⟩,
      fun empty => ?_, fun _ stops => absurd stops (notStops goes)⟩
    refine (empty.resolve_left notStart).elim fun _ replaced => ?_
    exact absurd (l.replaced_iff.2 replaced) (Bool.eq_false_iff.1 stands)
  · have stops : s.stopsOnFatal = true := Bool.not_eq_false _ ▸ goes
    obtain ⟨stopped, eq⟩ := State.loadFailed_stops (id := id) command loads stops
    rw [eq]
    refine ⟨logs.congr rfl rfl (State.closeEvent_faults _) (State.closeEvent_overflow _),
      fun h => absurd (h.resolve_left notStart) goes, fun _ h => absurd h goes, fun _ h => absurd h goes,
      fun h => absurd (h.resolve_left notStart).1 goes, fun _ _ => ?_⟩
    rw [State.closeEvent_part, State.closeEvent_intake, State.closeEvent_plan, State.closeEvent_courses,
      State.closeEvent_stations, State.closeEvent_service]
    exact ⟨stopped, State.recordFault_intake l.lost (s.fetched id), plan, courses, stations, service⟩

end Sys2Proof.Machine

/-! SUPPORT. O52: the checks of a plan's lines, in table order (R180). -/

namespace Sys2Proof.Machine

-- ## The first failing check of a table

/-- The first failing check of a list whose checks rise. -/
theorem firstFailing_rising {α : Type} {before : α → α → Prop} (asymm : ∀ x y, before x y → ¬before y x)
    {l : List (α × Bool)} (rising : l.Pairwise fun x y => before x.1 y.1) {f : α} :
    firstFailing l = some f ↔ (f, true) ∈ l ∧ ∀ e ∈ l, before e.1 f → e.2 = false := by
  induction l with
  | nil => exact iff_of_false nofun fun ⟨mem, _⟩ => List.not_mem_nil mem
  | cons x l ih =>
    obtain ⟨first, rest⟩ := List.pairwise_cons.1 rising
    obtain ⟨a, fails⟩ := x
    cases fails with
    | true =>
      refine ⟨fun h => ?_, fun ⟨mem, earlier⟩ => ?_⟩
      · obtain rfl : a = f := Option.some.inj h
        refine ⟨List.mem_cons_self, fun e he less => ?_⟩
        rcases List.mem_cons.1 he with rfl | he
        · exact absurd less (asymm _ _ less)
        · exact absurd less (asymm _ _ (first e he))
      · rcases List.mem_cons.1 mem with same | mem
        · exact congrArg some (Prod.ext_iff.1 same).1.symm
        · exact nomatch earlier _ List.mem_cons_self (first _ mem)
    | false =>
      refine (ih rest).trans ⟨fun ⟨mem, earlier⟩ => ⟨List.mem_cons_of_mem _ mem, fun e he less => ?_⟩,
        fun ⟨mem, earlier⟩ => ⟨?_, fun e he => earlier e (List.mem_cons_of_mem _ he)⟩⟩
      · rcases List.mem_cons.1 he with rfl | he
        · rfl
        · exact earlier e he less
      · exact (List.mem_cons.1 mem).resolve_left fun same => nomatch (Prod.ext_iff.1 same).2

/-- Table order: by the number of the check, then by the record (R180). -/
def PlanFailure.Before (key : PlanFailure → Nat) (f g : PlanFailure) : Prop :=
  f.check < g.check ∨ (f.check = g.check ∧ key f < key g)

theorem PlanFailure.before_asymm {key : PlanFailure → Nat} (f g : PlanFailure) (h : f.Before key g) : ¬g.Before key f := by
  unfold PlanFailure.Before at *
  omega

section Table

variable {β : Type} {rs : List (Nat × β)} {fails : Nat → Nat × β → Bool} {mk : Nat → Nat → PlanFailure}
  {key : PlanFailure → Nat} {lo m : Nat}

/-- The checks `lo`, `lo + 1`, …, each over the records of a line in their order. -/
def tableChecks (mk : Nat → Nat → PlanFailure) (fails : Nat → Nat × β → Bool) (rs : List (Nat × β)) (lo m : Nat) :
    List (PlanFailure × Bool) :=
  (List.range' lo m).flatMap fun i => rs.map fun e => (mk i e.1, fails i e)

theorem mem_tableChecks {f : PlanFailure} {b : Bool} : (f, b) ∈ tableChecks mk fails rs lo m
    ↔ ∃ i, lo ≤ i ∧ i < lo + m ∧ ∃ e ∈ rs, mk i e.1 = f ∧ fails i e = b := by
  unfold tableChecks
  simp only [List.mem_flatMap, List.mem_range'_1, List.mem_map, Prod.mk.injEq, and_assoc]

theorem tableChecks_rising (check : ∀ i c, (mk i c).check = i) (record : ∀ i c, key (mk i c) = c)
    (rising : rs.Pairwise fun x y => x.1 < y.1) :
    (tableChecks mk fails rs lo m).Pairwise fun x y => x.1.Before key y.1 := by
  unfold tableChecks
  rw [List.pairwise_flatMap]
  refine ⟨fun i _ => List.pairwise_map.2 (rising.imp fun less => .inr ?_),
    (List.pairwise_lt_range' (s := lo) (n := m)).imp fun less x hx y hy => .inl ?_⟩
  · exact ⟨(check ..).trans (check ..).symm, by rw [record, record]; exact less⟩
  · obtain ⟨e, -, rfl⟩ := List.mem_map.1 hx
    obtain ⟨d, -, rfl⟩ := List.mem_map.1 hy
    rw [check, check]
    exact less

/-- The first failing check of a table whose checks are spelled out. -/
theorem firstFailing_table {spelled : Nat → Nat → Prop} (check : ∀ i c, (mk i c).check = i)
    (record : ∀ i c, key (mk i c) = c) (rising : rs.Pairwise fun x y => x.1 < y.1)
    (same : ∀ i, lo ≤ i → i < lo + m → ∀ c, spelled i c ↔ ∃ r, (c, r) ∈ rs ∧ fails i (c, r) = true) {f : PlanFailure} :
    firstFailing (tableChecks mk fails rs lo m) = some f ↔ mk f.check (key f) = f ∧ lo ≤ f.check ∧ f.check < lo + m
      ∧ spelled f.check (key f)
      ∧ ∀ i c, lo ≤ i → i < f.check ∨ (i = f.check ∧ c < key f) → ¬spelled i c := by
  rw [firstFailing_rising PlanFailure.before_asymm (tableChecks_rising check record rising), mem_tableChecks]
  constructor
  · rintro ⟨⟨i, low, high, ⟨c, r⟩, mem, rfl, holds⟩, earlier⟩
    rw [check, record]
    refine ⟨rfl, low, high, (same i low high c).2 ⟨r, mem, holds⟩, fun j d low' less spelled' => ?_⟩
    have high' : j < lo + m := by omega
    obtain ⟨r', mem', holds'⟩ := (same j low' high' d).1 spelled'
    have passes := earlier _ (mem_tableChecks.2 ⟨j, low', high', (d, r'), mem', rfl, rfl⟩) (by
      unfold PlanFailure.Before
      rw [check, check, record, record]
      exact less)
    exact nomatch holds'.symm.trans passes
  · rintro ⟨shape, low, high, spelled', earlier⟩
    obtain ⟨r, mem, holds⟩ := (same f.check low high (key f)).1 spelled'
    refine ⟨⟨f.check, low, high, _, mem, shape, holds⟩, fun ⟨g, b⟩ hg less => ?_⟩
    obtain ⟨i, low', high', ⟨c, r'⟩, mem', rfl, rfl⟩ := mem_tableChecks.1 hg
    unfold PlanFailure.Before at less
    rw [check, record] at less
    exact Bool.eq_false_iff.2 fun holds' => earlier i c low' less ((same i low' high' c).2 ⟨r', mem', holds'⟩)

end Table

end Sys2Proof.Machine

/-! SUPPORT. O52: the checks of a plan's lines by their bytes (R180). -/

namespace Sys2Proof.Machine

variable {u : Setup} {bs : List Byte} {h : PlanHeader} {line : Nat}
  {straps : BitVec 8} {f : PlanFailure}

-- ## Line 0

/-- A check that names a course, or none. -/
def courseFailure (i c : Nat) : PlanFailure := { check := i, course := c, station := 0 }

/-- A check that names a station. -/
def stationFailure (i st : Nat) : PlanFailure := { check := i, course := 0, station := st }

theorem courseFailure_eq : courseFailure f.check f.course = f ↔ f.station = 0 := by
  obtain ⟨check, course, station⟩ := f
  exact ⟨fun same => (congrArg PlanFailure.station same).symm, fun none' => by subst none'; rfl⟩

theorem stationFailure_eq : stationFailure f.check f.station = f ↔ f.course = 0 := by
  obtain ⟨check, course, station⟩ := f
  exact ⟨fun same => (congrArg PlanFailure.course same).symm, fun none' => by subst none'; rfl⟩

/-- The checks of line 0, by their numbers (R180). -/
def headerFails (straps : BitVec 8) (u : Setup) (h : PlanHeader) : Nat → Bool
  | 2 => h.dishCount == 0 || decide (1024 < h.dishCount)
  | 3 => h.dishBase % 32 != 0 || !inPlainOrGuard straps u { base := h.dishBase, size := h.dishCount * 32 }
  | 4 => h.courseCount == 0 || decide (16 < h.courseCount)
  | _ => false

theorem headerChecks_eq : planLineChecks straps u h 0 bs
    = tableChecks courseFailure (fun i _ => headerFails straps u h i) [(0, ())] 2 3 := (rfl)

/-- A range that leaves plain memory and the guards (R121, R180). -/
theorem inPlainOrGuard_false {r : Span} (starts : r.base < 2 ^ 40) : inPlainOrGuard straps u r = false
    ↔ ∃ a, r.base ≤ a ∧ a < r.base + r.size ∧ (2 ^ 40 ≤ a ∨ (anchorSpan straps).holds a = true ∨ u.poolSpan.holds a = true
      ∨ u.ringSpan.holds a = true ∨ u.windowSpan.holds a = true) := by
  have outside : r.inAddresses = false ↔ ∃ a, r.base ≤ a ∧ a < r.base + r.size ∧ 2 ^ 40 ≤ a := by
    rw [Span.inAddresses, decide_eq_false_iff_not, not_le]
    exact ⟨fun long => ⟨r.base + r.size - 1, by omega, by omega, by omega⟩, fun ⟨a, _, high, _⟩ => by omega⟩
  have meets (q : Span) : q.meets r = true ↔ ∃ a, r.base ≤ a ∧ a < r.base + r.size ∧ q.holds a = true := by
    rw [Span.meets_iff]
    refine exists_congr fun a => ?_
    rw [Span.holds_iff r, and_comm, and_assoc]
  rw [inPlainOrGuard, Bool.and_eq_false_iff, Bool.not_eq_false', outside]
  simp only [Bool.or_eq_true, meets, and_or_left, exists_or, or_assoc]

/-- The checks of line 0, by its bytes (R180). -/
theorem parseHeader_checks {fails : Nat → Prop} (count : fails 2 ↔ leNat bs 8 2 = 0 ∨ 1024 < leNat bs 8 2)
    (base : fails 3 ↔ leNat bs 0 5 % 32 ≠ 0 ∨ ∃ a, leNat bs 0 5 ≤ a ∧ a < leNat bs 0 5 + leNat bs 8 2 * 32
      ∧ (2 ^ 40 ≤ a ∨ (anchorSpan straps).holds a = true ∨ u.poolSpan.holds a = true ∨ u.ringSpan.holds a = true
        ∨ u.windowSpan.holds a = true))
    (courses : fails 4 ↔ byteAt bs 10 = 0 ∨ 16 < byteAt bs 10) {i : Nat} (low : 2 ≤ i) (high : i < 2 + 3) :
    fails i ↔ headerFails straps u (parseHeader bs) i = true := by
  have either {k limit : Nat} : k = 0 ∨ limit < k ↔ (k == 0 || decide (limit < k)) = true := by
    rw [Bool.or_eq_true, beq_iff_eq, decide_eq_true_eq]
  have numbers : i = 2 ∨ i = 3 ∨ i = 4 := by omega
  rcases numbers with rfl | rfl | rfl
  · exact count.trans either
  · have starts := leNat_lt bs 0 5
    have outside := inPlainOrGuard_false (straps := straps) (u := u)
      (r := { base := leNat bs 0 5, size := leNat bs 8 2 * 32 }) (starts.trans_eq (by norm_num))
    rw [base, ← outside]
    change _ ↔ (leNat bs 0 5 % 32 != 0 || !_) = true
    rw [Bool.or_eq_true, bne_iff_ne, Bool.not_eq_true']
    rfl
  · exact courses.trans either

theorem headerLine_first {fails : Nat → Prop} (count : fails 2 ↔ leNat bs 8 2 = 0 ∨ 1024 < leNat bs 8 2)
    (base : fails 3 ↔ leNat bs 0 5 % 32 ≠ 0 ∨ ∃ a, leNat bs 0 5 ≤ a ∧ a < leNat bs 0 5 + leNat bs 8 2 * 32
      ∧ (2 ^ 40 ≤ a ∨ (anchorSpan straps).holds a = true ∨ u.poolSpan.holds a = true ∨ u.ringSpan.holds a = true
        ∨ u.windowSpan.holds a = true))
    (courses : fails 4 ↔ byteAt bs 10 = 0 ∨ 16 < byteAt bs 10) :
    firstFailing (planLineChecks straps u (parseHeader bs) 0 bs) = some f ↔
      f.course = 0 ∧ f.station = 0 ∧ 2 ≤ f.check ∧ f.check ≤ 4 ∧ fails f.check ∧ ∀ i, 2 ≤ i → i < f.check → ¬fails i := by
  have same : ∀ i, 2 ≤ i → i < 2 + 3 → ∀ c,
      (c = 0 ∧ fails i) ↔ ∃ r, (c, r) ∈ [(0, ())] ∧ headerFails straps u (parseHeader bs) i = true := by
    intro i low high c
    rw [parseHeader_checks count base courses low high]
    simp
  rw [headerChecks_eq, firstFailing_table (key := PlanFailure.course) (fun _ _ => rfl) (fun _ _ => rfl)
    (List.pairwise_singleton ..) same, courseFailure_eq]
  constructor
  · rintro ⟨station, low, high, ⟨course, holds⟩, earlier⟩
    exact ⟨course, station, low, Nat.lt_succ_iff.1 high, holds,
      fun i low' less holds' => earlier i 0 low' (.inl less) ⟨rfl, holds'⟩⟩
  · rintro ⟨course, station, low, high, holds, earlier⟩
    refine ⟨station, low, Nat.lt_succ_iff.2 high, ⟨course, holds⟩, fun i c low' less ⟨_, holds'⟩ => ?_⟩
    exact earlier i low' (less.resolve_right fun ⟨_, less⟩ => by omega) holds'

-- ## A course line

/-- The checks of a course record, by their numbers (R180). -/
def courseFails : Nat → Nat × CoursePlan → Bool
  | 5, e => e.2.countdown == 0
  | 6, e => e.2.waves == 0 || decide (4 < e.2.waves)
  | 7, e => e.2.badMarks
  | _, _ => false

theorem courseChecks_eq (first : 1 ≤ line) (last : line ≤ 8) : planLineChecks straps u h line bs
    = tableChecks courseFailure courseFails (plannedOfLine h line bs) 5 3 := by
  unfold planLineChecks courseChecks
  rw [if_neg (by omega), if_pos last, List.append_assoc]
  exact congrArg (fun x => _ ++ (_ ++ x)) (List.append_nil _).symm

theorem mem_plannedOfLine {c : Nat} {p : CoursePlan} : (c, p) ∈ plannedOfLine h line bs
    ↔ ∃ j, j < 2 ∧ c = 2 * (line - 1) + j ∧ c < h.courseCount ∧ p = parseCourse bs (32 * j) := by
  unfold plannedOfLine
  simp only [List.mem_filter, List.mem_map, List.mem_cons, List.not_mem_nil, or_false, Prod.mk.injEq, decide_eq_true_eq]
  constructor
  · rintro ⟨⟨j, small, rfl, rfl⟩, planned⟩
    exact ⟨j, by omega, rfl, planned, rfl⟩
  · rintro ⟨j, small, rfl, planned, rfl⟩
    exact ⟨⟨j, by omega, rfl, rfl⟩, planned⟩

theorem plannedOfLine_rising : (plannedOfLine h line bs).Pairwise fun x y => x.1 < y.1 := by
  refine List.Pairwise.filter _ (List.pairwise_map.2 ?_)
  simp

theorem parseCourse_badMarks (bs : List Byte) (i : Nat) : (parseCourse bs i).badMarks = true
    ↔ ∃ w, w < 4 ∧ w < byteAt bs (i + 3) ∧ 4095 < leNat bs (i + 4 + 2 * w) 2 := by
  have marks (w : Fin 4) : (parseCourse bs i).marks[w] = leNat bs (i + 4 + 2 * w.val) 2 := Vector.getElem_ofFn ..
  unfold CoursePlan.badMarks
  simp only [List.any_eq_true, List.mem_finRange, true_and, Bool.and_eq_true, decide_eq_true_eq, marks]
  exact ⟨fun ⟨w, named, high⟩ => ⟨w.val, w.isLt, named, high⟩, fun ⟨w, small, named, high⟩ => ⟨⟨w, small⟩, named, high⟩⟩

/-- The checks of the courses of a line, by its bytes (R180). -/
theorem courseLine_checks {fails planned : Nat → Nat → Prop}
    (plans : ∀ c j, planned c j ↔ j < 2 ∧ c = 2 * (line - 1) + j ∧ c < h.courseCount)
    (countdown : ∀ c, fails 5 c ↔ ∃ j, planned c j ∧ leNat bs (32 * j) 2 = 0)
    (waves : ∀ c, fails 6 c ↔ ∃ j, planned c j ∧ (byteAt bs (32 * j + 3) = 0 ∨ 4 < byteAt bs (32 * j + 3)))
    (marks : ∀ c, fails 7 c ↔ ∃ j, planned c j ∧ ∃ w, w < 4 ∧ w < byteAt bs (32 * j + 3)
      ∧ 4095 < leNat bs (32 * j + 4 + 2 * w) 2) :
    ∀ i, 5 ≤ i → i < 5 + 3 → ∀ c, fails i c ↔ ∃ p, (c, p) ∈ plannedOfLine h line bs ∧ courseFails i (c, p) = true := by
  have records {i c : Nat} {test : CoursePlan → Prop} {spelled : Nat → Prop}
      (tests : ∀ j, test (parseCourse bs (32 * j)) ↔ spelled j) (holds : ∀ p, courseFails i (c, p) = true ↔ test p) :
      (∃ j, planned c j ∧ spelled j) ↔ ∃ p, (c, p) ∈ plannedOfLine h line bs ∧ courseFails i (c, p) = true := by
    constructor
    · rintro ⟨j, isPlanned, fails⟩
      obtain ⟨small, place, inside⟩ := (plans c j).1 isPlanned
      exact ⟨_, mem_plannedOfLine.2 ⟨j, small, place, inside, rfl⟩, (holds _).2 ((tests j).2 fails)⟩
    · rintro ⟨p, mem, fails⟩
      obtain ⟨j, small, place, inside, rfl⟩ := mem_plannedOfLine.1 mem
      exact ⟨j, (plans c j).2 ⟨small, place, inside⟩, (tests j).1 ((holds _).1 fails)⟩
  intro i low high c
  have numbers : i = 5 ∨ i = 6 ∨ i = 7 := by omega
  rcases numbers with rfl | rfl | rfl
  · exact (countdown c).trans (records (test := fun p => p.countdown = 0) (fun j => .rfl) fun p => beq_iff_eq)
  · refine (waves c).trans (records (test := fun p => p.waves = 0 ∨ 4 < p.waves) (fun j => .rfl) fun p => ?_)
    change (p.waves == 0 || decide (4 < p.waves)) = true ↔ _
    rw [Bool.or_eq_true, beq_iff_eq, decide_eq_true_eq]
  · exact (marks c).trans (records (test := fun p => p.badMarks = true)
      (fun j => parseCourse_badMarks bs (32 * j)) fun p => .rfl)

-- ## A station line

/-- The checks of a station record, by their numbers (R180). -/
def stationFails : Nat → Nat × StationBytes → Bool
  | 8, e => decide (1 < e.2.initial)
  | 9, e => decide (16 < e.2.capacity)
  | 10, e => decide (32 < e.2.backup) || e.2.backup == e.1
  | 11, e => e.2.timeout == 0
  | 12, e => decide (7 < e.2.retryLimit)
  | 13, e => e.2.returnCount == 0 || decide (15 < e.2.returnCount)
  | _, _ => false

theorem stationChecks_eq (first : 9 ≤ line) : planLineChecks straps u h line bs
    = tableChecks stationFailure stationFails (stationsOfLine line bs) 8 6 := by
  unfold planLineChecks
  rw [if_neg (by omega), if_neg (by omega)]
  rfl

theorem mem_stationsOfLine {st : Nat} {r : StationBytes} : (st, r) ∈ stationsOfLine line bs
    ↔ ∃ j, j < 4 ∧ st = 4 * (line - 9) + j ∧ r = parseStation bs (16 * j) := by
  unfold stationsOfLine
  simp only [List.mem_map, List.mem_cons, List.not_mem_nil, or_false, Prod.mk.injEq]
  constructor
  · rintro ⟨j, small, rfl, rfl⟩
    exact ⟨j, by omega, rfl, rfl⟩
  · rintro ⟨j, small, rfl, rfl⟩
    exact ⟨j, by omega, rfl, rfl⟩

theorem stationsOfLine_rising : (stationsOfLine line bs).Pairwise fun x y => x.1 < y.1 := by
  refine List.pairwise_map.2 ?_
  simp

/-- The checks of the stations of a line, by its bytes (R180). -/
theorem stationLine_checks {fails place : Nat → Nat → Prop}
    (places : ∀ st i, place st i ↔ 4 * (line - 9) ≤ st ∧ st < 4 * (line - 9) + 4 ∧ i = 16 * (st - 4 * (line - 9)))
    (initial : ∀ st, fails 8 st ↔ ∃ i, place st i ∧ byteAt bs i ≠ 0 ∧ byteAt bs i ≠ 1)
    (capacity : ∀ st, fails 9 st ↔ ∃ i, place st i ∧ 16 < byteAt bs (i + 1))
    (backup : ∀ st, fails 10 st ↔ ∃ i, place st i ∧ (32 < byteAt bs (i + 2) ∨ byteAt bs (i + 2) = st))
    (timeout : ∀ st, fails 11 st ↔ ∃ i, place st i ∧ byteAt bs (i + 3) = 0)
    (retry : ∀ st, fails 12 st ↔ ∃ i, place st i ∧ 7 < byteAt bs (i + 4))
    (returns : ∀ st, fails 13 st ↔ ∃ i, place st i ∧ (byteAt bs (i + 5) = 0 ∨ 15 < byteAt bs (i + 5))) :
    ∀ i, 8 ≤ i → i < 8 + 6 → ∀ st,
      fails i st ↔ ∃ r, (st, r) ∈ stationsOfLine line bs ∧ stationFails i (st, r) = true := by
  have records {i st : Nat} {spelled : Nat → Prop}
      (tests : ∀ j, stationFails i (st, parseStation bs j) = true ↔ spelled j) :
      (∃ j, place st j ∧ spelled j) ↔ ∃ r, (st, r) ∈ stationsOfLine line bs ∧ stationFails i (st, r) = true := by
    constructor
    · rintro ⟨j, isPlace, fails⟩
      obtain ⟨low, high, rfl⟩ := (places st j).1 isPlace
      exact ⟨_, mem_stationsOfLine.2 ⟨st - 4 * (line - 9), by omega, by omega, rfl⟩, (tests _).2 fails⟩
    · rintro ⟨r, mem, fails⟩
      obtain ⟨j, small, rfl, rfl⟩ := mem_stationsOfLine.1 mem
      exact ⟨16 * j, (places _ _).2 ⟨by omega, by omega, by omega⟩, (tests _).1 fails⟩
  intro i low high st
  have numbers : i = 8 ∨ i = 9 ∨ i = 10 ∨ i = 11 ∨ i = 12 ∨ i = 13 := by omega
  rcases numbers with rfl | rfl | rfl | rfl | rfl | rfl
  · refine (initial st).trans (records fun j => decide_eq_true_iff.trans ?_)
    change 1 < byteAt bs j ↔ _
    omega
  · exact (capacity st).trans (records fun j => decide_eq_true_iff)
  · refine (backup st).trans (records fun j => (Bool.or_eq_true _ _ ▸ ?_ : _ ↔ _))
    exact or_congr decide_eq_true_iff beq_iff_eq
  · exact (timeout st).trans (records fun j => beq_iff_eq)
  · exact (retry st).trans (records fun j => decide_eq_true_iff)
  · refine (returns st).trans (records fun j => (Bool.or_eq_true _ _ ▸ ?_ : _ ↔ _))
    exact or_congr beq_iff_eq decide_eq_true_iff

end Sys2Proof.Machine

/-! SUPPORT. O52: the passes of a plan load (R44, R71, R174, R175, R177, R180 to R182). -/

namespace Sys2Proof.Machine

variable {s v t : State} {n : Bool} {id : Nat} {l : PlanLoad} {u : Setup} {bs : List Byte} {m : MemRequest}

/-- The answer to a plan read whose line passes its checks (R181). -/
theorem exec_planLine_loads (loads : s.Loads l.origin n) (loader : s.loader = .planning l) (setup : s.setup = some u)
    (reads : s.ReadInFlight id Owner.isPlanRead m)
    (passes : firstFailing (planLineChecks s.straps u (l.headerOf (s.bytesAt m)) l.line (s.bytesAt m)) = none) :
    exec (.planLineReadDone id .okay) s = .next ((s.fetched id).lineLoaded l (s.bytesAt m)).closeEvent := by
  rw [exec_planLineReadDone reads, State.planLineReturned_okay (s := s.fetched id) loader setup loads.notStopped,
    State.lineChecked_passes (s := s.fetched id) passes]

theorem readPlanLine_issues {w : State} (work : CommandWork (s.fetched id) w) (l : PlanLoad) :
    Issues s (w.readPlanLine l).closeEvent (ownRequest .planRead .read l.lineAddr 64 []) :=
  State.closeEvent_issues (t := { w with loader := .planning l }) ((s.fetched_nextId id).trans work.port.nextId)

theorem PlanLoad.afterCheck_addr (l : PlanLoad) (h : PlanHeader) : (l.afterCheck h).addr = l.addr := by
  unfold PlanLoad.afterCheck
  split <;> rfl

/-- The state in which a plan has been put in force (R181). -/
def State.inForce (s : State) : State :=
  ({ s with part := .ready, loader := .idle, service := Service.empty } : State).markAllTables

theorem State.inForce_work (s : State) : CommandWork s s.inForce := by constructor <;> rfl

theorem State.putPlanLine_beside (l : PlanLoad) (bs : List Byte) (s : State) :
    (s.putPlanLine l bs).intake = s.intake ∧ (s.putPlanLine l bs).conditions = s.conditions := by
  unfold State.putPlanLine
  split
  · exact ⟨rfl, rfl⟩
  · split
    · have work := StationWork.foldl (fun t j => t.updCourse_work _ _) [0, 1] s (f := loadCourse l.header l.line bs)
      exact ⟨work.intake, work.conditions⟩
    · have work := StationWork.foldl (fun t j => t.updStation_work _ _) [0, 1, 2, 3] s (f := loadStation l.line bs)
      exact ⟨work.intake, work.conditions⟩

/-- The last line of the load pass (R181, R182). -/
theorem State.planInForce_ends (loads : s.Loads l.origin n) (id : Nat) (bs : List Byte) :
    LoadEnds s ((s.fetched id).putPlanLine l bs).inForce
      (((s.fetched id).putPlanLine l bs).planInForce l.origin).closeEvent l.origin n .done := by
  obtain ⟨intake, conditions⟩ := (s.fetched id).putPlanLine_beside l bs
  exact State.endLoad_ends (id := id) loads (((s.fetched id).putPlanLine_work l bs).trans (State.inForce_work _)) intake
    (fun _ => rfl) (congrArg Conditions.notify conditions) .done

/-- A line that fails its check in the check pass (R180, R182). -/
theorem exec_planLine_invalid {f : PlanFailure} (loads : s.Loads l.origin n) (loader : s.loader = .planning l)
    (setup : s.setup = some u) (reads : s.ReadInFlight id Owner.isPlanRead m) (pass : l.pass = .check)
    (fails : firstFailing (planLineChecks s.straps u (l.headerOf (s.bytesAt m)) l.line (s.bytesAt m)) = some f) :
    exec (.planLineReadDone id .okay) s = .next ((s.fetched id).loadInvalid l.origin f l.lineAddr).closeEvent := by
  rw [exec_planLineReadDone reads, State.planLineReturned_okay (s := s.fetched id) loader setup loads.notStopped,
    State.lineChecked_invalid (s := s.fetched id) pass fails]

theorem State.loadInvalid_ends {f : PlanFailure} {a : Nat} (loads : s.Loads .command n) :
    LoadEnds s (s.fetched id).unloaded ((s.fetched id).loadInvalid .command f a).closeEvent .command n .badPlan :=
  State.endLoad_ends (id := id) loads (State.unloaded_work _) rfl
    (fun _ => (loads.resolve_left fun ⟨startUp, _⟩ => nomatch startUp).2.1) rfl .badPlan

/-- A line that is lost: its read failed, or it fails its check in the load pass (R181). -/
theorem exec_planLine_lost {a : Answer} (loads : s.Loads l.origin n) (loader : s.loader = .planning l)
    (setup : s.setup = some u) (reads : s.ReadInFlight id Owner.isPlanRead m)
    (lost : a ≠ .okay ∨ (l.pass = .load
      ∧ ∃ f, firstFailing (planLineChecks s.straps u (l.headerOf (s.bytesAt m)) l.line (s.bytesAt m)) = some f)) :
    exec (.planLineReadDone id a) s = .next ((s.fetched id).loadFailed l).closeEvent := by
  rw [exec_planLineReadDone reads]
  by_cases bad : a = .okay
  · obtain ⟨pass, f, fails⟩ := lost.resolve_left fun other => other bad
    rw [bad, State.planLineReturned_okay (s := s.fetched id) loader setup loads.notStopped,
      State.lineChecked_lost (s := s.fetched id) pass fails]
  · rw [State.planLineReturned_failed (s := s.fetched id) loader setup loads.notStopped bad]

/-- Settles O52: the two passes, the ends of a load, and the checks of each kind of line in table order. -/
theorem planLinesLoad : Obligations.PlanLinesLoad := by
  refine ⟨?passes, fun straps u bs fails h2 h3 h4 f => headerLine_first h2 h3 h4,
    fun straps u h line bs fails planned first last plans h5 h6 h7 f => ?courses,
    fun straps u h line bs fails place first last places h8 h9 h10 h11 h12 h13 f => ?stations⟩
  case courses =>
    rw [courseChecks_eq first last, firstFailing_table (key := PlanFailure.course) (fun _ _ => rfl) (fun _ _ => rfl)
      plannedOfLine_rising (courseLine_checks plans h5 h6 h7), courseFailure_eq]
    exact and_congr_right fun _ => and_congr_right fun _ => and_congr_left' Nat.lt_succ_iff
  case stations =>
    rw [stationChecks_eq first, firstFailing_table (key := PlanFailure.station) (fun _ _ => rfl) (fun _ _ => rfl)
      stationsOfLine_rising (stationLine_checks places h8 h9 h10 h11 h12 h13), stationFailure_eq]
    exact and_congr_right fun _ => and_congr_right fun _ => and_congr_left' Nat.lt_succ_iff
  case passes =>
    intro s u l id m bs h n loader setup reads hbs hh loads
    change s.Loads l.origin n at loads
    subst hbs
    change h = l.headerOf (s.bytesAt m) at hh
    subst hh
    refine ⟨fun pass passes => ?check, fun pass passes more => ?load, fun pass passes last => ?last,
      fun f pass fails => ?invalid, fun a lost => ?lost⟩
    case check =>
      have runs := exec_planLine_loads loads loader setup reads passes
      rw [State.lineLoaded_check pass] at runs
      refine ⟨_, _, runs, ?_, rfl, ?_, ?_⟩
      · rw [State.closeEvent_loader]
        rfl
      · have issues := readPlanLine_issues (.refl (s.fetched id)) (l.afterCheck (l.headerOf (s.bytesAt m)))
        rw [PlanLoad.lineAddr, PlanLoad.afterCheck_addr] at issues
        exact issues
      · rw [State.closeEvent_part, State.closeEvent_plan, State.closeEvent_courses, State.closeEvent_stations,
          State.closeEvent_service, State.closeEvent_intake]
        exact ⟨rfl, rfl, rfl, rfl, rfl, rfl⟩
    case load =>
      have runs := exec_planLine_loads loads loader setup reads passes
      rw [State.lineLoaded_load pass more] at runs
      refine ⟨_, runs, ?_, readPlanLine_issues ((s.fetched id).putPlanLine_work l _) _, fun line => ?_,
        fun c first few place => ?_,
        fun st first place => ?_⟩
      · rw [State.closeEvent_loader]
        rfl
      · rw [State.putPlanLine_header line, State.closeEvent_plan, State.closeEvent_cache, State.closeEvent_courses,
          State.closeEvent_stations]
        exact ⟨rfl, rfl, rfl, rfl⟩
      · rw [State.closeEvent_courses]
        exact putPlanLine_course first few place (s.bytesAt m) (s.fetched id)
      · rw [State.closeEvent_stations]
        exact putPlanLine_station first place (s.bytesAt m) (s.fetched id)
    case last =>
      have runs := exec_planLine_loads loads loader setup reads passes
      rw [State.lineLoaded_last pass last] at runs
      have ends := State.planInForce_ends loads id (s.bytesAt m)
      refine ⟨_, runs, ends.part, ends.loader, congrArg Service.state ends.ofService,
        congrArg Service.pending ends.ofService,
        fun c => ends.courses c (List.mem_finRange c), fun st => ends.stations st (List.mem_finRange st), ends.service rfl,
        fun st place => ?_, fun command => (ends.finishes command).completes⟩
      rw [ends.ofStations]
      exact putPlanLine_station (by omega) place (s.bytesAt m) (s.fetched id)
    case invalid =>
      have runs := exec_planLine_invalid loads loader setup reads pass fails
      obtain ⟨origin, addr, pass', line, header⟩ := l
      cases origin with
      | startUp =>
        refine ⟨_, runs, ?_, nofun, fun _ => ⟨?_, ?_⟩⟩
        · rw [State.closeEvent_loader]
          rfl
        · rw [State.closeEvent_part]
          rfl
        · exact ((s.fetched id).recordFault_logs _).congr rfl rfl (State.closeEvent_faults _) (State.closeEvent_overflow _)
      | command =>
        have ends := State.loadInvalid_ends (id := id) (f := f) (a := addr + 64 * line) loads
        have finishes := ends.finishes rfl
        exact ⟨_, runs, ends.loader, fun _ => ⟨finishes.completes, finishes.leaves.rebase rfl⟩, nofun⟩
    case lost =>
      have loses := State.loadFailed_loses loads id
      refine ⟨_, exec_planLine_lost loads loader setup reads lost, loses.logs, loses.loader, loses.completes, loses.stands,
        fun ends => ?_, loses.stops⟩
      have empty := loses.empty ends
      exact ⟨empty.part, empty.plan, empty.cache, empty.service, empty.courses, empty.stations⟩

end Sys2Proof.Machine

/-! SUPPORT. O48: what the stations that still owe a tick leave of courses, tickets and waiting batches (R105 to R109;
log 16). -/

namespace Sys2Proof.Machine

variable {s t u v : State} {st b : StationId}

-- ## Batches that go on

/-- Every batch record is still in use, and none has gone back. -/
def BatchesGoOn (s t : State) : Prop := ∀ r b, s.batch? r = some b → ∃ b', t.batch? r = some b' ∧ b.GoesOn b'

theorem BatchesGoOn.of_pool (pool : t.pool = s.pool) : BatchesGoOn s t :=
  fun r b h => ⟨b, (State.batch_congr pool r).trans h, .refl b⟩

theorem BatchesGoOn.refl (s : State) : BatchesGoOn s s := .of_pool rfl

theorem BatchesGoOn.trans (h : BatchesGoOn s t) (g : BatchesGoOn t u) : BatchesGoOn s u := fun r b hb => by
  obtain ⟨b', hb', goes⟩ := h r b hb
  obtain ⟨b'', hb'', goes'⟩ := g r b' hb'
  exact ⟨b'', hb'', goes.trans goes'⟩

-- ## Changes beside the courses and the waiting batches

/-- Courses keep their states and counts; a batch that waits for its release, in no queue, is untouched. -/
structure Drifts (s t : State) : Prop where
  straps : t.straps = s.straps
  rstLow : t.rstLow = s.rstLow
  part : t.part = s.part
  nextId : s.port.nextId ≤ t.port.nextId
  tickets : t.tickets = s.tickets
  service : t.service = s.service
  dram : t.dram = s.dram
  courses : ∀ c : CourseId, (s.courses[c]).SameCounts t.courses[c]
  batches : BatchesGoOn s t
  waits : ∀ r b, s.batch? r = some b → b.state = .planned → s.NotQueued r → t.batch? r = some b ∧ t.NotQueued r

theorem Course.SameCounts.refl (c : Course) : c.SameCounts c := ⟨rfl, rfl, rfl, rfl⟩

theorem Course.SameCounts.trans {c d e : Course} (h : c.SameCounts d) (g : d.SameCounts e) : c.SameCounts e := by
  obtain ⟨plan, state, countdown, openCount⟩ := h
  obtain ⟨plan', state', countdown', openCount'⟩ := g
  exact ⟨plan'.trans plan, state'.trans state, countdown'.trans countdown, openCount'.trans openCount⟩

theorem Drifts.refl (s : State) : Drifts s s :=
  ⟨rfl, rfl, rfl, le_rfl, rfl, rfl, rfl, fun _ => .refl _, .refl s, fun _ _ hb _ free => ⟨hb, free⟩⟩

theorem Drifts.trans (h : Drifts s t) (g : Drifts t u) : Drifts s u where
  straps := g.straps.trans h.straps
  rstLow := g.rstLow.trans h.rstLow
  part := g.part.trans h.part
  nextId := h.nextId.trans g.nextId
  tickets := g.tickets.trans h.tickets
  service := g.service.trans h.service
  dram := g.dram.trans h.dram
  courses c := (h.courses c).trans (g.courses c)
  batches := h.batches.trans g.batches
  waits r b hb planned free := by
    obtain ⟨hb', free'⟩ := h.waits r b hb planned free
    exact g.waits r b hb' planned free'

/-- A change of batches of which those that wait stand in a queue. -/
theorem Moves.drifts {P : Nat → Prop} {Q : StationId → Prop} (h : Moves P Q s t)
    (queued : ∀ r b, P r → s.batch? r = some b → b.state = .planned → ¬s.NotQueued r) : Drifts s t :=
  ⟨h.straps, h.rstLow, h.part, h.port.nextId, h.tickets, h.service, h.dram, h.courses, h.batches,
    fun r b hb planned free => (h.apart r
      (fun own => queued r b own hb planned free) free).imp_left fun same => same.trans hb⟩

/-- A change of the station records that lengthens no queue. -/
theorem SetsStations.drifts (h : SetsStations s t)
    (queues : ∀ (x : StationId) (r : Nat), r ∈ (t.stations[x]).queue → r ∈ (s.stations[x]).queue) : Drifts s t := by
  have free : ∀ r, s.NotQueued r → t.NotQueued r := fun r free x mem => free x (queues x r mem)
  unfold SetsStations at h
  generalize t.stations = stations, t.marks = marks at h
  subst h
  exact ⟨rfl, rfl, rfl, le_rfl, rfl, rfl, rfl, fun _ => .refl _, .of_pool rfl, fun r b hb _ own => ⟨hb, free r own⟩⟩

theorem SetsStation.drifts {y : Station} (h : SetsStation s t st y) (queue : ∀ r ∈ y.queue, r ∈ (s.stations[st]).queue) :
    Drifts s t := by
  refine h.stations.drifts fun x r mem => ?_
  by_cases same : x = st
  · subst same
    rw [h.station] at mem
    exact queue r mem
  · rwa [h.station_ne same] at mem

theorem State.updStation_drifts {f : Station → Station} (queue : (f s.stations[st]).queue = (s.stations[st]).queue) :
    Drifts s (s.updStation st f) := (s.updStation_sets st f).drifts fun r mem => by rwa [queue] at mem

theorem State.recordFault_drifts {f : FaultReport} (mild : f.reason.isFatal = false) : Drifts s (s.recordFault f) :=
  (State.recordFault_moves (P := fun _ => False) (Q := fun _ => True) mild).drifts fun _ _ no => no.elim

theorem State.setCondition_drifts (f : Conditions → Conditions) (s : State) : Drifts s (s.setCondition f) :=
  ⟨rfl, rfl, rfl, le_rfl, rfl, rfl, rfl, fun _ => .refl _, .of_pool rfl, fun _ _ hb _ free => ⟨hb, free⟩⟩

theorem State.closeEvent_drifts (s : State) : Drifts s s.closeEvent := by
  have grows := s.closeEvent_port.nextId
  have only := s.closeEvent_only
  generalize s.closeEvent = t at grows only
  generalize t.port = port, s.shown = shown at grows only
  subst only
  exact ⟨rfl, rfl, rfl, grows, rfl, rfl, rfl, fun _ => .refl _, .of_pool rfl, fun _ _ hb _ free => ⟨hb, free⟩⟩

theorem Drifts.foldl {α : Type} {f : State → α → State} (h : ∀ s a, Drifts s (f s a)) (l : List α) (s : State) :
    Drifts s (l.foldl f s) := by
  induction l generalizing s with
  | nil => exact .refl s
  | cons a l ih => exact (h s a).trans (ih (f s a))

-- ## The DOWN transition

theorem Station.vacate_queue (k : SlotId) (x : Station) : (x.vacate k).queue = x.queue := by
  unfold Station.vacate
  split <;> rfl

/-- A batch that is SHOWN leaves its slot for another station. -/
theorem State.vacated_moveTo_drifts {k : SlotId} {r : Nat} {c : Batch} (hb : s.batch? r = some c)
    (shown : c.state ≠ .planned) :
    Drifts s ((s.updStation st (Station.vacate k)).moveTo r b) := by
  refine (State.updStation_drifts (Station.vacate_queue k _)).trans ((State.moveTo_places r b).drifts ?_)
  rintro q c' rfl hc' planned
  obtain rfl := Option.some.inj (hb.symm.trans hc')
  exact absurd planned shown

theorem State.moveSlots_drifts (other : b ≠ st) {ks : List SlotId} (distinct : ks.Nodup)
    (filled : ∀ k ∈ ks, ∃ r c, s.slotBatch st k = some (r, c) ∧ c.state ≠ .planned) :
    Drifts s (ks.foldl (State.moveSlot st b) s) := by
  induction ks generalizing s with
  | nil => exact .refl s
  | cons k ks ih =>
    obtain ⟨r, c, slot, shown⟩ := filled k List.mem_cons_self
    obtain ⟨fresh, distinct⟩ := List.nodup_cons.1 distinct
    have first := State.vacated_moveTo_drifts (st := st) (b := b) (k := k) (State.slotBatch_iff.1 slot).2 shown
    rw [List.foldl_cons, State.moveSlot_eq slot]
    refine first.trans (ih distinct fun j hj => ?_)
    obtain ⟨q, d, own, shown'⟩ := filled j (List.mem_cons_of_mem _ hj)
    obtain ⟨own, batch⟩ := State.slotBatch_iff.1 own
    obtain ⟨d', batch', goes⟩ := first.batches q d batch
    refine ⟨q, d', State.slotBatch_iff.2 ⟨?_, batch'⟩, goes.planned shown'⟩
    rw [State.vacated_moveTo_station other, Station.vacate_slot, if_neg fun same : j = k => fresh (same ▸ hj)]
    exact own

/-- The queue of a station is emptied, and its batches move to another one. -/
theorem State.moveQueue_drifts (st b : StationId) (s : State) :
    Drifts s ((s.updStation st (fun x => { x with timer := none, prio := [], ordinary := [] })).moveAll
      (s.stations[st]).queue b) := by
  have emptied : Drifts s (s.updStation st (fun x => { x with timer := none, prio := [], ordinary := [] })) :=
    (s.updStation_sets st _).drifts fun r mem => absurd mem List.not_mem_nil
  have moves := State.moveAll_places (s := s.updStation st (fun x => { x with timer := none, prio := [], ordinary := [] }))
    (s.stations[st]).queue b
  refine ⟨moves.straps, moves.rstLow, moves.part, moves.port.nextId, moves.tickets, moves.service,
    moves.dram, moves.courses,
    emptied.batches.trans moves.batches, fun r c hb planned free => ?_⟩
  obtain ⟨hb', free'⟩ := emptied.waits r c hb planned free
  exact (moves.apart r (free st) free').imp_left fun same => same.trans hb'

theorem State.moveWork_drifts (other : b ≠ st) (s : State) : Drifts s (s.moveWork st b) :=
  (State.moveSlots_drifts other ((List.nodup_finRange 16).filter _) fun k hk => by
    obtain ⟨r, c, slot, j, shown⟩ := (s.slotUnread_iff st k).1 (List.mem_filter.1 hk).2
    exact ⟨r, c, slot, by rw [shown]; nofun⟩).trans (State.moveQueue_drifts st b _)

theorem State.fallDown_drifts (st : StationId) (s : State) : Drifts s (s.fallDown st) :=
  ((State.updStation_drifts (f := Station.fallen) rfl).trans (State.recordFault_drifts rfl)).trans
    (State.setCondition_drifts _ _)

theorem State.goDown_drifts (st : StationId) (s : State) : Drifts s (s.goDown st) := by
  rw [State.goDown_eq]
  split
  · next b usable => exact (s.fallDown_drifts st).trans (State.moveWork_drifts (State.usableBackup_some usable).1 _)
  · exact (s.fallDown_drifts st).trans (State.recordFault_drifts rfl)

-- ## A tick that is owed

theorem State.expire_drifts (st : StationId) (s : State) : Drifts s (s.expire st) := by
  have retried : Drifts s (s.updStation st Station.retried) := State.updStation_drifts rfl
  have retries : Drifts s (if ((s.updStation st Station.retried).stations[st]).atLimit then
      (s.updStation st Station.retried).goDown st else s.updStation st Station.retried) := by
    split
    · exact retried.trans (State.goDown_drifts st _)
    · exact retried
  unfold State.expire
  split
  · exact retries
  · exact retries
  · exact State.updStation_drifts rfl
  · exact .refl s

theorem State.takeOwed_drifts (st : StationId) (s : State) : Drifts s (s.takeOwed st) := by
  have marked (m : TickMark) : Drifts s (s.setTickMark m st) := State.updStation_drifts (f := Station.setTick m) rfl
  unfold State.takeOwed
  split
  · refine (marked .clear).trans ?_
    unfold State.takeTick
    split
    · exact .refl _
    · split
      · exact State.expire_drifts st _
      · exact State.updStation_drifts rfl
  · exact (s.sparedTick_sets st).drifts fun r => id
  all_goals exact .refl s

theorem State.payTick_drifts (s : State) (st : StationId) : Drifts s (s.payTick st) := by
  unfold State.payTick
  split
  · exact (s.takeOwed_drifts st).trans (State.closeEvent_drifts _)
  · exact .refl s

theorem State.payTick_ticksDue (s : State) (st : StationId) : (s.payTick st).ticksDue = s.ticksDue := by
  unfold State.payTick
  split
  · exact (State.closeEvent_ticksDue _).trans (s.takeOwed_work st).ticksDue
  · rfl

end Sys2Proof.Machine

/-! SUPPORT. O48: the counting, the releases and the passes of a tick (R50, R53, R54, R58). -/

namespace Sys2Proof.Machine

variable {s t u v w : State} {c d : CourseId} {r : Nat}

-- ## One change of some courses

/-- The records of some courses are changed. -/
def State.updCourses (f : Course → Course) (l : List CourseId) (s : State) : State := l.foldl (fun t c => t.updCourse c f) s

theorem State.updCourses_sets {f : Course → Course} {l : List CourseId} (distinct : l.Nodup) (s : State) :
    SetsCourses s (s.updCourses f l)
      ∧ (∀ c : CourseId, (s.updCourses f l).courses[c] = if c ∈ l then f s.courses[c] else s.courses[c])
      ∧ ∀ c ∈ l, (f s.courses[c]).mirrored ≠ (s.courses[c]).mirrored → c ∈ (s.updCourses f l).marks.courses := by
  induction l generalizing s with
  | nil => exact ⟨.refl s, fun c => (if_neg List.not_mem_nil).symm, fun c mem => absurd mem List.not_mem_nil⟩
  | cons a l ih =>
    obtain ⟨fresh, distinct⟩ := List.nodup_cons.1 distinct
    obtain ⟨sets, courses, marks⟩ := ih distinct (s.updCourse a f)
    refine ⟨(s.updCourse_setsCourses a f).trans sets, fun c => (courses c).trans ?_, fun c mem changed => ?_⟩
    · by_cases same : c = a
      · subst same
        rw [if_neg fresh, State.updCourse_course_self, if_pos List.mem_cons_self]
      · rw [State.updCourse_course_ne s (Ne.symm same)]
        simp only [List.mem_cons, same, false_or]
    · rcases List.mem_cons.1 mem with rfl | mem
      · exact sets.marks.courses c (State.updCourse_marked changed)
      · have other : a ≠ c := fun same => fresh (same ▸ mem)
        rw [← State.updCourse_course_ne s other f] at changed
        exact marks c mem changed

theorem SetsCourses.pool (h : SetsCourses s t) : t.pool = s.pool := (congrArg State.pool h.only).trans rfl
theorem SetsCourses.tickets (h : SetsCourses s t) : t.tickets = s.tickets := (congrArg State.tickets h.only).trans rfl
theorem SetsCourses.ofStations (h : SetsCourses s t) : t.stations = s.stations := (congrArg State.stations h.only).trans rfl

theorem SetsCourses.notQueued (h : SetsCourses s t) : t.NotQueued r ↔ s.NotQueued r := by
  unfold State.NotQueued
  rw [h.ofStations]

-- ## The counting

theorem State.mem_firedCourses : c ∈ s.firedCourses ↔ (s.courses[c]).state = .fired := by
  unfold State.firedCourses
  rw [List.mem_filter, beq_iff_eq]
  exact and_iff_right (List.mem_finRange c)

theorem State.firedCourses_nodup (s : State) : s.firedCourses.Nodup := (List.nodup_finRange 16).filter _

/-- A course that a tick has counted. -/
def Course.counted (x : Course) : Course := { x with countdown := x.countdown - 1 }

/-- The state after the counting of a tick (R53). -/
def State.ticked (s : State) : State := s.updCourses Course.counted s.firedCourses

/-- The state after the releases of a tick (R53). -/
def State.handedOver (s : State) : State := s.ticked.release (s.ticked.dueBatches (fun c => decide (c ∈ s.firedCourses)))

/-- The courses whose countdown a tick brings to 0 (R54). -/
def State.passing (s : State) : List CourseId := s.firedCourses.filter (fun c => (s.handedOver.courses[c]).countdown == 0)

theorem State.courseTick_eq (s : State) : s.courseTick = s.handedOver.passAll s.passing := (rfl)

theorem State.ticked_sets (s : State) : SetsCourses s s.ticked
    ∧ (∀ c : CourseId, s.ticked.courses[c] = if (s.courses[c]).state = .fired then (s.courses[c]).counted else s.courses[c])
    ∧ ∀ c : CourseId, (s.courses[c]).state = .fired → (s.courses[c]).countdown ≠ 0 → c ∈ s.ticked.marks.courses := by
  obtain ⟨sets, courses, marks⟩ := s.updCourses_sets (f := Course.counted) s.firedCourses_nodup
  refine ⟨sets, fun c => (courses c).trans (if_congr State.mem_firedCourses rfl rfl), fun c fired some' => ?_⟩
  refine marks c (State.mem_firedCourses.2 fired) fun same => ?_
  have countdown : (s.courses[c]).countdown - 1 = (s.courses[c]).countdown := congrArg (fun m => m.2.1) same
  omega

theorem State.handedOver_moves (s : State) : Moves
    (· ∈ s.ticked.dueBatches (fun c => decide (c ∈ s.firedCourses))) (fun _ => True)
    s.ticked s.handedOver := State.release_moves _

/-- A course after the counting and the releases (R53). -/
theorem State.handedOver_course (s : State) (c : CourseId) :
    (if (s.courses[c]).state = .fired then (s.courses[c]).counted else s.courses[c]).SameCounts
      s.handedOver.courses[c] := by
  rw [← s.ticked_sets.2.1 c]
  exact s.handedOver_moves.courses c

theorem State.handedOver_same (s : State) (c : CourseId) : (s.handedOver.courses[c]).plan = (s.courses[c]).plan
    ∧ (s.handedOver.courses[c]).state = (s.courses[c]).state
    ∧ (s.handedOver.courses[c]).openCount = (s.courses[c]).openCount
    ∧ (s.handedOver.courses[c]).countdown
      = (if (s.courses[c]).state = .fired then (s.courses[c]).countdown - 1 else (s.courses[c]).countdown) := by
  have same := s.handedOver_course c
  split at same
  · next fired =>
    obtain ⟨plan, state, countdown, openCount⟩ := same
    exact ⟨plan, state, openCount, countdown.trans (if_pos fired).symm⟩
  · next other =>
    obtain ⟨plan, state, countdown, openCount⟩ := same
    exact ⟨plan, state, openCount, countdown.trans (if_neg other).symm⟩

theorem State.mem_passing : c ∈ s.passing ↔ (s.courses[c]).state = .fired ∧ (s.courses[c]).countdown ≤ 1 := by
  obtain ⟨-, -, -, countdown⟩ := s.handedOver_same c
  unfold State.passing
  rw [List.mem_filter, State.mem_firedCourses, beq_iff_eq, countdown]
  refine and_congr_right fun fired => ?_
  rw [if_pos fired]
  omega

theorem State.passing_nodup (s : State) : s.passing.Nodup := s.firedCourses_nodup.filter _

theorem State.handedOver_service (s : State) : s.handedOver.service = s.service :=
  s.handedOver_moves.service.trans s.ticked_sets.1.service

-- ## The due batches

/-- The due batches of the FIRED courses are released, and judged for lateness (R50, R53). -/
theorem State.handedOver_releases {e : Nat} {k : Ticket} {b : Batch} (mem : (e, k) ∈ s.tickets)
    (entry : Table.get? e s.tickets = some k) (fired : (s.courses[k.course]).state = .fired) (hr : r ∈ k.batches)
    (hb : s.batch? r = some b) (owner : b.owner = e) (planned : b.state = .planned)
    (due : (s.courses[k.course]).countdown - 1 ≤ b.threshold) : ∃ b', s.handedOver.batch? r = some b' ∧ b'.state ≠ .planned
      ∧ ((s.courses[k.course]).countdown - 1 + (s.courses[k.course]).plan.grace < b.threshold → b'.late = true) := by
  obtain ⟨sets, courses, -⟩ := s.ticked_sets
  have course : s.ticked.courses[k.course] = (s.courses[k.course]).counted := by rw [courses, if_pos fired]
  have batch : s.ticked.batch? r = some b := (State.batch_congr sets.pool r).trans hb
  have ticket : s.ticked.ticketOf? b = some k := by
    unfold State.ticketOf?
    rw [owner, sets.tickets, entry]
  have listed : r ∈ s.ticked.dueBatches (fun c => decide (c ∈ s.firedCourses)) :=
    State.mem_dueBatches.2 ⟨e, k, b, sets.tickets ▸ mem, decide_eq_true (State.mem_firedCourses.2 fired),
      hr, batch, planned,
      by rw [course]; exact due⟩
  obtain ⟨b', hb', -, state, late⟩ := State.release_judged listed batch ticket
  rw [course] at late
  exact ⟨b', hb', state, late⟩

/-- A batch that is not due is left where it waits (R53). -/
theorem State.handedOver_apart {b : Batch} (hb : s.batch? r = some b) (free : s.NotQueued r)
    (later : ∀ e k, (e, k) ∈ s.tickets → r ∈ k.batches → (s.courses[k.course]).state ≠ .fired
      ∨ b.threshold < (s.courses[k.course]).countdown - 1) : s.handedOver.batch? r = some b := by
  obtain ⟨sets, courses, -⟩ := s.ticked_sets
  refine ((s.handedOver_moves.apart r (fun mem => ?_) (sets.notQueued.2 free)).1.trans
    (State.batch_congr sets.pool r)).trans hb
  obtain ⟨e, k, b', mem, chosen, hr, hb', -, due⟩ := State.mem_dueBatches.1 mem
  have fired := State.mem_firedCourses.1 (of_decide_eq_true chosen)
  obtain rfl := Option.some.inj (((State.batch_congr sets.pool r).trans hb).symm.trans hb')
  rw [courses, if_pos fired] at due
  rw [sets.tickets] at mem
  rcases later e k mem hr with other | below
  · exact other fired
  · exact absurd (due : (s.courses[k.course]).countdown - 1 ≤ b.threshold) (not_le.2 below)

theorem State.handedOver_goesOn (s : State) : BatchesGoOn s s.handedOver :=
  (BatchesGoOn.of_pool s.ticked_sets.1.pool).trans s.handedOver_moves.batches

-- ## The passes

/-- The state after the passes of a tick (R54). -/
def State.passed (s : State) : State := s.handedOver.updCourses (Course.setState .passed) s.passing

theorem State.passed_sets (s : State) : SetsCourses s.handedOver s.passed
    ∧ (∀ c : CourseId, s.passed.courses[c] = if c ∈ s.passing then Course.setState .passed s.handedOver.courses[c]
        else s.handedOver.courses[c])
    ∧ ∀ c : CourseId, (s.courses[c]).state = .fired → c ∈ s.passed.marks.courses := by
  obtain ⟨sets, courses, marks⟩ := s.handedOver.updCourses_sets (f := Course.setState .passed) s.passing_nodup
  refine ⟨sets, courses, fun c fired => ?_⟩
  by_cases zero : (s.courses[c]).countdown = 0
  · refine marks c (State.mem_passing.2 ⟨fired, by omega⟩) fun same => ?_
    have state : CourseState.passed = (s.handedOver.courses[c]).state := congrArg (fun m => m.1) same
    rw [(s.handedOver_same c).2.1, fired] at state
    exact nomatch state
  · exact sets.marks.courses c (s.handedOver_moves.marks.courses c (s.ticked_sets.2.2 c fired zero))

/-- A course after the passes (R53, R54). -/
theorem State.passed_same (s : State) (c : CourseId) : (s.passed.courses[c]).plan = (s.courses[c]).plan
    ∧ (s.passed.courses[c]).openCount = (s.courses[c]).openCount
    ∧ (s.passed.courses[c]).state = (if c ∈ s.passing then .passed else (s.courses[c]).state)
    ∧ (s.passed.courses[c]).countdown
      = (if (s.courses[c]).state = .fired then (s.courses[c]).countdown - 1 else (s.courses[c]).countdown) := by
  obtain ⟨plan, state, openCount, countdown⟩ := s.handedOver_same c
  rw [s.passed_sets.2.1]
  split
  · exact ⟨plan, openCount, rfl, countdown⟩
  · exact ⟨plan, openCount, state, countdown⟩

theorem State.passed_service (s : State) : s.passed.service = s.service :=
  s.passed_sets.1.service.trans s.handedOver_service

theorem State.passAll_eq (s : State) : s.handedOver.passAll s.passing
    = if s.handedOver.passIsBoundary s.passing then (s.passing.foldl (fun u c => u.clearIfDone c) s.passed).boundary
      else s.passing.foldl (fun u c => u.clearIfDone c) s.passed := (rfl)

-- ## The clearing of the passed courses

/-- `t` is `s` but for course records, conditions and marks; CLEARED stays told. -/
structure Clears (s t : State) : Prop where
  only : t = { s with courses := t.courses, conditions := t.conditions, marks := t.marks }
  marks : s.marks.Grows t.marks
  told : s.conditions.cleared = true → t.conditions.cleared = true

theorem Clears.refl (s : State) : Clears s s := ⟨rfl, .refl _, id⟩

theorem Clears.trans (h : Clears s t) (g : Clears t u) : Clears s u := by
  refine ⟨?_, h.marks.trans g.marks, g.told ∘ h.told⟩
  have first := h.only
  have second := g.only
  generalize u.courses = courses, u.conditions = conditions, u.marks = marks at second ⊢
  subst second
  generalize t.courses = courses', t.conditions = conditions', t.marks = marks' at first
  subst first
  rfl

theorem SetsCourses.clears (h : SetsCourses s t) : Clears s t := by
  refine ⟨?_, h.marks, ?_⟩
  all_goals
    have only := h.only
    generalize t.courses = courses, t.marks = marks at only
    subst only
  · rfl
  · exact id

theorem Clears.service (h : Clears s t) : t.service = s.service := (congrArg State.service h.only).trans rfl
theorem Clears.pool (h : Clears s t) : t.pool = s.pool := (congrArg State.pool h.only).trans rfl

theorem State.clear_clears (c : CourseId) (s : State) : Clears s (s.clear c) :=
  ⟨rfl, s.updCourse_marks c _, fun _ => rfl⟩

/-- A course that has PASSED with no open batch (R58). -/
@[reducible] def Course.done (x : Course) : Prop := x.state = .passed ∧ x.openCount = 0

/-- The state after the clearing of these courses, in order (R58). -/
def State.clearAll (l : List CourseId) (s : State) : State := l.foldl (fun u c => u.clearIfDone c) s

/-- The clearing of courses none of which ends a stall (R58). -/
theorem State.clearAll_clears {l : List CourseId} (distinct : l.Nodup)
    (free : ∀ c ∈ l, (s.courses[c]).openCount = 0 → ¬s.StalledAt c) : Clears s (s.clearAll l)
      ∧ (∀ c : CourseId, (s.clearAll l).courses[c]
          = if c ∈ l ∧ (s.courses[c]).done then Course.setState .cleared s.courses[c]
          else s.courses[c])
      ∧ ∀ c ∈ l, (s.courses[c]).done → (s.clearAll l).conditions.cleared = true := by
  induction l generalizing s with
  | nil => exact ⟨.refl s, fun c => (if_neg fun h => List.not_mem_nil h.1).symm, fun c mem => absurd mem List.not_mem_nil⟩
  | cons a l ih =>
    obtain ⟨fresh, distinct⟩ := List.nodup_cons.1 distinct
    by_cases done : (s.courses[a]).done
    · have eq : s.clearAll (a :: l) = (s.clear a).clearAll l :=
        congrArg (State.clearAll l) (State.clearIfDone_clears done.1 done.2 (free a List.mem_cons_self done.2))
      have own : (s.clear a).courses[a] = Course.setState .cleared s.courses[a] := State.updCourse_course_self s a _
      have others (c : CourseId) (h : c ≠ a) : (s.clear a).courses[c] = s.courses[c] :=
        State.updCourse_course_ne s (Ne.symm h) (Course.setState .cleared)
      obtain ⟨clears, courses, told⟩ := ih (s := s.clear a) distinct fun c mem none' => by
        have other : c ≠ a := fun same => fresh (same ▸ mem)
        rw [others c other] at none'
        exact free c (List.mem_cons_of_mem _ mem) none'
      rw [eq]
      refine ⟨(s.clear_clears a).trans clears, fun c => (courses c).trans ?_, fun c _ _ => clears.told rfl⟩
      by_cases same : c = a
      · subst same
        rw [if_neg fun h => fresh h.1, own, if_pos ⟨List.mem_cons_self, done⟩]
      · rw [others c same]
        simp only [List.mem_cons, same, false_or]
    · have eq : s.clearAll (a :: l) = s.clearAll l :=
        congrArg (State.clearAll l) (State.clearIfDone_open (not_and_or.1 done))
      obtain ⟨clears, courses, told⟩ := ih distinct fun c mem => free c (List.mem_cons_of_mem _ mem)
      rw [eq]
      refine ⟨clears, fun c => (courses c).trans ?_, fun c mem done' => ?_⟩
      · by_cases same : c = a
        · subst same
          rw [if_neg fun h => done h.2, if_neg fun h => done h.2]
        · simp only [List.mem_cons, same, false_or]
      · exact told c ((List.mem_cons.1 mem).resolve_left fun same => done (same ▸ done')) done'

end Sys2Proof.Machine

/-! SUPPORT. O48: the boundary of a tick, and the stall that it ends (R58, R61 to R66). -/

namespace Sys2Proof.Machine

variable {s t u v w : State} {c d : CourseId} {r : Nat}

-- ## The live count

theorem countP_lt {α : Type} {p q : α → Bool} {l : List α} {a : α} (mem : a ∈ l) (le : ∀ x ∈ l, p x = true → q x = true)
    (fails : p a = false) (holds : q a = true) : l.countP p < l.countP q := by
  obtain ⟨before, after, rfl⟩ := List.append_of_mem mem
  have first := List.countP_mono_left (l := before) fun x hx => le x (List.mem_append_left _ hx)
  have last := List.countP_mono_left (l := after) fun x hx => le x (List.mem_append_right _ (List.mem_cons_of_mem _ hx))
  rw [List.countP_append, List.countP_append, List.countP_cons_of_pos holds, List.countP_cons_of_neg (by rw [fails]; nofun)]
  omega

/-- A course that is live no more makes room for another one (R48). -/
theorem State.liveCount_lt (c : CourseId) (le : ∀ d : CourseId, (t.courses[d]).live = true → (s.courses[d]).live = true)
    (fails : (t.courses[c]).live = false) (holds : (s.courses[c]).live = true) : t.liveCount < s.liveCount :=
  countP_lt (List.mem_finRange c) (fun d _ => le d) fails holds

-- ## The course that a boundary calls

/-- Courses are as before, but that an IDLE or CLEARED one may have been STAGED (R61). -/
def Restages (s t : State) : Prop := ∀ c : CourseId, t.courses[c] = s.courses[c]
  ∨ (((s.courses[c]).state = .idle ∨ (s.courses[c]).state = .cleared)
    ∧ t.courses[c] = { (s.courses[c]) with state := .staged })

theorem Restages.plan (h : Restages s t) (c : CourseId) : (t.courses[c]).plan = (s.courses[c]).plan := by
  rcases h c with same | ⟨-, staged⟩
  · rw [same]
  · rw [staged]

theorem Restages.stages (h : Restages s t) (stages : (s.courses[c]).state.Stages) : (t.courses[c]).state.Stages := by
  rcases h c with same | ⟨-, staged⟩
  · rwa [same]
  · exact .inr (.inl (congrArg Course.state staged))

theorem Restages.stalls (h : Restages s t) (stalls : (s.courses[c]).state.Stalls) : (t.courses[c]).state.Stalls := by
  rcases h c with same | ⟨was, -⟩
  · rwa [same]
  · rcases was with was | was <;> rw [was] at stalls <;> rcases stalls with no | no | no <;> exact nomatch no

theorem Restages.liveCount (h : Restages s t) : t.liveCount = s.liveCount := by
  refine State.liveCount_congr fun d => ?_
  rcases h d with same | ⟨was, staged⟩
  · rw [same]
  · unfold Course.live
    rw [staged]
    rcases was with was | was <;> rw [was] <;> rfl

theorem State.callCurrent_some (h : s.service.current? = some c) : s.callCurrent = s.call c := by
  unfold State.callCurrent
  rw [h]

theorem Service.SamePlace.current {x y : Service} (h : x.SamePlace y) : y.current? = x.current? := by
  obtain ⟨position, list, -⟩ := h
  unfold Service.current?
  rw [position, list]

/-- The boundary of a RUNNING service that goes on calls the course at its new position (R63). -/
theorem State.boundary_calls (running : s.service.state = .running) (going : s.boundary.service.state ≠ .ended)
    (current : s.boundary.service.list.courses[s.boundary.service.position]? = some d) :
    ∃ u, s.boundary = u.call d ∧ u.service.state = .running ∧ Restages s u := by
  change s.boundary.service.current? = some d at current
  have place (f : Service → Service) (calls : s.boundary = (s.updService f).callCurrent)
      (still : (s.updService f).service.state = .running) :
      ∃ u, s.boundary = u.call d ∧ u.service.state = .running ∧ Restages s u := by
    rw [calls, (s.updService f).callCurrent_service.current] at current
    exact ⟨_, calls.trans (State.callCurrent_some current), still, fun _ => .inl rfl⟩
  cases pending : s.service.pending with
  | some l =>
    have applies := State.boundary_pending pending
    obtain ⟨sets, courses⟩ := (s.updService (fun v => { v with pending := none })).listed_lists l
    have calls : s.boundary = ((s.updService (fun v => { v with pending := none })).listed l).callCurrent := applies
    rw [calls, (State.callCurrent_service _).current] at current
    refine ⟨_, calls.trans (State.callCurrent_some current), congrArg Service.state sets.service, fun c => ?_⟩
    rw [courses]
    split
    · next was => exact .inr ⟨was.2, rfl⟩
    · exact .inl rfl
  | none =>
    by_cases more : s.service.position + 1 < s.service.list.courses.length
    · exact place _ (State.boundary_next pending more) running
    · have last := not_lt.1 more
      cases cycle : s.service.list.cycle with
      | true => exact place _ (State.boundary_again pending last cycle) running
      | false =>
        rw [State.boundary_ends pending last cycle] at going
        exact absurd rfl going

/-- What the calling of a course leaves of the service (R64, R66). -/
theorem State.call_service_state (running : s.service.state = .running) :
    ((s.courses[c]).state.Stages → (s.call c).service.state = .running)
      ∧ ((s.courses[c]).state.Stalls → (s.call c).service.state = .stalled ∧ (s.call c).conditions.stall = true) := by
  refine ⟨fun stages => ?_, fun stalls => ?_⟩
  · rw [State.call_stages stages, ((s.stage c).autoFire_work c).service, (s.stage_work c).service, running]
  · rw [State.call_stalls stalls]
    exact ⟨rfl, rfl⟩

-- ## What a call keeps

theorem State.autoFire_goesOn (c : CourseId) (s : State) : BatchesGoOn s (s.autoFire c) := by
  unfold State.autoFire
  split
  · split
    · exact (BatchesGoOn.of_pool (t := s.updCourse c (Course.fire 0)) rfl).trans (s.fireCourse_moves c 0).batches
    · exact .of_pool (s.recordFault_tables _).2.2.2.1
  · exact .refl s

theorem State.call_goesOn (c : CourseId) (s : State) : BatchesGoOn s (s.call c) ∧ s.marks.Grows (s.call c).marks := by
  have staged := s.stage_setsCourses c
  have stages : BatchesGoOn s ((s.stage c).autoFire c) ∧ s.marks.Grows ((s.stage c).autoFire c).marks :=
    ⟨(BatchesGoOn.of_pool staged.pool).trans ((s.stage c).autoFire_goesOn c),
      staged.marks.trans ((s.stage c).autoFire_stirs c).marks⟩
  have stalls := (s.updService_stirs (P := fun _ => False) (fun v => { v with state := .stalled })).marks
  unfold State.call
  split
  · exact stages
  · exact stages
  · exact stages
  all_goals exact ⟨.of_pool rfl, stalls⟩

theorem State.callCurrent_goesOn (s : State) : BatchesGoOn s s.callCurrent ∧ s.marks.Grows s.callCurrent.marks := by
  unfold State.callCurrent
  split
  · exact s.call_goesOn _
  · exact ⟨.refl s, .refl _⟩

/-- A boundary changes the service, whose mirror is written (R63, R70). -/
theorem State.boundary_goesOn (s : State) : BatchesGoOn s s.boundary ∧ s.boundary.marks.service = true := by
  unfold State.boundary
  split
  · next l _ =>
    have sets := ((s.updService (fun v => { v with pending := none })).listed_lists l).1
    obtain ⟨batches, marks⟩ := ((s.updService (fun v => { v with pending := none })).listed l).callCurrent_goesOn
    exact ⟨(BatchesGoOn.of_pool sets.pool).trans batches, marks.service (sets.marks.service rfl)⟩
  · split
    · obtain ⟨batches, marks⟩ := (s.updService (fun v => { v with position := v.position + 1 })).callCurrent_goesOn
      exact ⟨batches, marks.service rfl⟩
    · split
      · obtain ⟨batches, marks⟩ := (s.updService (fun v => { v with position := 0 })).callCurrent_goesOn
        exact ⟨batches, marks.service rfl⟩
      · exact ⟨.of_pool rfl, rfl⟩

theorem State.clearIfDone_goesOn (c : CourseId) (s : State) : BatchesGoOn s (s.clearIfDone c) := by
  by_cases done : (s.courses[c]).done
  · by_cases stalled : s.StalledAt c
    · rw [State.clearIfDone_resumes done.1 done.2 stalled]
      exact (BatchesGoOn.of_pool (t := (s.clear c).resume c) rfl).trans (State.autoFire_goesOn c _)
    · rw [State.clearIfDone_clears done.1 done.2 stalled]
      exact .of_pool rfl
  · rw [State.clearIfDone_open (not_and_or.1 done)]
    exact .refl s

theorem State.clearAll_goesOn (l : List CourseId) (s : State) : BatchesGoOn s (s.clearAll l) := by
  induction l generalizing s with
  | nil => exact .refl s
  | cons c l ih => exact (s.clearIfDone_goesOn c).trans (ih (s.clearIfDone c))

theorem State.courseTick_boundary (h : s.handedOver.passIsBoundary s.passing = true) :
    s.courseTick = (s.passed.clearAll s.passing).boundary := by
  rw [State.courseTick_eq, State.passAll_eq, if_pos h]
  rfl

theorem State.courseTick_clears (h : s.handedOver.passIsBoundary s.passing = false) :
    s.courseTick = s.passed.clearAll s.passing := by
  rw [State.courseTick_eq, State.passAll_eq, if_neg (ne_true_of_eq_false h)]
  rfl

/-- Batches go on from the releases of a tick to its end. -/
theorem State.courseTick_goesOn (s : State) : BatchesGoOn s.handedOver s.courseTick := by
  have cleared : BatchesGoOn s.handedOver (s.passed.clearAll s.passing) :=
    (BatchesGoOn.of_pool s.passed_sets.1.pool).trans (State.clearAll_goesOn _ _)
  cases h : s.handedOver.passIsBoundary s.passing with
  | true =>
    rw [State.courseTick_boundary h]
    exact cleared.trans (State.boundary_goesOn _).1
  | false => rwa [State.courseTick_clears h]

theorem State.passIsBoundary_iff : s.handedOver.passIsBoundary s.passing = true
    ↔ s.service.state = .running ∧ ∃ c ∈ s.passing, s.service.calling? = some c := by
  unfold State.passIsBoundary
  rw [s.handedOver_service, Bool.and_eq_true, beq_iff_eq, List.any_eq_true]
  simp only [beq_iff_eq]

-- ## The clearing without a stall that ends

/-- What the passes and clearings of a tick leave of the courses (R53, R54, R58). -/
structure PassedFrom (s t : State) : Prop where
  plan : ∀ c : CourseId, (t.courses[c]).plan = (s.courses[c]).plan
  openCount : ∀ c : CourseId, (t.courses[c]).openCount = (s.courses[c]).openCount
  countdown : ∀ c : CourseId, (t.courses[c]).countdown
    = (if (s.courses[c]).state = .fired then (s.courses[c]).countdown - 1 else (s.courses[c]).countdown)
  state : ∀ c : CourseId, (t.courses[c]).state = if (s.courses[c]).state = .fired ∧ (s.courses[c]).countdown ≤ 1 then
    (if (s.courses[c]).openCount = 0 then .cleared else .passed) else (s.courses[c]).state
  told : ∀ c : CourseId, (s.courses[c]).state = .fired → (s.courses[c]).countdown ≤ 1 → (s.courses[c]).openCount = 0 →
    t.conditions.cleared = true

theorem State.passed_done (mem : c ∈ s.passing) (none' : (s.courses[c]).openCount = 0) : (s.passed.courses[c]).done := by
  obtain ⟨-, openCount, state, -⟩ := s.passed_same c
  exact ⟨state.trans (if_pos mem), openCount.trans none'⟩

/-- A list of passed courses, none of which ends a stall. -/
theorem State.clearAll_passes (free : ∀ c ∈ s.passing, (s.courses[c]).openCount = 0 → ¬s.StalledAt c) :
    Clears s.passed (s.passed.clearAll s.passing) ∧ PassedFrom s (s.passed.clearAll s.passing) := by
  have same (c : CourseId) : s.passed.StalledAt c ↔ s.StalledAt c := by
    unfold State.StalledAt
    rw [s.passed_service]
  obtain ⟨clears, courses, told⟩ := State.clearAll_clears (s := s.passed) s.passing_nodup fun c mem none' => by
    rw [(s.passed_same c).2.1] at none'
    exact mt (same c).1 (free c mem none')
  refine ⟨clears, fun c => ?plan, fun c => ?openCount, fun c => ?countdown, fun c => ?state, fun c fired last none' =>
    told c (State.mem_passing.2 ⟨fired, last⟩) (State.passed_done (State.mem_passing.2 ⟨fired, last⟩) none')⟩
  all_goals
    obtain ⟨plan, openCount, state, countdown⟩ := s.passed_same c
    rw [courses]
  case plan => split <;> exact plan
  case openCount => split <;> exact openCount
  case countdown => split <;> exact countdown
  case state =>
    by_cases passes : c ∈ s.passing
    · rw [if_pos passes] at state
      rw [if_pos (State.mem_passing.1 passes)]
      by_cases none' : (s.courses[c]).openCount = 0
      · rw [if_pos ⟨passes, state, openCount.trans none'⟩, if_pos none']
        rfl
      · rw [if_neg fun h => none' (openCount ▸ h.2.2), if_neg none', state]
    · rw [if_neg passes] at state
      rw [if_neg (mt State.mem_passing.2 passes), if_neg fun h => passes h.1, state]

/-- A course that passes leaves room among the live ones (R48, R54). -/
theorem PassedFrom.room (h : PassedFrom s t) (fired : (s.courses[c]).state = .fired) (last : (s.courses[c]).countdown ≤ 1) :
    t.liveCount < s.liveCount := by
  have gone : (t.courses[c]).live = false := by
    unfold Course.live
    rw [h.state c, if_pos ⟨fired, last⟩]
    split <;> rfl
  refine State.liveCount_lt c (fun d live => ?_) gone (by unfold Course.live; rw [fired]; rfl)
  unfold Course.live at live ⊢
  rw [h.state d] at live
  split at live
  · split at live <;> exact nomatch live
  · exact live

/-- Late counts apart, the courses before a tick may be read in an earlier state. -/
theorem PassedFrom.before (h : PassedFrom u t) (same : ∀ c : CourseId, (s.courses[c]).SameCounts u.courses[c]) :
    PassedFrom s t := by
  refine ⟨fun c => ?_, fun c => ?_, fun c => ?_, fun c => ?_, fun c => ?_⟩
  all_goals obtain ⟨plan, state, countdown, openCount⟩ := same c
  · exact (h.plan c).trans plan
  · exact (h.openCount c).trans openCount
  · rw [h.countdown, state, countdown]
  · rw [h.state, state, countdown, openCount]
  · rw [← state, ← countdown, ← openCount]
    exact h.told c

theorem PassedFrom.state_other (h : PassedFrom s t) {x : CourseState} (state : (s.courses[d]).state = x)
    (other : x ≠ .fired) :
    (t.courses[d]).state = x :=
  ((h.state d).trans (if_neg fun fired => other (state.symm.trans fired.1))).trans state

/-- A course that a boundary may call has been staged, or stands where it stages (R47, R64). -/
theorem PassedFrom.stages (h : PassedFrom s t) (stages : (s.courses[d]).state = .idle ∨ (s.courses[d]).state = .staged
    ∨ (s.courses[d]).state = .cleared
    ∨ ((s.courses[d]).state = .fired ∧ (s.courses[d]).countdown ≤ 1 ∧ (s.courses[d]).openCount = 0)) :
    (t.courses[d]).state.Stages := by
  rcases stages with state | state | state | ⟨fired, last, none'⟩
  · exact .inl (h.state_other state nofun)
  · exact .inr (.inl (h.state_other state nofun))
  · exact .inr (.inr (h.state_other state nofun))
  · exact .inr (.inr ((h.state d).trans ((if_pos ⟨fired, last⟩).trans (if_pos none'))))

theorem PassedFrom.stalls (h : PassedFrom s t) (stalls : (s.courses[d]).state = .held ∨ (s.courses[d]).state = .passed
    ∨ ((s.courses[d]).state = .fired ∧ (1 < (s.courses[d]).countdown ∨ (s.courses[d]).openCount ≠ 0))) :
    (t.courses[d]).state.Stalls := by
  rcases stalls with state | state | ⟨fired, live⟩
  · exact .inr (.inl (h.state_other state nofun))
  · exact .inr (.inr (h.state_other state nofun))
  · by_cases last : (s.courses[d]).countdown ≤ 1
    · exact .inr (.inr ((h.state d).trans ((if_pos ⟨fired, last⟩).trans (if_neg (live.resolve_left (not_lt.2 last))))))
    · exact .inl ((h.state d).trans ((if_neg fun no => last no.2).trans fired))

end Sys2Proof.Machine

/-! SUPPORT. O48: a tick at the Course Table (R50, R53, R54, R58, R63 to R66). -/

namespace Sys2Proof.Machine

variable {s t u v w z : State} {c d : CourseId} {r : Nat} {order : TickOrder}

-- ## The boundary

/-- The boundary of a tick, at the course that it calls (R63, R64, R66). -/
theorem PassedFrom.boundary (h : PassedFrom s u) (running : u.service.state = .running)
    (going : u.boundary.service.state ≠ .ended)
    (current : u.boundary.service.list.courses[u.boundary.service.position]? = some d) :
    ((s.courses[d]).state = .idle ∨ (s.courses[d]).state = .staged ∨ (s.courses[d]).state = .cleared
        ∨ ((s.courses[d]).state = .fired ∧ (s.courses[d]).countdown ≤ 1 ∧ (s.courses[d]).openCount = 0) →
      u.boundary.service.state = .running
        ∧ ((s.courses[d]).plan.autoFire = false → (u.boundary.courses[d]).state = .staged)
        ∧ ((s.courses[d]).plan.autoFire = true → u.liveCount < 4 → (u.boundary.courses[d]).state = .fired
            ∧ (u.boundary.courses[d]).countdown = (s.courses[d]).plan.countdown))
    ∧ ((s.courses[d]).state = .held ∨ (s.courses[d]).state = .passed
        ∨ ((s.courses[d]).state = .fired ∧ (1 < (s.courses[d]).countdown ∨ (s.courses[d]).openCount ≠ 0)) →
      u.boundary.service.state = .stalled ∧ u.boundary.conditions.stall = true) := by
  obtain ⟨w, calls, running', restages⟩ := State.boundary_calls running going current
  obtain ⟨runs, stalls⟩ := State.call_service_state (c := d) running'
  have plan : (w.courses[d]).plan = (s.courses[d]).plan := (restages.plan d).trans (h.plan d)
  rw [calls]
  refine ⟨fun stages => ?_, fun stalled => stalls (restages.stalls (h.stalls stalled))⟩
  have stages' := restages.stages (h.stages stages)
  obtain ⟨off, on, -⟩ := State.call_outcome stages'
  rw [plan] at off on
  refine ⟨runs stages', fun no => ?_, fun yes room => on yes (by rwa [restages.liveCount])⟩
  rw [off no]

-- ## A stall that ends

/-- A tick that clears the course at which the service is STALLED (R58, R65, R66). -/
structure Resumes (s t : State) (c : CourseId) : Prop where
  service : t.service = { s.service with state := .running }
  told : t.conditions.cleared = true
  mark : t.marks.service = true
  staged : (s.courses[c]).plan.autoFire = false → (t.courses[c]).state = .staged
  fired : (s.courses[c]).plan.autoFire = true → s.FourLive → (t.courses[c]).state = .fired
    ∧ (t.courses[c]).countdown = (s.courses[c]).plan.countdown

theorem State.clearAll_append (l l' : List CourseId) (s : State) : s.clearAll (l ++ l') = (s.clearAll l).clearAll l' :=
  List.foldl_append

/-- The passes and some of the clearings of a tick make no course live. -/
theorem State.passed_live {l : List CourseId} (courses : ∀ d : CourseId, t.courses[d]
      = if d ∈ l ∧ (s.passed.courses[d]).done then Course.setState .cleared s.passed.courses[d] else s.passed.courses[d])
    (live : (t.courses[d]).live = true) : (s.courses[d]).live = true := by
  obtain ⟨-, -, state, -⟩ := s.passed_same d
  unfold Course.live at live ⊢
  rw [courses] at live
  split at live
  · exact nomatch live
  · rw [state] at live
    split at live
    · exact nomatch live
    · exact live

theorem State.courseTick_resumes (stalled : s.StalledAt c) (fired : (s.courses[c]).state = .fired)
    (last : (s.courses[c]).countdown ≤ 1) (none' : (s.courses[c]).openCount = 0) : Resumes s s.courseTick c := by
  obtain ⟨state, calling⟩ := stalled
  have passes := State.mem_passing.2 ⟨fired, last⟩
  have eq : s.courseTick = s.passed.clearAll s.passing := State.courseTick_clears <| by
    rw [← Bool.not_eq_true, State.passIsBoundary_iff, state]
    exact fun no => nomatch no.1
  have distinct := s.passing_nodup
  have done := State.passed_done passes none'
  obtain ⟨before, after, split⟩ := List.append_of_mem passes
  rw [split] at eq distinct
  obtain ⟨distinct, distinct', apart⟩ := List.nodup_append.1 distinct
  obtain ⟨fresh, distinct'⟩ := List.nodup_cons.1 distinct'
  have notBefore : c ∉ before := fun mem => apart c mem c List.mem_cons_self rfl
  obtain ⟨clears, courses, -⟩ := State.clearAll_clears (s := s.passed) distinct fun d mem _ stalledAt => by
    obtain ⟨-, calling'⟩ := stalledAt
    rw [s.passed_service, calling] at calling'
    exact notBefore (Option.some.inj calling' ▸ mem)
  have live := fun d => State.passed_live (d := d) courses
  have course := courses c
  rw [State.clearAll_append] at eq
  generalize s.passed.clearAll before = u at eq clears course live
  rw [if_neg fun no => notBefore no.1] at course
  have service : u.service = s.service := clears.service.trans s.passed_service
  rw [← course] at done
  have stalled' : u.StalledAt c := ⟨by rw [service, state], by rw [service, calling]⟩
  have step : u.clearAll (c :: after) = (((u.clear c).resume c).autoFire c).clearAll after :=
    congrArg (State.clearAll after) (State.clearIfDone_resumes done.1 done.2 stalled')
  obtain ⟨service', told, off, on, -⟩ := State.resume_outcome done.1
  have mark := u.resume_mirrored c
  have plan : (u.courses[c]).plan = (s.courses[c]).plan := by rw [course, (s.passed_same c).1]
  have room : u.liveCount < s.liveCount := by
    refine State.liveCount_lt c live ?_ (by unfold Course.live; rw [fired]; rfl)
    unfold Course.live
    rw [done.1]
    rfl
  rw [plan] at off on
  rw [step] at eq
  generalize ((u.clear c).resume c).autoFire c = x at eq service' told off on mark
  obtain ⟨clears', courses', -⟩ := State.clearAll_clears (s := x) distinct' fun d _ _ no => by
    obtain ⟨no, -⟩ := no
    rw [service'] at no
    exact nomatch no
  have course' := courses' c
  rw [if_neg fun no => fresh no.1] at course'
  rw [eq]
  refine ⟨?_, clears'.told told, clears'.marks.service mark, fun no => ?_, fun yes four => ?_⟩
  · rw [clears'.service, service', service]
  · rw [course']
    exact off no
  · rw [course']
    exact on yes (room.trans_le four)

-- ## A tick without a boundary, or with one

/-- Without a boundary and a stall that ends (R53, R54, R58). -/
theorem State.courseTick_passes (quiet : s.handedOver.passIsBoundary s.passing = false)
    (free : ∀ c ∈ s.passing, (s.courses[c]).openCount = 0 → ¬s.StalledAt c) :
    Clears s.passed s.courseTick ∧ PassedFrom s s.courseTick := by
  rw [State.courseTick_clears quiet]
  exact State.clearAll_passes free

theorem Service.calling?_ends {x : Service} (h : x.state = .none ∨ x.state = .ended) : x.calling? = none := by
  unfold Service.calling?
  rcases h with h | h <;> rw [h]

/-- No boundary, and no stall that ends. -/
theorem State.courseTick_quiet (h : s.service.state = .none ∨ s.service.state = .ended
    ∨ ∀ c : CourseId, (s.courses[c]).state = .fired → 1 < (s.courses[c]).countdown) :
    Clears s.passed s.courseTick ∧ PassedFrom s s.courseTick := by
  have none' (c : CourseId) (mem : c ∈ s.passing) : s.service.calling? ≠ some c := by
    obtain ⟨fired, last⟩ := State.mem_passing.1 mem
    rcases h with h | h | h
    · rw [Service.calling?_ends (.inl h)]
      nofun
    · rw [Service.calling?_ends (.inr h)]
      nofun
    · exact absurd (h c fired) (not_lt.2 last)
  refine State.courseTick_passes ?_ fun c mem _ stalled => none' c mem stalled.2
  rw [← Bool.not_eq_true, State.passIsBoundary_iff]
  exact fun ⟨_, c, mem, calling⟩ => none' c mem calling

theorem State.courseTick_calls (running : s.service.state = .running) (calling : s.service.calling? = some c)
    (fired : (s.courses[c]).state = .fired) (last : (s.courses[c]).countdown ≤ 1) :
    ∃ u, s.courseTick = u.boundary ∧ Clears s.passed u ∧ PassedFrom s u := by
  have bound : s.handedOver.passIsBoundary s.passing = true :=
    State.passIsBoundary_iff.2 ⟨running, c, State.mem_passing.2 ⟨fired, last⟩, calling⟩
  exact ⟨_, State.courseTick_boundary bound,
    State.clearAll_passes fun d _ _ stalled => nomatch running.symm.trans stalled.1⟩

/-- A STALLED service whose course does not clear (R63, R65). -/
theorem State.courseTick_stalled (state : s.service.state = .stalled) (calling : s.service.calling? = some c)
    (waits : (s.courses[c]).state ≠ .fired ∨ 1 < (s.courses[c]).countdown ∨ (s.courses[c]).openCount ≠ 0) :
    s.courseTick.service = s.service := by
  refine (State.courseTick_passes ?_ fun d mem none' stalled => ?_).1.service.trans s.passed_service
  · rw [← Bool.not_eq_true, State.passIsBoundary_iff, state]
    exact fun no => nomatch no.1
  · obtain rfl := Option.some.inj (calling.symm.trans stalled.2)
    obtain ⟨fired, last⟩ := State.mem_passing.1 mem
    exact waits.elim (· fired) fun waits => waits.elim (fun more => by omega) (· none')

end Sys2Proof.Machine

/-! SUPPORT. O48: the row of TICK (R53, R67, R105; log 16). -/

namespace Sys2Proof.Machine

variable {s t u v w z : State} {c d : CourseId} {r : Nat} {order : TickOrder}

-- ## The ack timers beside the courses

theorem Station.lowered_queue (x : Station) : x.lowered.queue = x.queue := by
  unfold Station.lowered
  split
  · rfl
  · split
    · rfl
    · split
      · rfl
      · split <;> rfl

theorem State.lowerTimers_drifts (s : State) : Drifts s s.lowerTimers := by
  obtain ⟨sets, stations⟩ := s.lowerTimers_lowers
  refine sets.drifts fun x r mem => ?_
  rwa [stations, Station.lowered_queue] at mem

theorem State.takeSparedTick_marks (st : StationId) (s : State) : s.marks.Grows (s.takeSparedTick st).marks := by
  unfold State.takeSparedTick
  split
  · exact .refl _
  · exact s.updStation_marks st _

theorem State.lowerTimer_marks (s : State) (st : StationId) : s.marks.Grows (s.lowerTimer st).marks := by
  have marked (m : TickMark) : s.marks.Grows (s.setTickMark m st).marks := s.updStation_marks st _
  have lowers : s.marks.Grows (match (s.stations[st]).timer with
      | none => s
      | some n => if n ≤ 1 then s.setTickMark .owed st
        else s.updStation st (fun x => { x with timer := some (n - 1) })).marks := by
    split
    · exact .refl _
    · split
      · exact marked .owed
      · exact s.updStation_marks st _
  unfold State.lowerTimer
  split
  · exact marked .clear
  · exact (marked .clear).trans (State.takeSparedTick_marks st _)
  all_goals exact lowers

theorem State.lowerTimers_marks (s : State) : s.marks.Grows s.lowerTimers.marks := by
  unfold State.lowerTimers
  generalize List.finRange 32 = l
  induction l generalizing s with
  | nil => exact .refl _
  | cons st l ih => exact (s.lowerTimer_marks st).trans (ih (s.lowerTimer st))

-- ## The row

/-- The state in which a tick finds its takers. -/
def State.takers (s : State) : State := { s with ticksDue := s.ticksDue - 1 }

theorem State.takers_drifts (s : State) : Drifts s s.takers :=
  ⟨rfl, rfl, rfl, le_rfl, rfl, rfl, rfl, fun _ => .refl _, .of_pool rfl, fun _ _ hb _ free => ⟨hb, free⟩⟩

/-- The stations that owe a tick take it (log 16). -/
def State.payTicks (s : State) : State := (List.finRange 32).foldl State.payTick s

theorem State.payTicks_drifts (s : State) : Drifts s s.payTicks := by
  unfold State.payTicks
  generalize List.finRange 32 = l
  exact Drifts.foldl State.payTick_drifts l s

theorem State.payTicks_ticksDue (s : State) : s.payTicks.ticksDue = s.ticksDue := by
  unfold State.payTicks
  generalize List.finRange 32 = l
  induction l generalizing s with
  | nil => rfl
  | cons st l ih => exact (ih (s.payTick st)).trans (s.payTick_ticksDue st)

/-- The state without the responses of the step before. -/
def State.silent (s : State) : State := { s with responses := [] }

theorem State.silent_drifts (s : State) : Drifts s s.silent :=
  ⟨rfl, rfl, rfl, le_rfl, rfl, rfl, rfl, fun _ => .refl _, .of_pool rfl, fun _ _ hb _ free => ⟨hb, free⟩⟩

theorem SetsStations.refl (s : State) : SetsStations s s := (rfl)

theorem State.takersTick_takes (order : TickOrder) (s : State) : ∃ v, Drifts s v ∧ v.ticksDue = s.ticksDue
    ∧ SetsStations v.courseTick (s.takersTick order) ∧ v.courseTick.marks.Grows (s.takersTick order).marks := by
  cases order with
  | coursesFirst =>
    exact ⟨s, .refl s, rfl, s.courseTick.lowerTimers_lowers.1, s.courseTick.lowerTimers_marks⟩
  | timersFirst =>
    exact ⟨s.lowerTimers, s.lowerTimers_drifts, s.lowerTimers_work.ticksDue, .refl _, .refl _⟩

/-- A tick that has an effect: the courses take it in `v`, and `t` is what the event leaves. -/
structure Ticks (s v t : State) : Prop where
  drifts : Drifts s v
  ticksDue : t.ticksDue = s.ticksDue - 1
  tickets : t.tickets = s.tickets
  dram : t.dram = s.dram
  pool : t.pool = v.courseTick.pool
  courses : t.courses = v.courseTick.courses
  service : t.service = v.courseTick.service
  conditions : t.conditions = v.courseTick.conditions
  ofCourse : ∀ c ∈ v.courseTick.marks.courses, WritesCourseMirror s t c
  ofService : v.courseTick.marks.service = true → WritesServiceMirror s t

theorem SetsStations.ticks (h : SetsStations v.courseTick z) (marks : v.courseTick.marks.Grows z.marks)
    (drifts : Drifts s v)
    (due : v.ticksDue = s.ticksDue - 1) : Ticks s v z.closeEvent := by
  have work := v.courseTick_work
  have straps : z.straps = v.courseTick.straps := (congrArg State.straps h).trans rfl
  have port : z.port = v.courseTick.port := (congrArg State.port h).trans rfl
  have numbers : s.port.nextId ≤ z.port.nextId := by
    rw [port]
    exact drifts.nextId.trans work.port.nextId
  obtain ⟨ofCourse, -, ofService⟩ := State.closeEvent_writes (s0 := s) numbers
    (straps.trans (work.straps.trans drifts.straps))
  refine ⟨drifts, ?_, ?_, ?_, ?_, ?_, ?_, ?_, fun c mem => ofCourse c (marks.courses c mem),
    fun own => ofService (marks.service own)⟩
  · rw [State.closeEvent_ticksDue, congrArg State.ticksDue h, ← due]
    exact work.ticksDue
  · rw [State.closeEvent_tickets, congrArg State.tickets h, ← drifts.tickets]
    exact work.tickets
  · rw [State.closeEvent_dram, congrArg State.dram h, ← drifts.dram]
    exact work.dram
  · rw [State.closeEvent_pool, congrArg State.pool h]
  · rw [State.closeEvent_courses, congrArg State.courses h]
  · rw [State.closeEvent_service, congrArg State.service h]
  · rw [State.closeEvent_conditions, congrArg State.conditions h]

theorem State.tick_takes (order : TickOrder) (due : s.ticksDue ≠ 0) (ready : s.part = .ready) :
    s.tick order = s.takers.takersTick order := (if_neg due).trans (if_pos ready)

theorem exec_tickTakes (order : TickOrder) (high : s.rstLow = false) (due : s.ticksDue ≠ 0) (ready : s.part = .ready) :
    ∃ v t, exec (.tick order) s = .next t ∧ Ticks s v t := by
  have pays := s.silent_drifts.trans s.silent.payTicks_drifts
  have left : s.silent.payTicks.ticksDue = s.ticksDue := s.silent.payTicks_ticksDue
  have starts : (s.rstLow || s.part != .ready || s.ticksDue == 0) = false := by
    rw [high, ready, Bool.false_or, Bool.or_eq_false_iff, beq_eq_false_iff_ne]
    exact ⟨rfl, due⟩
  have runs : exec (.tick order) s = .next (s.silent.payTicks.takers.takersTick order).closeEvent := by
    refine congrArg Host.Outcome.next ?_
    rw [starts, if_neg Bool.false_ne_true]
    change (if s.silent.payTicks.rstLow then s.silent.payTicks else s.silent.payTicks.tick order).closeEvent = _
    rw [pays.rstLow, high, if_neg Bool.false_ne_true]
    refine congrArg State.closeEvent ?_
    exact State.tick_takes order (left.trans_ne due) (pays.part.trans ready)
  obtain ⟨v, drifts, due', sets, marks⟩ := s.silent.payTicks.takers.takersTick_takes order
  refine ⟨v, _, runs, sets.ticks marks (pays.trans ((State.takers_drifts _).trans drifts)) (due'.trans ?_)⟩
  change s.silent.payTicks.ticksDue - 1 = _
  rw [left]

/-- A tick without an effect (R53; log 16). -/
theorem exec_tickIdle (order : TickOrder) (high : s.rstLow = false) (idle : s.ticksDue = 0 ∨ s.part ≠ .ready) :
    exec (.tick order) s = .next (s.silent.tick order).closeEvent := by
  have starts : (s.rstLow || s.part != .ready || s.ticksDue == 0) = true := by
    rcases idle with none' | other
    · rw [none', beq_self_eq_true, Bool.or_true]
    · rw [bne_iff_ne.2 other, Bool.or_true, Bool.true_or]
  refine congrArg Host.Outcome.next ?_
  rw [starts, if_pos rfl]
  refine congrArg State.closeEvent (if_neg ?_)
  rw [high]
  exact Bool.false_ne_true

-- ## What a tick leaves

namespace Ticks

variable (h : Ticks s v t)
include h

/-- The due batches of the FIRED courses (R50, R53). -/
theorem releases {e : Nat} {k : Ticket} {b : Batch} (mem : (e, k) ∈ s.tickets) (entry : Table.get? e s.tickets = some k)
    (fired : (s.courses[k.course]).state = .fired) (hr : r ∈ k.batches) (hb : s.batch? r = some b) (owner : b.owner = e)
    (planned : b.state = .planned) (due : (s.courses[k.course]).countdown - 1 ≤ b.threshold) :
    ∃ b', t.batch? r = some b' ∧ b'.state ≠ .planned
      ∧ (s.NotQueued r → (s.courses[k.course]).countdown - 1 + (s.courses[k.course]).plan.grace < b.threshold →
        b'.late = true) := by
  obtain ⟨plan, state, countdown, -⟩ := h.drifts.courses k.course
  obtain ⟨b₁, hb₁, goes⟩ := h.drifts.batches r b hb
  have later := v.courseTick_goesOn
  have same := State.batch_congr h.pool r
  by_cases waits : b₁.state = .planned
  · have releases := State.handedOver_releases (s := v) (h.drifts.tickets ▸ mem) (h.drifts.tickets ▸ entry)
      (state.trans fired) hr hb₁ (goes.owner.trans owner) waits (by rw [countdown, goes.threshold]; exact due)
    rw [countdown, plan, goes.threshold] at releases
    obtain ⟨b₂, hb₂, state₂, late⟩ := releases
    obtain ⟨b₃, hb₃, goes₃⟩ := later r b₂ hb₂
    exact ⟨b₃, same.trans hb₃, goes₃.planned state₂, fun _ past => goes₃.late (late past)⟩
  · obtain ⟨b₃, hb₃, goes₃⟩ := (v.handedOver_goesOn.trans later) r b₁ hb₁
    refine ⟨b₃, same.trans hb₃, goes₃.planned waits, fun free => ?_⟩
    obtain ⟨hb', -⟩ := h.drifts.waits r b hb planned free
    exact absurd (Option.some.inj (hb'.symm.trans hb₁) ▸ planned) waits

/-- The courses of a tick without a boundary (R53, R54, R58). -/
theorem passes (passed : PassedFrom v v.courseTick) : PassedFrom s t := by
  have before := passed.before h.drifts.courses
  refine ⟨?_, ?_, ?_, ?_, ?_⟩
  · rw [h.courses]
    exact before.plan
  · rw [h.courses]
    exact before.openCount
  · rw [h.courses]
    exact before.countdown
  · rw [h.courses]
    exact before.state
  · rw [h.conditions]
    exact before.told

theorem calling : v.service = s.service := h.drifts.service

theorem liveCount : v.liveCount = s.liveCount := State.liveCount_congr fun d => by
  obtain ⟨-, state, -, -⟩ := h.drifts.courses d
  unfold Course.live
  rw [state]

theorem stateOf (c : CourseId) : (v.courses[c]).state = (s.courses[c]).state
    ∧ (v.courses[c]).countdown = (s.courses[c]).countdown ∧ (v.courses[c]).openCount = (s.courses[c]).openCount
    ∧ (v.courses[c]).plan = (s.courses[c]).plan := by
  obtain ⟨plan, state, countdown, openCount⟩ := h.drifts.courses c
  exact ⟨state, countdown, openCount, plan⟩

/-- No boundary, and no stall that ends (R53, R54, R58). -/
theorem quiet (none' : s.service.state = .none ∨ s.service.state = .ended
    ∨ ∀ c : CourseId, (s.courses[c]).state = .fired → 1 < (s.courses[c]).countdown) :
    t.service = s.service ∧ t.pool = v.handedOver.pool ∧ PassedFrom s t
      ∧ ∀ c : CourseId, (s.courses[c]).state = .fired → WritesCourseMirror s t c := by
  obtain ⟨clears, passed⟩ := State.courseTick_quiet (s := v) <| by
    rw [h.calling]
    refine none'.imp_right fun none' => none'.imp_right fun more c fired => ?_
    obtain ⟨state, countdown, -⟩ := h.stateOf c
    rw [countdown]
    exact more c (state ▸ fired)
  refine ⟨h.service.trans (clears.service.trans (v.passed_service.trans h.calling)),
    h.pool.trans (clears.pool.trans v.passed_sets.1.pool), h.passes passed, fun c fired => h.ofCourse c ?_⟩
  exact clears.marks.courses c (v.passed_sets.2.2 c ((h.stateOf c).1.trans fired))

/-- The boundary of a tick (R63). -/
theorem bounds (running : s.service.state = .running) (calling : s.service.calling? = some c)
    (fired : (s.courses[c]).state = .fired) (last : (s.courses[c]).countdown ≤ 1) :
    ∃ u, PassedFrom s u ∧ u.service = s.service ∧ u.liveCount < s.liveCount ∧ t.courses = u.boundary.courses
      ∧ t.service = u.boundary.service ∧ t.conditions = u.boundary.conditions ∧ WritesServiceMirror s t := by
  obtain ⟨state, countdown, -⟩ := h.stateOf c
  rw [← h.calling] at running calling
  obtain ⟨u, eq, clears, passed⟩ := State.courseTick_calls running calling (state.trans fired) (countdown ▸ last)
  have before := passed.before h.drifts.courses
  have ofService := h.ofService
  rw [eq] at ofService
  exact ⟨u, before, clears.service.trans (v.passed_service.trans h.calling), before.room fired last,
    eq ▸ h.courses, eq ▸ h.service, eq ▸ h.conditions, ofService u.boundary_goesOn.2⟩

/-- A tick that ends a stall (R58, R65, R66). -/
theorem resumes (stalled : s.service.state = .stalled) (calling : s.service.calling? = some c)
    (fired : (s.courses[c]).state = .fired) (last : (s.courses[c]).countdown ≤ 1) (none' : (s.courses[c]).openCount = 0) :
    Resumes v v.courseTick c := by
  obtain ⟨state, countdown, openCount, -⟩ := h.stateOf c
  rw [← h.calling] at stalled calling
  exact State.courseTick_resumes ⟨stalled, calling⟩ (state.trans fired) (countdown ▸ last) (openCount.trans none')

end Ticks

/-- Settles O48: a tick without an effect, the due batches, the passes, the boundary, and a STALLED service. -/
theorem tickCountsCoursesDown : Obligations.TickCountsCoursesDown := by
  refine ⟨fun s order high => ⟨fun none' => ?none, fun due other => ?other⟩, fun s order high due ready => ?ticks⟩
  case none =>
    refine ⟨_, exec_tickIdle order high (.inl none'), ?_⟩
    have eq : s.silent.tick order = s.silent := if_pos none'
    rw [eq]
    exact State.closeEvent_reported _
  case other =>
    refine ⟨_, exec_tickIdle order high (.inr other), ?_⟩
    have eq : s.silent.tick order = s.silent.takers := (if_neg due).trans (if_neg other)
    rw [eq]
    exact State.closeEvent_reported _
  case ticks =>
    obtain ⟨v, t, runs, ticks⟩ := exec_tickTakes order high due ready
    refine ⟨t, runs, ticks.ticksDue, ticks.tickets, ticks.dram,
      fun e k r b mem entry fired hr hb owner planned due' => ticks.releases mem entry fired hr hb owner planned due',
      fun none' => ?quiet, fun c running calling fired last => ?bounds, fun c stalled calling =>
        ⟨fun fired last none' => ?resumes, fun waits => ?stays⟩⟩
    case quiet =>
      obtain ⟨service, pool, passed, writes⟩ := ticks.quiet none'
      refine ⟨service, fun r b hb free planned later => ?_, fun c =>
        ⟨fun other => ⟨?_, ?_⟩, fun fired => ⟨?_, writes c fired, ?_,
        fun last none' => passed.told c fired last none'⟩⟩⟩
      · obtain ⟨hb', free'⟩ := ticks.drifts.waits r b hb planned free
        refine (State.batch_congr pool r).trans (State.handedOver_apart hb' free' fun e k mem hr => ?_)
        obtain ⟨state, countdown, -⟩ := ticks.stateOf k.course
        rw [state, countdown]
        exact later e k (ticks.drifts.tickets ▸ mem) hr
      · rw [passed.state, if_neg fun no => other no.1]
      · rw [passed.countdown, if_neg other]
      · rw [passed.countdown, if_pos fired]
      · rw [passed.state]
        by_cases more : 1 < (s.courses[c]).countdown
        · rw [if_pos more, if_neg fun no => absurd no.2 (not_le.2 more), fired]
        · rw [if_neg more, if_pos ⟨fired, not_lt.1 more⟩]
    case bounds =>
      obtain ⟨u, passed, place, room, courses, service, conditions, writes⟩ := ticks.bounds running calling fired last
      rw [courses, service, conditions]
      have moves := u.boundary_moves
      rw [place] at moves
      refine ⟨writes, fun l pending => ?_, fun none' more => ?_, fun none' ends cycle => ?_, fun none' ends once => ?_,
        fun going d current => ?_⟩
      · rw [State.boundary_pending (by rw [place]; exact pending)]
        obtain ⟨position, list, pending'⟩ := (u.updService (fun v => { v with pending := none })).applyList_service l
        exact ⟨list, position, pending'⟩
      · obtain ⟨position, list⟩ := (moves none').1 more
        exact ⟨list, position⟩
      · obtain ⟨position, list⟩ := (moves none').2.1 ends cycle
        exact ⟨list, position⟩
      · rw [State.boundary_ends (by rw [place]; exact none') (by rw [place]; exact ends) (by rw [place]; exact once)]
        refine ⟨congrArg (fun x : Service => { x with state := .ended }) place, rfl, ?_⟩
        exact (passed.state c).trans (if_pos ⟨fired, last⟩)
      · obtain ⟨stages, stalls⟩ := passed.boundary (place ▸ running) going current
        refine ⟨fun can => ?_, fun live _ => stalls live⟩
        obtain ⟨state, off, on⟩ := stages can
        exact ⟨state, off, fun yes four => on yes (room.trans_le four)⟩
    case resumes =>
      obtain ⟨service, told, mark, staged, fired'⟩ := ticks.resumes stalled calling fired last none'
      obtain ⟨-, -, -, plan⟩ := ticks.stateOf c
      rw [plan] at staged fired'
      rw [ticks.service, ticks.conditions, ticks.courses]
      refine ⟨by rw [service, ticks.calling], told, ticks.ofService mark, staged, fun yes four => fired' yes ?_⟩
      exact ticks.liveCount.trans_le four
    case stays =>
      obtain ⟨state, countdown, openCount, -⟩ := ticks.stateOf c
      rw [ticks.service, State.courseTick_stalled (c := c) (ticks.calling ▸ stalled) (ticks.calling ▸ calling)
        (by rw [state, countdown, openCount]; exact waits), ticks.calling]

end Sys2Proof.Machine
